-- ==== Sys2Proof/Word.lean ====
section
/-! DEFINITION. The word types of the BJ416 (spec/00_scope.md section 5.1, spec/12_record_and_window_layouts.md). -/

namespace Sys2Proof

/-- One byte on a bus or in memory. -/
abbrev Byte := BitVec 8

/-- A 4-byte word, little-endian in memory (00_scope 5.1). -/
abbrev Word := BitVec 32

/-- A 32-bit byte address (00_scope 5.1). -/
abbrev Addr := BitVec 32

/-- A record's 64-bit sequence (R2). An epoch ID is the sequence of its OPEN record. -/
abbrev Seq := BitVec 64

/-- The 64 bytes of a line as one little-endian value: byte `i` is bits `8*i` to `8*i+7`, word `n` is bits
`32*n` to `32*n+31` (00_scope 5.1). -/
abbrev Line := BitVec 512

/-- One mark per byte of a line (R44). -/
abbrev ByteMask := BitVec 64

/-- One mark per word of a line (Table 3-1, R121). -/
abbrev WordMask := BitVec 16

/-- Requester, context and command slot numbers: requester k, context k and slot k belong together
(00_scope 5.3). -/
abbrev Requester := Fin 4

end Sys2Proof
end

