-- ==== Sys2Proof/Syntax.lean ====
section
/-! DEFINITION. The commands of the BJ416: one constructor of `Instr` per row of spec/opcode_table.json, with the
row's operands. -/

namespace Sys2Proof

/-- The status of one word of a DATA response (R124; codes of Table 12-10). `noStatus` is code 3, which names no
status (R186). -/
inductive WordStatus where
  | clean
  | corrected
  | uncorrectable
  | noStatus
  deriving DecidableEq, Repr

/-- What the memory sends back on the D-port (R135, Table 8-2). -/
inductive MemResponse where
  | data (bytes : Line) (statuses : Vector WordStatus 16)
  | done
  | fail
  | unbacked
  deriving DecidableEq, Repr

/-- One data byte of a U-port WRITE with its parity bit (Table 3-1). -/
structure BusByte where
  value : Byte
  parity : Bool
  deriving DecidableEq, Repr

/-- A U-port WRITE (Table 3-1). Its size is the number of bytes it carries. -/
structure WriteRequest where
  requester : Requester
  address : Addr
  bytes : List BusByte
  deriving DecidableEq, Repr

/-- A U-port READ (Table 3-1). These three fields are also what a repeat is recognised by (R82). -/
structure ReadRequest where
  requester : Requester
  address : Addr
  size : Nat
  deriving DecidableEq, Repr

/-- A 4-byte write to one window word whose place the command's row fixes: who writes, the value, and the parity bit
of each byte (bit `i` goes with byte `i`). -/
structure WordWrite where
  requester : Requester
  value : Word
  parity : BitVec 4
  deriving DecidableEq, Repr

/-- Which word of a command slot a sequence error writes (R105). -/
inductive OutOfOrderWord where
  | word1
  | word2
  deriving DecidableEq, Repr

/-- The 60 commands. A D-port response carries the issue number the memory returns with it (R136). -/
inductive Instr where
  -- Reset and start-up (chapter 10)
  | reset (cwb : BitVec 16) (memReady : Bool)
  | memReadyFoundAsserted
  | configurationReadResponse (issue : Byte) (resp : MemResponse)
  | regionLineReadResponse (issue : Byte) (resp : MemResponse)
  | descriptorReadResponse (issue : Byte) (resp : MemResponse)
  | scanReadResponse (issue : Byte) (resp : MemResponse)
  | playbackHeaderReadResponse (issue : Byte) (resp : MemResponse)
  | playbackDataReadResponse (issue : Byte) (resp : MemResponse)
  | playbackRestoreWriteDurable (issue : Byte) (resp : MemResponse)
  | recoveryMarkerDurable (issue : Byte) (resp : MemResponse)
  -- U-port requests (chapters 3 and 5)
  | writeRequest (w : WriteRequest)
  | readRequest (r : ReadRequest)
  -- Window writes (chapters 3, 6, 9, 11)
  | windowWrite (requester : Requester) (offset : BitVec 12) (bytes : List BusByte)
  | stagedBaseWrite (w : WordWrite)
  | stagedSlotCountWrite (w : WordWrite)
  | parityCheckWrite (w : WordWrite)
  | discardIntervalWrite (w : WordWrite)
  | patrolIntervalWrite (w : WordWrite)
  | lowMarkWrite (w : WordWrite)
  | interruptMaskWrite (w : WordWrite)
  | acknowledgeWrite (w : WordWrite)
  | regionWordAWrite (entry : Fin 16) (w : WordWrite)
  | regionWordBWrite (entry : Fin 16) (w : WordWrite)
  | commandWord0Write (slot : Requester) (w : WordWrite)
  | commandWord1Write (slot : Requester) (w : WordWrite)
  | sequenceError (slot : Requester) (which : OutOfOrderWord) (w : WordWrite)
  -- Closing words that take a command (chapter 6)
  | openCommand (slot : Requester) (w : WordWrite)
  | commitCommand (slot : Requester) (w : WordWrite)
  | abortCommand (slot : Requester) (w : WordWrite)
  | drainCommand (slot : Requester) (w : WordWrite)
  | reportCommand (slot : Requester) (w : WordWrite)
  | clearCountersCommand (slot : Requester) (w : WordWrite)
  | reinitCommand (slot : Requester) (w : WordWrite)
  | unknownOpcode (slot : Requester) (w : WordWrite)
  -- Reads (chapter 5)
  | straightReadResponse (issue : Byte) (resp : MemResponse)
  | deferredFetchResponse (issue : Byte) (resp : MemResponse)
  | discardTimerExpiry (entry : ReadRequest)
  -- Posted entries (chapter 4)
  | oldReadResponse (issue : Byte) (resp : MemResponse)
  | recordDataDurable (issue : Byte) (resp : MemResponse)
  | recordHeaderDurable (issue : Byte) (resp : MemResponse)
  | landing (issue : Byte)
  | unbackedWrite (issue : Byte)
  -- Jobs (chapters 1, 2, 4, 11)
  | openRecordDurable (issue : Byte) (resp : MemResponse)
  | commitMarkerDurable (issue : Byte) (resp : MemResponse)
  | restoreHeaderReadResponse (issue : Byte) (resp : MemResponse)
  | restoreDataReadResponse (issue : Byte) (resp : MemResponse)
  | restoreWriteDurable (issue : Byte) (resp : MemResponse)
  | abortedMarkerDurable (issue : Byte) (resp : MemResponse)
  | descriptorInvalidateDurable (issue : Byte) (resp : MemResponse)
  | formatLineDurable (issue : Byte) (resp : MemResponse)
  | descriptorWriteDurable (issue : Byte) (resp : MemResponse)
  | resultRecordDurable (issue : Byte) (resp : MemResponse)
  | statusFirstLineDurable (issue : Byte) (resp : MemResponse)
  | statusRecordDurable (issue : Byte) (resp : MemResponse)
  -- Patrol (chapter 9)
  | patrolIntervalExpiry
  | patrolReadResponse (issue : Byte) (resp : MemResponse)
  | patrolRenewResponse (issue : Byte) (resp : MemResponse)
  -- The D-port itself (chapter 8)
  | responseTimerExpiry
  | ignoredResponse (issue : Byte) (resp : MemResponse)
  | dataWriteFailed (issue : Byte) (resp : MemResponse)
  deriving DecidableEq, Repr

end Sys2Proof
end

