-- ==== Sys2Proof/Decode.lean ====
section
/-! DEFINITION. The command a word spells by the table's bits. Every row of spec/opcode_table.json has "fields": []
and no fixed bits: the commands of this part are events, not words, so no word spells one (log 20). -/

namespace Sys2Proof

/-- No row of the table gives bits: no word is a command, and every one is rejected. -/
def decodeTableWord (_nbits _w : Nat) : Option Instr := none

end Sys2Proof
end

