-- ==== Sys2Proof/Config.lean ====
section
/-! DEFINITION. What the part fixes (its sizes and limits), and the free values the spec leaves open. -/

namespace Sys2Proof.Config

/-- Posted Write Queue entries (R63). -/
def queueCapacity : Nat := 16

/-- Deferred Read Table entries (R85). -/
def deferredCapacity : Nat := 8

/-- Held-Line Table entries (R34). -/
def heldCapacity : Nat := 512

/-- Job List places (R75). -/
def jobCapacity : Nat := 6

/-- The control window's size in bytes (R48). -/
def windowBytes : Nat := 4096

/-- The smallest and the largest slot count of a ring (R1). -/
def minSlots : Nat := 64
def maxSlots : Nat := 65536

/-- The D-port response timeout in microseconds (R137). -/
def responseTimeout : Nat := 256

/-- The unit of the discard interval in microseconds (R94). -/
def discardUnit : Nat := 16

/-- The patrol wait count at which P is granted (R142). -/
def patrolBound : Nat := 16

/-- The descriptor's format value (R181). -/
def descriptorFormat : Word := 0x0001B416#32

/-- FREE VALUE (log 6). The head sequence that follows 2^64 - 1. A sequence is a "64-bit unsigned count" (R2) and the
spec states no result there; the argument is the number of free values drawn before. -/
opaque sequenceAfterLast : Nat → Seq

end Sys2Proof.Config
end

