-- ==== Sys2Proof/Machine/State.lean ====
section
/-! DEFINITION. The state of the BJ416, block by block, as plain data, and the state after reset. -/

namespace Sys2Proof.Machine

/-! ## Start-up Controller (chapter 10) -/

/-- The six device states (R154). -/
inductive DeviceState where
  | start
  | load
  | scan
  | playback
  | run
  | stopped
  deriving DecidableEq, Repr

/-- Record kinds (R3; Table 12-2). -/
inductive RecordKind where
  | openRecord
  | capture
  | commit
  | aborted
  deriving DecidableEq, Repr

/-- What the scan keeps of a valid header (R161). The context is the header's whole byte (R180). -/
structure SlotSummary where
  sequence : Seq
  kind : RecordKind
  context : Byte
  epoch : Seq
  deriving DecidableEq, Repr

/-- One epoch of the unfinished set with its playback counts (R163). -/
structure UnfinishedEpoch where
  epoch : Seq
  context : Byte
  restored : Nat
  failed : Nat
  deriving DecidableEq, Repr

/-- The request the Start-up Controller has ready or outstanding (R157, R160, R166, R167). `playData` keeps the header
line read before it (`none`: the read failed or reported a word UNCORRECTABLE); `playWrite` keeps the restore write
it formed and whether the record was good. -/
inductive StartupStep where
  | idle
  | readConfiguration
  | readRegions (secondLine : Bool)
  | readDescriptor
  | readSlot
  | playHeader
  | playData (header : Option Line)
  | playWrite (line : Addr) (image : Line) (poison : WordMask) (good : Bool)
  | marker (index : Nat)
  deriving DecidableEq, Repr

/-- Start-up Controller state (Table 10-3); the device state stands in `State.device`. -/
structure Startup where
  step : StartupStep
  summary : List (Option SlotSummary)
  nextSlot : Nat
  highest : Option Seq
  run : Option (Seq × Seq)
  unfinished : List UnfinishedEpoch
  playback : List Seq
  position : Nat
  rolledBack : BitVec 16
  linesRestored : BitVec 16
  linesFailed : BitVec 16
  deriving DecidableEq, Repr

/-! ## Admission Unit, Region Table, U-port and settings (chapters 3 and 6) -/

/-- Region modes (Table 3-4). -/
inductive RegionMode where
  | off
  | logged
  | guarded
  | readonly
  deriving DecidableEq, Repr

/-- A Region Table entry (R49). -/
structure Region where
  base : Addr
  limit : Addr
  mode : RegionMode
  staged : Addr
  deriving DecidableEq, Repr

/-- The settings in force (R98, Table 6-2). -/
structure Settings where
  stagedBase : Word
  stagedSlots : Word
  parityCheck : Bool
  discardInterval : Nat
  patrolInterval : Nat
  lowMark : Nat
  interruptMask : Byte
  deriving DecidableEq, Repr

/-- The thirteen fault reasons (Table 3-2). -/
inductive FaultReason where
  | malformed
  | protectedWord
  | parity
  | readOnly
  | guarded
  | conflict
  | holdFull
  | epochLimit
  | journalFull
  | regionLocked
  | busy
  | memory
  | stopped
  deriving DecidableEq, Repr

/-- The U-port's answers (R45). A READ's DONE carries the bytes with their parity and the poison flags of the words
the read touches (R84). -/
inductive Answer where
  | written
  | read (bytes : List BusByte) (poison : List Bool)
  | retry
  | fault (reason : FaultReason)
  deriving DecidableEq, Repr

/-- A request on the requesters' bus (R44). -/
inductive UportRequest where
  | write (w : WriteRequest)
  | read (r : ReadRequest)
  deriving DecidableEq, Repr

/-- The U-port (R45): the straight read it holds, the requests presented to it and not yet taken (log 3), and the
answers it has given, oldest first (log 4). -/
structure Uport where
  inProgress : Option ReadRequest
  waiting : List UportRequest
  answers : List (Requester × Answer)
  deriving DecidableEq, Repr

/-! ## Epoch Contexts and the Held-Line Table (chapter 2) -/

/-- Context states (Table 2-1). -/
inductive ContextState where
  | closed
  | opened
  | closing
  | aborting
  deriving DecidableEq, Repr

/-- An epoch context (Table 2-1). The held-line count is computed from the Held-Line Table (R22) and the reserved
count is kept by the Journal Manager. `openOwed`: OPEN has been taken and its record is not durable yet (R68). -/
structure Context where
  state : ContextState
  epoch : Option Seq
  openWritten : Bool
  openOwed : Bool
  lineLimit : Nat
  restored : Nat
  failed : Nat
  deriving DecidableEq, Repr

/-- Held-Line Table entry states (Table 2-3). -/
inductive HeldState where
  | capturing
  | held
  | restoring
  deriving DecidableEq, Repr

/-- A Held-Line Table entry (Table 2-3). -/
structure HeldEntry where
  line : Addr
  holder : Requester
  state : HeldState
  record : Option Seq
  deriving DecidableEq, Repr

/-! ## Journal Manager (chapter 1) -/

/-- Why the journal is ABSENT (R10). -/
inductive AbsentReason where
  | descriptorInvalid
  | scanFailed
  deriving DecidableEq, Repr

/-- Journal states (Table 1-4); the reason is present in ABSENT only. -/
inductive JournalState where
  | absent (reason : AbsentReason)
  | formatting
  | ready
  | recovering
  deriving DecidableEq, Repr

/-- A ring's base and slot count S (R1). -/
structure Geometry where
  base : Addr
  slots : Nat
  deriving DecidableEq, Repr

/-- Journal Manager state (Table 1-4). Used and free are computed from it (R9). -/
structure Journal where
  state : JournalState
  geometry : Option Geometry
  head : Seq
  tail : Seq
  reserved : Vector Nat 4
  deriving DecidableEq, Repr

/-! ## Posted Write Queue and Write Engine (chapter 4) -/

/-- Posted entry classes (Table 4-1). -/
inductive EntryClass where
  | bare
  | capture
  | window
  deriving DecidableEq, Repr

/-- A posted entry (Table 4-1). The data bytes stand at their place in the line. -/
structure PostedEntry where
  number : BitVec 32
  requester : Requester
  line : Addr
  byteMask : ByteMask
  data : Line
  poison : WordMask
  cls : EntryClass
  context : Option Requester
  commandClose : Bool
  deriving DecidableEq, Repr

/-- The Posted Write Queue, oldest entry first, and the acceptance counter (R63, R64). -/
structure WriteQueue where
  entries : List PostedEntry
  nextNumber : BitVec 32
  deriving DecidableEq, Repr

/-- The capture buffer's contents (R69). -/
structure CaptureBuffer where
  bytes : Line
  statuses : Vector WordStatus 16
  failed : Bool
  deriving DecidableEq, Repr

/-- Steps of the head entry (Table 4-2). `recordData` holds the sequence once its write is issued (R70). -/
inductive EntryStep where
  | oldRead
  | recordData (sequence : Option Seq)
  | recordHeader (sequence : Seq)
  | dataWrite
  deriving DecidableEq, Repr

/-- Steps of jobs (Table 4-3). -/
inductive JobStep where
  | openRecord
  | commitMarker
  | restore
  | abortedMarker
  | descriptorInvalidate
  | formatSlot (slot : Nat)
  | descriptorWrite
  | statusRecord
  | result
  deriving DecidableEq, Repr

/-- The three requests of a restore step (R39 to R41). `data` keeps the header line read (`none`: the read failed or
reported a word UNCORRECTABLE). -/
inductive RestorePhase where
  | header
  | data (header : Option Line)
  | write (image : Line) (poison : WordMask) (good : Bool)
  deriving DecidableEq, Repr

/-- The Write Engine's unit in progress (Table 4-5): the head entry at one of its steps, or a step of the oldest job.
`write` is a job step of one D-port WRITE; `restore` names the line and the record being restored; `statusFirst`
keeps the second line once the snapshot is taken (R175). -/
inductive WorkUnit where
  | entry (step : EntryStep)
  | write (step : JobStep)
  | restore (line : Addr) (record : Seq) (phase : RestorePhase)
  | statusFirst (second : Option Line)
  | statusSecond (second : Line)
  deriving DecidableEq, Repr

/-- The last unit mark (R78). -/
inductive UnitKind where
  | entry
  | job
  deriving DecidableEq, Repr

/-- Write Engine state (Table 4-5). Its outstanding request is the D-port's. -/
structure WriteEngine where
  work : Option WorkUnit
  buffer : Option CaptureBuffer
  lastUnit : UnitKind
  deriving DecidableEq, Repr

/-- Whom a job is run for (R75). -/
inductive JobOwner where
  | slot (k : Requester)
  | statusUnit
  deriving DecidableEq, Repr

/-- Kinds of job (Table 4-3). -/
inductive JobKind where
  | openEpoch
  | commit
  | abort
  | reinit
  | report
  | drain
  | clearCounters
  | refused
  | status
  deriving DecidableEq, Repr

/-- Terminations (Table 6-5). -/
inductive Termination where
  | complete
  | partly
  | refused
  deriving DecidableEq, Repr

/-- Result reasons (Table 6-5; Table 12-2). -/
inductive ResultReason where
  | noReason
  | state
  | limit
  | noJournal
  | journalFull
  | geometry
  | opcode
  | sequence
  | restoreFailed
  deriving DecidableEq, Repr

/-- A job (R75). -/
structure Job where
  owner : JobOwner
  kind : JobKind
  next : JobStep
  termination : Termination
  reason : ResultReason
  lineCount : Nat
  failedCount : Nat
  deriving DecidableEq, Repr

/-! ## Deferred Read Table (chapter 5) -/

/-- Deferred entry states (Table 5-2). -/
inductive FetchState where
  | waiting
  | issued
  | ready
  deriving DecidableEq, Repr

/-- A Deferred Read Table entry (Table 5-1). A running discard timer holds its interval in microseconds. -/
structure DeferredRead where
  key : ReadRequest
  state : FetchState
  stale : Bool
  waitMark : Option (BitVec 32)
  data : List Byte
  poison : List Bool
  failed : Bool
  timer : Option Nat
  deriving DecidableEq, Repr

/-! ## Command Unit (chapter 6) -/

/-- Which words of the next command have been accepted (Table 6-3). -/
inductive Staging where
  | empty
  | word0
  | word1
  deriving DecidableEq, Repr

/-- The staged opcode and tag (R102). -/
structure CommandWord where
  opcode : BitVec 4
  tag : Byte
  deriving DecidableEq, Repr

/-- What a taking fixed: taken, or refused with a reason (R104, R105). -/
inductive Verdict where
  | taken
  | refused (reason : ResultReason)
  deriving DecidableEq, Repr

/-- A slot's decision, with the opcode and tag its result record will carry (R116). -/
structure Decision where
  word : CommandWord
  verdict : Verdict
  deriving DecidableEq, Repr

/-- Command slot phases (Table 6-3). -/
inductive Phase where
  | idle
  | executing
  deriving DecidableEq, Repr

/-- A command slot (Table 6-3). -/
structure CommandSlot where
  staging : Staging
  word : Option CommandWord
  argA : Option Word
  phase : Phase
  decision : Option Decision
  resultCount : Byte
  deriving DecidableEq, Repr

/-! ## Patrol Unit (chapter 9) -/

/-- Patrol states (R145). -/
inductive PatrolState where
  | off
  | wait
  | read
  | renew
  deriving DecidableEq, Repr

/-- Patrol Unit state (Table 9-1). A running timer holds its interval in microseconds. -/
structure Patrol where
  state : PatrolState
  cursor : Option (Fin 16 × Addr)
  stepLine : Option Addr
  placed : Bool
  timer : Option Nat
  deriving DecidableEq, Repr

/-! ## D-port and Arbiter (chapter 8) -/

/-- A D-port request (Table 8-1). -/
inductive DportRequest where
  | read (line : Addr)
  | write (line : Addr) (byteMask : ByteMask) (data : Line) (poison : WordMask)
  | renew (line : Addr)
  deriving DecidableEq, Repr

/-- Who issued a request (R139); the Read List's two kinds of member are told apart (R140). -/
inductive Client where
  | writeEngine
  | straightRead
  | deferredRead (key : ReadRequest)
  | patrol
  | startup
  deriving DecidableEq, Repr

/-- The outstanding request with its client and the issue number it carries (R136). -/
structure Outstanding where
  client : Client
  request : DportRequest
  issue : Byte
  deriving DecidableEq, Repr

/-- Read List members (R140). The straight read is the one the U-port holds. -/
inductive ReadMember where
  | straight
  | deferred (key : ReadRequest)
  deriving DecidableEq, Repr

/-- The last W/R grant mark (R141). -/
inductive GrantMark where
  | w
  | r
  deriving DecidableEq, Repr

/-- D-port and Arbiter state (Table 8-5). A running response timer holds its interval in microseconds. -/
structure Dport where
  outstanding : Option Outstanding
  issueNumber : Byte
  timer : Option Nat
  readList : List ReadMember
  lastGrant : GrantMark
  patrolWait : Nat
  deriving DecidableEq, Repr

/-! ## Status Unit (chapter 11) -/

/-- ERROR detail kinds (Table 7-3). -/
inductive ErrorKind where
  | writeParity
  | capturePoison
  | captureFail
  | unbackedWrite
  | patrolUncorrectable
  | loadInvalid
  | scanFailed
  deriving DecidableEq, Repr

/-- The last-error record (R128). -/
structure LastError where
  kind : Option ErrorKind
  address : Addr
  deriving DecidableEq, Repr

/-- The twelve counters (Table 11-3). -/
structure Counters where
  captures : BitVec 16
  conflicts : BitVec 16
  spaceFaults : BitVec 16
  fullRetries : BitVec 16
  discards : BitVec 16
  requeues : BitVec 16
  parityErrors : BitVec 16
  poisonReads : BitVec 16
  patrolRenews : BitVec 16
  patrolBad : BitVec 16
  restoreFails : BitVec 16
  abandoned : BitVec 16
  deriving DecidableEq, Repr

/-- Status Unit state (chapter 11). The pending causes stand one bit per cause, by Table 12-7. -/
structure StatusUnit where
  causes : Byte
  dirty : Bool
  lastError : LastError
  counters : Counters
  count : BitVec 32
  deriving DecidableEq, Repr

/-! ## The whole part -/

/-- The state of the part. `pending` is the model's queue of commands waiting, first in first out (log 2);
`freeDraws` counts the free values drawn (log 6). -/
structure State where
  pending : List Instr
  device : DeviceState
  cwb : BitVec 16
  memReady : Bool
  uport : Uport
  regions : Vector Region 16
  settings : Settings
  contexts : Vector Context 4
  held : List HeldEntry
  journal : Journal
  queue : WriteQueue
  engine : WriteEngine
  jobs : List Job
  reads : List DeferredRead
  slots : Vector CommandSlot 4
  patrol : Patrol
  dport : Dport
  startup : Startup
  status : StatusUnit
  freeDraws : Nat
  deriving DecidableEq, Repr

/-- Why the machine stops. No rule of the spec stops the model: a damaged or failed memory access, STOPPED included,
is a next state (R129, R130). There is no constructor, so no command faults. -/
inductive Fault where
  deriving DecidableEq, Repr

/-- Why a command has no meaning in the model. -/
inductive Refusal where
  /-- Raised by an arm of `exec` for a command that has no meaning yet; no arm raises it. Safe. -/
  | notModelled (mnemonic : String)
  deriving DecidableEq, Repr

/-! ## Reset values (R155, Table 10-2) -/

/-- R49. -/
def Region.reset : Region := ⟨0, 0, .off, 0⟩

/-- R98, Table 6-2. -/
def Settings.reset : Settings := ⟨0, 0, true, 64, 0, 16, 0xFF⟩

/-- R22, Table 2-1. -/
def Context.reset : Context := ⟨.closed, none, false, false, 512, 0, 0⟩

/-- Table 1-4. -/
def Journal.reset : Journal := ⟨.recovering, none, 0, 0, Vector.replicate 4 0⟩

/-- Table 6-3. -/
def CommandSlot.reset : CommandSlot := ⟨.empty, none, none, .idle, none, 0⟩

/-- Table 9-1. -/
def Patrol.reset : Patrol := ⟨.off, none, none, false, none⟩

/-- Table 8-5. -/
def Dport.reset : Dport := ⟨none, 0, none, [], .r, 0⟩

/-- Table 10-3. -/
def Startup.reset : Startup := ⟨.idle, [], 0, none, none, [], [], 0, 0, 0, 0⟩

/-- R178. -/
def Counters.zero : Counters := ⟨0, 0, 0, 0, 0, 0, 0, 0, 0, 0, 0, 0⟩

/-- R171, R173, R175, R176. -/
def StatusUnit.reset : StatusUnit := ⟨0, false, ⟨none, 0⟩, Counters.zero, 0⟩

/-- The part right after reset (R155), with straps 0, MEM_READY deasserted and no command waiting (log 2, log 7). -/
def State.reset : State where
  pending := []
  device := .start
  cwb := 0
  memReady := false
  uport := ⟨none, [], []⟩
  regions := Vector.replicate 16 Region.reset
  settings := Settings.reset
  contexts := Vector.replicate 4 Context.reset
  held := []
  journal := Journal.reset
  queue := ⟨[], 0⟩
  engine := ⟨none, none, .job⟩
  jobs := []
  reads := []
  slots := Vector.replicate 4 CommandSlot.reset
  patrol := Patrol.reset
  dport := Dport.reset
  startup := Startup.reset
  status := StatusUnit.reset
  freeDraws := 0

end Sys2Proof.Machine
end

