-- ==== Sys2Proof/Machine/Flags.lean ====
section
/-! DEFINITION. The Status Unit's flags: pending causes, the status-dirty flag and the status job it places, ERROR
raises, INT_N and the counters (R128, R171 to R174, R178). -/

namespace Sys2Proof.Machine

/-! ## Pending causes (R171, Table 12-7) -/

/-- The eight pending causes. -/
inductive Cause where
  | result (k : Requester)
  | error
  | low
  | started
  | stopped
  deriving DecidableEq, Repr

/-- A cause's bit (Table 12-7). -/
def Cause.bit : Cause → Nat
  | .result k => k.val
  | .error => 4
  | .low => 5
  | .started => 6
  | .stopped => 7

/-- A cause's mark (Table 12-7). -/
def Cause.mark (c : Cause) : Byte := 1#8 <<< c.bit

/-- Is a cause pending? -/
def State.isPending (s : State) (c : Cause) : Bool := s.status.causes.getLsbD c.bit

/-- INT_N is asserted exactly when STOPPED is pending, or a pending cause is set whose mask bit is set (R172). -/
def State.interrupt (s : State) : Bool :=
  s.isPending .stopped || (s.status.causes &&& s.settings.interruptMask) != 0

/-! ## The status-dirty flag and the status job (R173, R174) -/

/-- The status job (Table 4-3). -/
def statusJob : Job := ⟨.statusUnit, .status, .statusRecord, .complete, .noReason, 0, 0⟩

/-- Does a status job stand in the Job List? -/
def State.hasStatusJob (s : State) : Bool := s.jobs.any fun j => j.owner == .statusUnit

/-- Put a job at the end of the Job List (R75: placing never fails). -/
def placeJob (j : Job) (s : State) : State := { s with jobs := s.jobs ++ [j] }

/-- Set the status-dirty flag. When it becomes set while no status job stands in the list, one is placed (R174). -/
def setDirty (s : State) : State :=
  let s' := { s with status := { s.status with dirty := true } }
  if s.status.dirty || s.hasStatusJob then s' else placeJob statusJob s'

/-- Replace the pending set; a change of it sets the status-dirty flag (R173). -/
def setCauses (c : Byte) (s : State) : State :=
  if c = s.status.causes then s else setDirty { s with status := { s.status with causes := c } }

/-- Raise a cause (R171). A cause already pending stays pending, which is no change. -/
def raiseCause (c : Cause) (s : State) : State := setCauses (s.status.causes ||| c.mark) s

/-- Raise ERROR: the last-error record is replaced, ERROR becomes or stays pending, and the status-dirty flag is set
(R128). -/
def raiseError (kind : ErrorKind) (addr : Addr) (s : State) : State :=
  setDirty { s with status := { s.status with
    lastError := ⟨some kind, addr⟩
    causes := s.status.causes ||| Cause.error.mark } }

/-- Clear the causes whose marks are written 1; the STOPPED mark has no effect (R100). -/
def acknowledge (ack : Byte) (s : State) : State :=
  setCauses (s.status.causes &&& ~~~(ack &&& 0x7F#8)) s

/-! ## Counters (R178) -/

/-- A counter rises by 1 and stays at 65,535 (R178). Also the start-up outcome's fields (R185). -/
def satInc (n : BitVec 16) : BitVec 16 := if n = 0xFFFF#16 then n else n + 1

/-- The twelve counters by name. -/
inductive Counter where
  | captures
  | conflicts
  | spaceFaults
  | fullRetries
  | discards
  | requeues
  | parityErrors
  | poisonReads
  | patrolRenews
  | patrolBad
  | restoreFails
  | abandoned
  deriving DecidableEq, Repr

/-- The counters with one of them raised. -/
def Counters.raise (n : Counters) : Counter → Counters
  | .captures => { n with captures := satInc n.captures }
  | .conflicts => { n with conflicts := satInc n.conflicts }
  | .spaceFaults => { n with spaceFaults := satInc n.spaceFaults }
  | .fullRetries => { n with fullRetries := satInc n.fullRetries }
  | .discards => { n with discards := satInc n.discards }
  | .requeues => { n with requeues := satInc n.requeues }
  | .parityErrors => { n with parityErrors := satInc n.parityErrors }
  | .poisonReads => { n with poisonReads := satInc n.poisonReads }
  | .patrolRenews => { n with patrolRenews := satInc n.patrolRenews }
  | .patrolBad => { n with patrolBad := satInc n.patrolBad }
  | .restoreFails => { n with restoreFails := satInc n.restoreFails }
  | .abandoned => { n with abandoned := satInc n.abandoned }

/-- A counter's value. -/
def Counters.get (n : Counters) : Counter → BitVec 16
  | .captures => n.captures
  | .conflicts => n.conflicts
  | .spaceFaults => n.spaceFaults
  | .fullRetries => n.fullRetries
  | .discards => n.discards
  | .requeues => n.requeues
  | .parityErrors => n.parityErrors
  | .poisonReads => n.poisonReads
  | .patrolRenews => n.patrolRenews
  | .patrolBad => n.patrolBad
  | .restoreFails => n.restoreFails
  | .abandoned => n.abandoned

/-- Raise a counter by 1. It sets no flag (R173). -/
def count (c : Counter) (s : State) : State :=
  { s with status := { s.status with counters := s.status.counters.raise c } }

/-- Raise a counter when a condition holds. -/
def countIf (b : Bool) (c : Counter) (s : State) : State := if b then count c s else s

/-- Raise a counter `n` times. -/
def countTimes (c : Counter) : Nat → State → State
  | 0, s => s
  | n + 1, s => countTimes c n (count c s)

/-- Set the twelve counters to 0 at once (R179). -/
def clearCounters (s : State) : State :=
  { s with status := { s.status with counters := Counters.zero } }

end Sys2Proof.Machine
end

