-- ==== Sys2Proof/Machine/Operands.lean ====
section
/-! DEFINITION. Operand forms: a request's line, size and byte mask, parity, words and bytes of a line, and the
word statuses of a DATA response (R44, R84, R118 to R120, R124). -/

namespace Sys2Proof.Machine

/-! ## Addresses -/

/-- The line an address lies in: the address with the low six bits cleared (R44). -/
def lineOf (a : Addr) : Addr := a &&& 0xFFFFFFC0#32

/-- The place of an address in its line. -/
def offsetInLine (a : Addr) : Nat := a.toNat % 64

/-- The line address `n` bytes above `a`. -/
def addrPlus (a : Addr) (n : Nat) : Addr := a + BitVec.ofNat 32 n

/-- Do the byte spans from `a` to `a + n - 1` and from `b` to `b + m - 1` share a byte? -/
def spansOverlap (a n b m : Nat) : Bool := decide (a < b + m) && decide (b < a + n)

/-- The seven sizes (Table 3-1). -/
def legalSize (n : Nat) : Bool := [1, 2, 4, 8, 16, 32, 64].contains n

/-- MALFORMED: not one of the seven sizes, or not a multiple of the size (R44). -/
def malformed (a : Addr) (n : Nat) : Bool := !legalSize n || a.toNat % n != 0

/-! ## Bytes and words of a line -/

/-- Byte `i` of a line. -/
def lineByte (l : Line) (i : Nat) : Byte := l.extractLsb' (8 * i) 8

/-- Word `n` of a line (00_scope 5.1). -/
def lineWord (l : Line) (n : Nat) : Word := l.extractLsb' (32 * n) 32

/-- Bytes laid out from the line's first byte on. -/
def bytesToLine : List Byte → Line
  | [] => 0
  | b :: bs => (bytesToLine bs <<< 8) ||| b.setWidth 512

/-- The line that carries `bytes` from byte `off` on. -/
def placeBytes (off : Nat) (bytes : List Byte) : Line := bytesToLine bytes <<< (8 * off)

/-- The byte mask of `n` bytes from byte `off` on (R44). -/
def byteMaskAt (off n : Nat) : ByteMask := (BitVec.allOnes 64 >>> (64 - n)) <<< off

/-- Every byte of a line enabled. -/
def allBytes : ByteMask := BitVec.allOnes 64

/-- Every word marked. -/
def allWords : WordMask := BitVec.allOnes 16

/-- The 32-bit value of four bytes, little-endian. -/
def bytesToWord (bytes : List Byte) : Word := (bytesToLine bytes).setWidth 32

/-- The bits of the words marked in `m`, over the first `n` words. -/
def wordBits (m : WordMask) : Nat → Line
  | 0 => 0
  | n + 1 => wordBits m n ||| (if m.getLsbD n then (0xFFFFFFFF#512 <<< (32 * n)) else 0)

/-- A line with the marked words replaced by zeros (R5). -/
def zeroWords (m : WordMask) (l : Line) : Line := l &&& ~~~(wordBits m 16)

/-! ## Parity (R118, R120) -/

/-- Does a byte hold an odd number of ones? -/
def oddOnes (b : Byte) : Bool :=
  b.getLsbD 0 ^^ b.getLsbD 1 ^^ b.getLsbD 2 ^^ b.getLsbD 3 ^^ b.getLsbD 4 ^^ b.getLsbD 5 ^^ b.getLsbD 6 ^^ b.getLsbD 7

/-- The odd-parity bit of a byte: with it the nine bits hold an odd number of ones (R120). -/
def parityBit (b : Byte) : Bool := !oddOnes b

/-- Bad parity: the nine bits hold an even number of ones (chapter 7.1). -/
def badParity (b : BusByte) : Bool := b.parity != parityBit b.value

/-- The words that hold at least one bad byte, the first byte standing at byte `off` of the line (R119). -/
def damagedWords (off : Nat) : List BusByte → WordMask
  | [] => 0
  | b :: bs => (if badParity b then 1#16 <<< (off / 4) else 0) ||| damagedWords (off + 1) bs

/-- The four bytes of a write to one window word. -/
def wordBytes (w : WordWrite) : List BusByte :=
  [⟨w.value.extractLsb' 0 8, w.parity.getLsbD 0⟩, ⟨w.value.extractLsb' 8 8, w.parity.getLsbD 1⟩,
   ⟨w.value.extractLsb' 16 8, w.parity.getLsbD 2⟩, ⟨w.value.extractLsb' 24 8, w.parity.getLsbD 3⟩]

/-! ## Word statuses (R124) -/

/-- One mark per listed word, the first word's mark in bit 0. -/
def marks : List Bool → WordMask
  | [] => 0
  | b :: bs => (marks bs <<< 1) ||| (if b then 1 else 0)

/-- The words reported UNCORRECTABLE. -/
def uncorrectable (st : Vector WordStatus 16) : WordMask := marks (st.toList.map (· == .uncorrectable))

/-- The words reported CORRECTED. -/
def corrected (st : Vector WordStatus 16) : WordMask := marks (st.toList.map (· == .corrected))

/-- A word status of 3 names no status (R186). -/
def statusesNamed (st : Vector WordStatus 16) : Bool := st.toList.all (· != .noStatus)

/-! ## What a READ hands over (R84) -/

/-- The `n` bytes of a line from byte `off` on. -/
def bytesFrom (l : Line) (off n : Nat) : List Byte := (List.range n).map fun i => lineByte l (off + i)

/-- The number of words a read of `n` bytes touches: one for 1, 2 or 4 bytes, `n / 4` from 8 bytes on (R84). -/
def wordsTouched (n : Nat) : Nat := if n < 8 then 1 else n / 4

/-- One poison flag per word touched by a read of `n` bytes from byte `off` on (R84). -/
def poisonFlags (mask : WordMask) (off n : Nat) : List Bool :=
  (List.range (wordsTouched n)).map fun i => mask.getLsbD (off / 4 + i)

/-- The bytes with the parity the part generates (R120). -/
def withParity (bytes : List Byte) : List BusByte := bytes.map fun b => ⟨b, parityBit b⟩

end Sys2Proof.Machine
end

