-- ==== Sys2Proof/Machine/Layout.lean ====
section
/-! DEFINITION. The check code, and the layouts of the journal header line, the journal descriptor and the host-written
words (R4, R6, R17, R180 to R183, R186). -/

namespace Sys2Proof.Machine

/-! ## CRC-32 (R6)

Bytes in ascending address order, each least significant bit first, is the order of the bits of a little-endian value
from bit 0 up. -/

/-- One bit through the remainder: generator 04C11DB7h in reflected form. -/
def crcBit (r : Word) (b : Bool) : Word :=
  if (r.getLsbD 0 ^^ b) then (r >>> 1) ^^^ 0xEDB88320#32 else r >>> 1

/-- The remainder after the first `n` bits of `v`, from FFFFFFFFh. -/
def crcRemainder {w : Nat} (v : BitVec w) : Nat → Word
  | 0 => 0xFFFFFFFF#32
  | n + 1 => crcBit (crcRemainder v n) (v.getLsbD n)

/-- The check of the bytes of `v`: the final remainder complemented. -/
def crc32 {w : Nat} (v : BitVec w) : Word := ~~~(crcRemainder v w)

/-! ## Header lines (R4, R180) -/

/-- Encoding of record kinds (Table 12-2). -/
def RecordKind.code : RecordKind → Byte
  | .openRecord => 1
  | .capture => 2
  | .commit => 3
  | .aborted => 4

/-- The record kind a byte holds; 0 and 5 to 255 are no kind. -/
def RecordKind.ofCode (b : Byte) : Option RecordKind :=
  if b = 1 then some .openRecord else if b = 2 then some .capture
  else if b = 3 then some .commit else if b = 4 then some .aborted else none

/-- ABORTED origins (Table 12-2). -/
def originCommand : Byte := 1
def originRecovery : Byte := 2

/-- The fields of a header line (Table 12-1). -/
structure Header where
  sequence : Seq
  kind : RecordKind
  context : Byte
  origin : Byte
  line : Addr
  epoch : Seq
  poison : WordMask
  dataCheck : Word
  restored : BitVec 16
  failed : BitVec 16
  deriving DecidableEq, Repr

/-- Bytes 0 to 59 of a header line (Table 12-1). -/
def Header.body (h : Header) : BitVec 480 :=
  0#192 ++ h.failed ++ h.restored ++ h.dataCheck ++ 0#16 ++ h.poison ++ h.epoch ++ h.line ++ 0#8 ++
    h.origin ++ h.context ++ h.kind.code ++ h.sequence

/-- The header line with its check over bytes 0 to 59 (R6, R180). -/
def Header.encode (h : Header) : Line := crc32 h.body ++ h.body

/-- The header line's fields when the line is valid by R6: the check matches and the kind byte holds a kind. -/
def decodeHeader (l : Line) : Option Header :=
  let body : BitVec 480 := l.extractLsb' 0 480
  if l.extractLsb' 480 32 = crc32 body then
    (RecordKind.ofCode (body.extractLsb' 64 8)).map fun kind =>
      { sequence := body.extractLsb' 0 64
        kind := kind
        context := body.extractLsb' 72 8
        origin := body.extractLsb' 80 8
        line := body.extractLsb' 96 32
        epoch := body.extractLsb' 128 64
        poison := body.extractLsb' 192 16
        dataCheck := body.extractLsb' 224 32
        restored := body.extractLsb' 256 16
        failed := body.extractLsb' 272 16 }
  else none

/-- A context number as its header byte. -/
def contextByte (k : Requester) : Byte := BitVec.ofNat 8 k.val

/-- A CAPTURE record's header (R71). -/
def captureHeader (q : Seq) (k : Requester) (epoch : Seq) (line : Addr) (poison : WordMask) (check : Word) : Header :=
  ⟨q, .capture, contextByte k, 0, line, epoch, poison, check, 0, 0⟩

/-- An OPEN record's header: its epoch ID is its own sequence (R3). -/
def openHeader (q : Seq) (k : Requester) : Header := ⟨q, .openRecord, contextByte k, 0, 0, q, 0, 0, 0, 0⟩

/-- A COMMIT marker's header (R28). -/
def commitHeader (q : Seq) (k : Requester) (epoch : Seq) : Header :=
  ⟨q, .commit, contextByte k, 0, 0, epoch, 0, 0, 0, 0⟩

/-- An ABORTED marker's header (R30, R167). -/
def abortedHeader (q : Seq) (context origin : Byte) (epoch : Seq) (restored failed : Nat) : Header :=
  ⟨q, .aborted, context, origin, 0, epoch, 0, 0, BitVec.ofNat 16 restored, BitVec.ofNat 16 failed⟩

/-! ## The capture's data line (R5, R69) -/

/-- The record's poison mask: the words read UNCORRECTABLE, or every word when the read failed. -/
def CaptureBuffer.poison (b : CaptureBuffer) : WordMask := if b.failed then allWords else uncorrectable b.statuses

/-- The record's data line: the marked words are zeros. -/
def CaptureBuffer.dataLine (b : CaptureBuffer) : Line := zeroWords b.poison b.bytes

/-- What a failed old-line read leaves in the capture buffer: the failed flag (R69). The spec gives the buffer no bytes and
no word statuses there; zeros and CLEAN are the model's choice (log 17), which nothing reads while the flag is set. -/
def CaptureBuffer.ofFailure : CaptureBuffer := ⟨0, Vector.replicate 16 .clean, true⟩

/-! ## The journal descriptor (R17, R181) -/

/-- Bytes 0 to 59 of the descriptor (Table 12-3). -/
def Geometry.body (g : Geometry) : BitVec 480 :=
  0#384 ++ (BitVec.ofNat 32 g.slots : Word) ++ g.base ++ Config.descriptorFormat

/-- The descriptor line (Table 12-3). -/
def Geometry.encode (g : Geometry) : Line := crc32 g.body ++ g.body

/-- Where a ring may lie: base a multiple of 128, S from 64 to 65,536, below 2^32, off the control window
(R1, R17, R18). -/
def Geometry.placed (window : Nat) (g : Geometry) : Bool :=
  g.base.toNat % 128 == 0 && decide (Config.minSlots ≤ g.slots) && decide (g.slots ≤ Config.maxSlots) &&
    decide (g.base.toNat + 128 * g.slots ≤ 2 ^ 32) &&
    !spansOverlap g.base.toNat (128 * g.slots) window Config.windowBytes

/-- The geometry a descriptor line holds, when the descriptor is valid by R17. Bytes 12 to 59 are not tested (R181). -/
def decodeDescriptor (window : Nat) (l : Line) : Option Geometry :=
  let g : Geometry := ⟨lineWord l 1, (lineWord l 2).toNat⟩
  if lineWord l 0 = Config.descriptorFormat ∧ lineWord l 15 = crc32 (l.extractLsb' 0 480 : BitVec 480) ∧
      g.placed window = true
  then some g else none

/-! ## Host-written words (R183) -/

/-- The eight marks of a mask or acknowledge word. -/
def causeMarks (v : Word) : Byte := v.extractLsb' 0 8

/-- Bits 31 to 8 of a mask or acknowledge word are zero. -/
def validMarks (v : Word) : Bool := v.extractLsb' 8 24 == 0

/-- A line address: low six bits zero. -/
def isLineAddress (v : Word) : Bool := v.extractLsb' 0 6 == 0

/-- The limit line address of word B. -/
def wordBLimit (v : Word) : Addr := lineOf v

/-- The mode of word B, when its bits 5 to 3 are zero and its mode field holds a mode. -/
def wordBMode (v : Word) : Option RegionMode :=
  let low : BitVec 6 := v.extractLsb' 0 6
  if low = 0 then some .off else if low = 1 then some .logged
  else if low = 2 then some .guarded else if low = 3 then some .readonly else none

/-- The opcode and tag of a command word 0; the other bits are ignored. -/
def commandWord (v : Word) : CommandWord := ⟨v.extractLsb' 0 4, v.extractLsb' 8 8⟩

/-- The seven configuration words (Table 6-2, Table 12-4). -/
inductive ConfigWord where
  | stagedBase
  | stagedSlots
  | parityCheck
  | discardInterval
  | patrolInterval
  | lowMark
  | interruptMask
  deriving DecidableEq, Repr

/-- The seven words in ascending address; word `i` of the configuration line is the `i`-th. -/
def ConfigWord.all : List ConfigWord :=
  [.stagedBase, .stagedSlots, .parityCheck, .discardInterval, .patrolInterval, .lowMark, .interruptMask]

/-- A configuration word's place in the line at offset 000h (Table 12-4). -/
def ConfigWord.index : ConfigWord → Nat
  | .stagedBase => 0
  | .stagedSlots => 1
  | .parityCheck => 2
  | .discardInterval => 3
  | .patrolInterval => 4
  | .lowMark => 5
  | .interruptMask => 6

/-- The accepted values (Table 6-2). -/
def ConfigWord.accepts (v : Word) : ConfigWord → Bool
  | .stagedBase => true
  | .stagedSlots => true
  | .parityCheck => v == 0 || v == 1
  | .discardInterval => decide (1 ≤ v.toNat) && decide (v.toNat ≤ 255)
  | .patrolInterval => decide (v.toNat ≤ 65535)
  | .lowMark => decide (v.toNat ≤ 65535)
  | .interruptMask => validMarks v

/-- The settings with one word replaced by a value of its range (R99). -/
def Settings.load (g : Settings) (v : Word) : ConfigWord → Settings
  | .stagedBase => { g with stagedBase := v }
  | .stagedSlots => { g with stagedSlots := v }
  | .parityCheck => { g with parityCheck := v == 1 }
  | .discardInterval => { g with discardInterval := v.toNat }
  | .patrolInterval => { g with patrolInterval := v.toNat }
  | .lowMark => { g with lowMark := v.toNat }
  | .interruptMask => { g with interruptMask := causeMarks v }

/-! ## The window map (R182, Table 12-4) -/

/-- The kinds of window word (Table 6-1). -/
inductive WindowWord where
  | config (c : ConfigWord)
  | acknowledge
  | regionA (entry : Fin 16)
  | regionB (entry : Fin 16)
  | command (slot : Requester) (word : Fin 3)
  | deviceOwned
  | unlisted
  deriving DecidableEq, Repr

/-- The word at a window offset that is a multiple of 4. -/
def windowWord (off : Nat) : WindowWord :=
  if off < 0x1C then
    (match ConfigWord.all[off / 4]? with
     | some c => .config c
     | none => .unlisted)
  else if off < 0x40 then .unlisted
  else if off < 0x80 then .deviceOwned
  else if off < 0x84 then .acknowledge
  else if off < 0x100 then .unlisted
  else if off < 0x180 then
    (if off % 8 < 4 then .regionA (Fin.ofNat 16 ((off - 0x100) / 8))
     else .regionB (Fin.ofNat 16 ((off - 0x100) / 8)))
  else if off < 0x200 then .unlisted
  else if off < 0x240 then
    (if h : (off - 0x200) % 16 / 4 < 3 then
       .command (Fin.ofNat 4 ((off - 0x200) / 16)) ⟨(off - 0x200) % 16 / 4, h⟩
     else .unlisted)
  else if off < 0x280 then .deviceOwned
  else if off < 0x300 then .unlisted
  else if off < 0x380 then .deviceOwned
  else .unlisted

/-- Window offsets of the lines the part reads or writes itself (R157, R76, Table 12-4). -/
def configurationOffset : Nat := 0x000
def descriptorOffset : Nat := 0x040
def acknowledgeOffset : Nat := 0x080
def resultOffset : Nat := 0x240
def statusOffset : Nat := 0x300

/-- The offset of a configuration word. -/
def ConfigWord.offset (c : ConfigWord) : Nat := configurationOffset + 4 * c.index

/-- The offsets of region entry `j`'s words (R50). -/
def wordAOffset (j : Fin 16) : Nat := 0x100 + 8 * j.val
def wordBOffset (j : Fin 16) : Nat := 0x104 + 8 * j.val

/-- The offset of word `n` of command slot `k` (Table 12-4). -/
def commandOffset (k : Requester) (n : Fin 3) : Nat := 0x200 + 16 * k.val + 4 * n.val

end Sys2Proof.Machine
end

