-- ==== Sys2Proof/Machine/Ops.lean ====
section
/-! DEFINITION. The named operations over the blocks' state: the window's place, journal accounting, contexts, the
Held-Line Table, the Posted Write Queue, the Job List, the Read List and the U-port's answers. -/

namespace Sys2Proof.Machine

/-! ## The control window (R48, R182) -/

/-- The window base: CWB times 65,536 (R48). -/
def State.windowBase (s : State) : Nat := s.cwb.toNat * 65536

/-- The address of a window offset. -/
def State.windowAddr (s : State) (off : Nat) : Addr := BitVec.ofNat 32 (s.windowBase + off)

/-- Does a line lie in the control window? -/
def State.inWindow (s : State) (line : Addr) : Bool :=
  decide (s.windowBase ≤ line.toNat) && decide (line.toNat < s.windowBase + Config.windowBytes)

/-! ## Contexts (R22) -/

/-- Replace context `k` by a change of it. -/
def updContext (k : Requester) (f : Context → Context) (s : State) : State :=
  { s with contexts := s.contexts.set k (f s.contexts[k]) }

/-- Is every context CLOSED? -/
def State.allClosed (s : State) : Bool := s.contexts.toList.all fun c => c.state == .closed

/-! ## The Held-Line Table (R34 to R37) -/

/-- A lookup of a line (R37). -/
def State.lookupHeld (s : State) (line : Addr) : Option HeldEntry := s.held.find? fun e => e.line == line

/-- The held-line count of a context: its entries in any entry state (R22). -/
def State.heldCount (s : State) (k : Requester) : Nat := s.held.countP fun e => e.holder == k

/-- Is the line held by a context that is ABORTING? (R82, R88) -/
def State.abortingHold (s : State) (line : Addr) : Bool :=
  match s.lookupHeld line with
  | some e => s.contexts[e.holder].state == .aborting
  | none => false

/-- Insert a captured line (R35). -/
def insertHeld (line : Addr) (k : Requester) (s : State) : State :=
  { s with held := s.held ++ [⟨line, k, .capturing, none⟩] }

/-- Change the entry of a line held by context `k`. -/
def updHeld (line : Addr) (k : Requester) (f : HeldEntry → HeldEntry) (s : State) : State :=
  { s with held := s.held.map fun e => if e.line = line ∧ e.holder = k then f e else e }

/-- Remove the entry of a line (R41). -/
def removeHeld (line : Addr) (s : State) : State := { s with held := s.held.filter fun e => !(e.line == line) }

/-- Remove every entry of a context (R28). -/
def releaseHeld (k : Requester) (s : State) : State := { s with held := s.held.filter fun e => !(e.holder == k) }

/-- The context's HELD entry with the highest record sequence (R30). -/
def newestHeld (k : Requester) : List HeldEntry → Option (Addr × Seq)
  | [] => none
  | e :: es =>
    match newestHeld k es, e.record with
    | none, some q => if e.holder = k ∧ e.state = .held then some (e.line, q) else none
    | some (l, p), some q => if e.holder = k ∧ e.state = .held ∧ p < q then some (e.line, q) else some (l, p)
    | best, none => best

/-! ## Journal accounting (R9 to R16) -/

/-- The ring's slot count, 0 when there is no geometry. -/
def State.slotCount (s : State) : Nat :=
  match s.journal.geometry with
  | some g => g.slots
  | none => 0

/-- Does the Journal Manager count space: READY or FORMATTING (R9)? -/
def State.counting (s : State) : Bool :=
  match s.journal.state with
  | .ready => true
  | .formatting => true
  | .absent _ => false
  | .recovering => false

/-- The sum of the four reserved counts (R9). -/
def State.totalReserved (s : State) : Nat := s.journal.reserved.toList.sum

/-- Used (R9): head less live tail in READY and FORMATTING, else 0. -/
def State.used (s : State) : Nat := if s.counting then (s.journal.head - s.journal.tail).toNat else 0

/-- Free (R9): S less used less the total reserved in READY and FORMATTING, else 0. -/
def State.free (s : State) : Nat := if s.counting then s.slotCount - s.used - s.totalReserved else 0

/-- The byte address of slot header `q mod S`, and of the data line after it (R1, R2). -/
def Geometry.headerLine (g : Geometry) (q : Seq) : Addr := addrPlus g.base (128 * (q.toNat % g.slots))
def Geometry.dataLine (g : Geometry) (q : Seq) : Addr := addrPlus g.base (128 * (q.toNat % g.slots) + 64)

/-- The header line of slot `i` (R1). -/
def Geometry.slotHeader (g : Geometry) (i : Nat) : Addr := addrPlus g.base (128 * i)

/-- Does a line lie in the ring of the geometry in force? (R1) -/
def State.inRing (s : State) (line : Addr) : Bool :=
  match s.journal.geometry with
  | some g => decide (g.base.toNat ≤ line.toNat) && decide (line.toNat < g.base.toNat + 128 * g.slots)
  | none => false

/-- Is a journal READY? -/
def State.journalReady (s : State) : Bool := s.journal.state == .ready

/-- The LOW test of R16, after an event before which free was `freeBefore` and the low mark `markBefore`. -/
def lowTest (freeBefore markBefore : Nat) (s : State) : State :=
  if s.journalReady ∧ markBefore ≤ freeBefore ∧ s.free < s.settings.lowMark then raiseCause .low s else s

/-- The LOW test made when the journal becomes READY (R16). -/
def lowTestAtReady (s : State) : State := if s.free < s.settings.lowMark then raiseCause .low s else s

/-- Would a claim of `n` slots succeed now? (R12) -/
def State.canClaim (s : State) (n : Nat) : Bool := s.journalReady && decide (n ≤ s.free)

/-- Change the reserved count of a context. -/
def updReserved (k : Requester) (f : Nat → Nat) (s : State) : State :=
  { s with journal := { s.journal with reserved := s.journal.reserved.set k (f s.journal.reserved[k]) } }

/-- Make a claim of `n` slots for context `k` (R11), with the LOW test of R16. -/
def claim (k : Requester) (n : Nat) (s : State) : State :=
  lowTest s.free s.settings.lowMark (updReserved k (· + n) s)

/-- The highest sequence a 64-bit count holds. -/
def lastSequence : Seq := BitVec.allOnes 64

/-- The head sequence rises by 1. After the highest 64-bit count its value is a free value (log 6). -/
def raiseHead (s : State) : State :=
  if s.journal.head = lastSequence then
    { s with journal := { s.journal with head := Config.sequenceAfterLast s.freeDraws }
             freeDraws := s.freeDraws + 1 }
  else { s with journal := { s.journal with head := s.journal.head + 1 } }

/-- Allocate the record at the head sequence for context `k` (R13); the record's sequence is the head before it. -/
def allocate (k : Requester) (s : State) : State := updReserved k (· - 1) (raiseHead s)

/-- Does a context count for the live tail: not CLOSED with its OPEN record written (R14)? -/
def Context.live (c : Context) : Bool := c.state != .closed && c.openWritten

/-- The lowest of a list of sequences, `d` when there is none. -/
def lowestSeq (d : Seq) : List Seq → Seq
  | [] => d
  | q :: qs => qs.foldl (fun m x => if x < m then x else m) q

/-- The OPEN-record sequences of the live contexts (R14). -/
def State.liveSequences (s : State) : List Seq :=
  (s.contexts.toList.filter Context.live).filterMap (·.epoch)

/-- The live tail by the definition of R14. -/
def State.liveTail (s : State) : Seq := lowestSeq s.journal.head s.liveSequences

/-- Recompute the live tail (R14), with the LOW test of R16 on the change of free. -/
def recomputeTail (s : State) : State :=
  lowTest s.free s.settings.lowMark { s with journal := { s.journal with tail := s.liveTail } }

/-- Enter ABSENT for a reason: head and tail 0, the geometry as given (Table 1-5). -/
def enterAbsent (reason : AbsentReason) (geometry : Option Geometry) (s : State) : State :=
  { s with journal := { s.journal with state := .absent reason, geometry := geometry, head := 0, tail := 0 } }

/-- Become READY with the live tail equal to the head (R165, R167), with the LOW test. -/
def becomeReady (s : State) : State :=
  lowTestAtReady { s with journal := { s.journal with state := .ready, tail := s.journal.head } }

/-! ## Posted Write Queue (R63 to R66) -/

/-- The answers of R66: does any entry name a line; the newest such entry's number; is a number still queued; how
many entries. -/
def State.lineQueued (s : State) (line : Addr) : Bool := s.queue.entries.any fun e => e.line == line
def State.newestNumber (s : State) (line : Addr) : Option (BitVec 32) :=
  (s.queue.entries.reverse.find? fun e => e.line == line).map (·.number)
def State.numberQueued (s : State) (n : BitVec 32) : Bool := s.queue.entries.any fun e => e.number == n
def State.queueDepth (s : State) : Nat := s.queue.entries.length

/-- Is the Posted Write Queue full? (R57) -/
def State.queueFull (s : State) : Bool := decide (Config.queueCapacity ≤ s.queueDepth)

/-- Append an accepted write; it takes the counter's value, and the counter rises by 1 and wraps (R64). -/
def appendEntry (e : PostedEntry) (s : State) : State :=
  { s with queue := ⟨s.queue.entries ++ [{ e with number := s.queue.nextNumber }], s.queue.nextNumber + 1⟩ }

/-- The head entry leaves the queue (R65). -/
def dropHead (s : State) : State := { s with queue := { s.queue with entries := s.queue.entries.tail } }

/-! ## Jobs (R75 to R77) -/

/-- Change the oldest job. -/
def updHeadJob (f : Job → Job) (s : State) : State :=
  match s.jobs with
  | [] => s
  | j :: js => { s with jobs := f j :: js }

/-- The oldest job's next step. -/
def nextStep (step : JobStep) (s : State) : State := updHeadJob (fun j => { j with next := step }) s

/-- The oldest job leaves the list (R77). -/
def dropJob (s : State) : State := { s with jobs := s.jobs.tail }

/-- Does a job hold the spare place: a REINIT job with format work left (R75, R77)? -/
def Job.holdsSpare (j : Job) : Bool := j.kind == .reinit && j.next != .result

/-- The places of the Job List in use: one per job, and the spare (R75). -/
def State.jobPlaces (s : State) : Nat := s.jobs.length + (s.jobs.filter Job.holdsSpare).length

/-! ## The Read List (R140) -/

/-- Is an entry issuable? (R88) -/
def State.issuable (s : State) (d : DeferredRead) : Bool :=
  d.state == .waiting && d.waitMark.isNone && !s.abortingHold (lineOf d.key.address)

/-- A new member joins at the tail. -/
def joinReadList (m : ReadMember) (s : State) : State :=
  { s with dport := { s.dport with readList := s.dport.readList ++ [m] } }

/-- A member leaves the list; the members behind it keep their order. -/
def leaveReadList (m : ReadMember) (s : State) : State :=
  { s with dport := { s.dport with readList := s.dport.readList.filter fun x => !(x == m) } }

/-- The issuable entries not in the list join at the tail, oldest entry first (R88, R140). -/
def joinIssuable (s : State) : State :=
  let joining := (s.reads.filter s.issuable).map fun d => ReadMember.deferred d.key
  { s with dport := { s.dport with
      readList := s.dport.readList ++ joining.filter fun m => !s.dport.readList.contains m } }

/-! ## Answers (R45) -/

/-- The U-port gives an answer. -/
def giveAnswer (k : Requester) (a : Answer) (s : State) : State :=
  { s with uport := { s.uport with answers := s.uport.answers ++ [(k, a)] } }

/-! ## Command slots (R101) -/

/-- Change command slot `k`. -/
def updSlot (k : Requester) (f : CommandSlot → CommandSlot) (s : State) : State :=
  { s with slots := s.slots.set k (f s.slots[k]) }

/-! ## Becoming STOPPED (R130) -/

/-- The device becomes STOPPED: the STOPPED cause is raised, and a straight read waiting in the Read List is answered
FAULT STOPPED and removed. Every other block keeps its state (R131). -/
def stopDevice (s : State) : State :=
  let s1 := raiseCause .stopped { s with device := .stopped }
  match s1.uport.inProgress with
  | none => s1
  | some r =>
    leaveReadList .straight
      (giveAnswer r.requester (.fault .stopped) { s1 with uport := { s1.uport with inProgress := none } })

end Sys2Proof.Machine
end

