-- ==== Sys2Proof/Machine/Reports.lean ====
section
/-! DEFINITION. The result record and the status record: their values and layouts (R116, R175, R176, R184 to R186). -/

namespace Sys2Proof.Machine

/-! ## Encodings (Table 12-2) -/

/-- Termination codes. -/
def Termination.code : Termination → BitVec 2
  | .complete => 0
  | .partly => 1
  | .refused => 2

/-- Result reason codes. -/
def ResultReason.code : ResultReason → BitVec 4
  | .noReason => 0
  | .state => 1
  | .limit => 2
  | .noJournal => 3
  | .journalFull => 4
  | .geometry => 5
  | .opcode => 6
  | .sequence => 7
  | .restoreFailed => 8

/-- Device state codes. -/
def DeviceState.code : DeviceState → Byte
  | .start => 0
  | .load => 1
  | .scan => 2
  | .playback => 3
  | .run => 4
  | .stopped => 5

/-- Journal state byte: the state in bits 3 to 0, the ABSENT reason in bits 5 and 4 (R185). -/
def JournalState.byte : JournalState → Byte
  | .recovering => 0x00
  | .absent .descriptorInvalid => 0x11
  | .absent .scanFailed => 0x21
  | .formatting => 0x02
  | .ready => 0x03

/-- Context state codes. -/
def ContextState.code : ContextState → BitVec 2
  | .closed => 0
  | .opened => 1
  | .closing => 2
  | .aborting => 3

/-- ERROR detail kind codes; 0 is none. -/
def ErrorKind.code : Option ErrorKind → Byte
  | none => 0
  | some .writeParity => 1
  | some .capturePoison => 2
  | some .captureFail => 3
  | some .unbackedWrite => 4
  | some .patrolUncorrectable => 5
  | some .loadInvalid => 6
  | some .scanFailed => 7

/-- U-port answer codes (Table 12-10). -/
def Answer.code : Answer → BitVec 2
  | .written => 0
  | .read _ _ => 0
  | .retry => 1
  | .fault _ => 2

/-- U-port fault reason codes (Table 12-10). -/
def FaultReason.code : FaultReason → BitVec 4
  | .malformed => 1
  | .protectedWord => 2
  | .parity => 3
  | .readOnly => 4
  | .guarded => 5
  | .conflict => 6
  | .holdFull => 7
  | .epochLimit => 8
  | .journalFull => 9
  | .regionLocked => 10
  | .busy => 11
  | .memory => 12
  | .stopped => 13

/-- D-port request codes (Table 12-10). -/
def DportRequest.code : DportRequest → BitVec 2
  | .read _ => 0
  | .write .. => 1
  | .renew _ => 2

/-- D-port response codes (Table 12-10). -/
def MemResponse.code : MemResponse → BitVec 2
  | .data _ _ => 0
  | .done => 1
  | .fail => 2
  | .unbacked => 3

/-- D-port word status codes (Table 12-10). -/
def WordStatus.code : WordStatus → BitVec 2
  | .clean => 0
  | .corrected => 1
  | .uncorrectable => 2
  | .noStatus => 3

/-! ## The result record (R116, Table 12-6) -/

/-- The fields of a result record (Table 6-6). -/
structure ResultFields where
  resultCount : Byte
  word : CommandWord
  termination : Termination
  reason : ResultReason
  epoch : Option Seq
  lineCount : Nat
  failedCount : Nat
  free : Nat
  deriving DecidableEq, Repr

/-- The 16 bytes of a result record (Table 12-6). -/
def ResultFields.encode (r : ResultFields) : BitVec 128 :=
  let lines : BitVec 10 := BitVec.ofNat 10 r.lineCount
  let failed : BitVec 10 := BitVec.ofNat 10 r.failedCount
  let free : BitVec 17 := BitVec.ofNat 17 r.free
  let byte2 : Byte := free.extractLsb' 16 1 ++ BitVec.ofBool r.epoch.isSome ++ r.termination.code ++ r.word.opcode
  let byte3 : Byte := failed.extractLsb' 8 2 ++ lines.extractLsb' 8 2 ++ r.reason.code
  r.epoch.getD 0 ++ free.extractLsb' 0 16 ++ failed.extractLsb' 0 8 ++ lines.extractLsb' 0 8 ++ byte3 ++ byte2 ++
    r.word.tag ++ r.resultCount

/-- Does the job's result report the context's epoch ID: OPEN, COMMIT and ABORT, not refused (R116)? -/
def Job.reportsEpoch (j : Job) : Bool := j.kind == .openEpoch || j.kind == .commit || j.kind == .abort

/-- The values of slot `k`'s result record at its issue (R116): the result counter already raised. -/
def State.resultFields (s : State) (j : Job) (k : Requester) : ResultFields where
  resultCount := s.slots[k].resultCount + 1
  word := (s.slots[k].decision.map (·.word)).getD ⟨0, 0⟩
  termination := j.termination
  reason := j.reason
  epoch := if j.reportsEpoch then s.contexts[k].epoch else none
  lineCount := j.lineCount
  failedCount := j.failedCount
  free := s.free

/-- The result write of slot `k`: the line at window offset 240h with only the slot's 16 bytes enabled (R76, R117). -/
def resultWrite (s : State) (k : Requester) (r : BitVec 128) : DportRequest :=
  .write (s.windowAddr resultOffset) (byteMaskAt (16 * k.val) 16) (r.setWidth 512 <<< (128 * k.val)) 0

/-! ## The status record (R175, R176, Tables 12-8 and 12-9) -/

/-- The first line, at 300h, carrying the given status count. -/
def State.statusFirstLine (s : State) (n : BitVec 32) : Line :=
  let c := s.status.counters
  let base : Addr := (s.journal.geometry.map (·.base)).getD 0
  0#16 ++ c.fullRetries ++ c.spaceFaults ++ c.conflicts ++ c.captures ++
    s.startup.linesFailed ++ s.startup.linesRestored ++ s.startup.rolledBack ++
    s.journal.tail ++ s.journal.head ++
    BitVec.ofNat 32 s.free ++ BitVec.ofNat 32 s.slotCount ++ base ++ s.status.lastError.address ++
    BitVec.ofNat 16 s.totalReserved ++ BitVec.ofNat 16 s.held.length ++
    0#8 ++ BitVec.ofNat 8 s.reads.length ++ BitVec.ofNat 8 s.queueDepth ++ ErrorKind.code s.status.lastError.kind ++
    s.settings.interruptMask ++ s.status.causes ++ s.journal.state.byte ++ s.device.code ++ n

/-- A context's state byte: the state in bits 1 and 0, bit 7 set when the epoch ID is present (R185). -/
def Context.byte (c : Context) : Byte := BitVec.ofBool c.epoch.isSome ++ 0#5 ++ c.state.code

/-- The second line, at 340h, carrying the same status count. -/
def State.statusSecondLine (s : State) (n : BitVec 32) : Line :=
  let c := s.status.counters
  let heldField (k : Requester) : BitVec 16 := BitVec.ofNat 16 (s.heldCount k)
  let epochField (k : Requester) : BitVec 64 := s.contexts[k].epoch.getD 0
  c.abandoned ++ c.restoreFails ++ c.patrolBad ++ c.patrolRenews ++ c.poisonReads ++ c.parityErrors ++ c.requeues ++
    c.discards ++ heldField 3 ++ heldField 2 ++ heldField 1 ++ heldField 0 ++
    epochField 3 ++ epochField 2 ++ epochField 1 ++ epochField 0 ++
    s.contexts[3].byte ++ s.contexts[2].byte ++ s.contexts[1].byte ++ s.contexts[0].byte ++ n

/-- The issue of a status record's first line: the status count rises by 1 and the status-dirty flag is cleared
(R175). -/
def takeSnapshot (s : State) : State :=
  { s with status := { s.status with count := s.status.count + 1, dirty := false } }

end Sys2Proof.Machine
end

