-- ==== Sys2Proof/Machine/Engine.lean ====
section
/-! DEFINITION. The Write Engine: choosing units (R68, R78), the request each step issues (R67 to R72, R76), and what it
does with a response (R65, R69 to R80). -/

namespace Sys2Proof.Machine

/-- What a client is handed for its request (R135, R137): DATA, DONE, FAIL or UNBACKED. -/
inductive Reply where
  | data (bytes : Line) (statuses : Vector WordStatus 16)
  | done
  | fail
  | unbacked
  deriving DecidableEq, Repr

/-- The response as the client is handed it: a kind that does not belong to the request, or a status that names none,
is FAIL (R135, R186). -/
def replyOf : DportRequest → MemResponse → Reply
  | .read _, .data bytes st => if statusesNamed st then .data bytes st else .fail
  | .read _, .done => .fail
  | .read _, .fail => .fail
  | .read _, .unbacked => .unbacked
  | .write .., .done => .done
  | .write .., .data _ _ => .fail
  | .write .., .fail => .fail
  | .write .., .unbacked => .unbacked
  | .renew _, .done => .done
  | .renew _, .data _ _ => .fail
  | .renew _, .fail => .fail
  | .renew _, .unbacked => .unbacked

/-- The 64 bytes of a header read that can be trusted: DATA with no word UNCORRECTABLE (R39, R160). -/
def Reply.soundLine : Reply → Option Line
  | .data bytes st => if uncorrectable st = 0 then some bytes else none
  | .done => none
  | .fail => none
  | .unbacked => none

/-! ## Choosing the next unit (R68, R78) -/

/-- May the entry be begun: its context is absent or that context's OPEN record is durable (R68)? -/
def State.beginnable (s : State) (e : PostedEntry) : Bool :=
  match e.context with
  | none => true
  | some k => !s.contexts[k].openOwed

/-- Does an entry wait (R78)? -/
def State.entryWaits (s : State) : Bool :=
  match s.queue.entries with
  | [] => false
  | e :: _ => s.beginnable e

/-- The first step of an entry (Table 4-2). -/
def PostedEntry.firstStep (e : PostedEntry) : EntryStep := if e.cls = .capture then .oldRead else .dataWrite

/-- The unit of a job's next step. A restore step takes the HELD entry with the highest record sequence, and when
none is left the marker is next (R30). -/
def State.jobUnit (s : State) (j : Job) : WorkUnit :=
  match j.next, j.owner with
  | .restore, .slot k =>
    (match newestHeld k s.held with
     | some (line, q) => .restore line q .header
     | none => .write .abortedMarker)
  | .restore, .statusUnit => .write .abortedMarker
  | .statusRecord, _ => .statusFirst none
  | step, _ => .write step

/-- Begin a unit; the last unit mark is set at its start (R78). -/
def beginUnit (u : WorkUnit) (kind : UnitKind) (s : State) : State :=
  { s with engine := { s.engine with work := some u, lastUnit := kind } }

/-- The free Write Engine chooses its next unit in RUN (R78). -/
def chooseUnit (s : State) : State :=
  if s.device = .run ∧ s.engine.work = none then
    match s.queue.entries, s.jobs with
    | e :: _, [] => if s.beginnable e then beginUnit (.entry e.firstStep) .entry s else s
    | e :: _, j :: _ =>
      if s.beginnable e ∧ s.engine.lastUnit = .job then beginUnit (.entry e.firstStep) .entry s
      else beginUnit (s.jobUnit j) .job s
    | [], j :: _ => beginUnit (s.jobUnit j) .job s
    | [], [] => s
  else s

/-! ## The request of the current step -/

/-- A WRITE of a whole line, all 64 bytes enabled and no poison. -/
def wholeLine (line : Addr) (image : Line) : DportRequest := .write line allBytes image 0

/-- Set the unit in progress. -/
def setUnit (u : Option WorkUnit) (s : State) : State := { s with engine := { s.engine with work := u } }

/-- The capture buffer's record data, as if the read had failed when the buffer is empty. -/
def State.captured (s : State) : CaptureBuffer := s.engine.buffer.getD CaptureBuffer.ofFailure

/-- The context a capture entry carries (R64). -/
def PostedEntry.owner (e : PostedEntry) : Requester := e.context.getD e.requester

/-- An issue: the state with the issue's own effects made, and the request. -/
abbrev Issue := State × DportRequest

/-- The request of the head entry's step. RECORD_DATA allocates at its issue (R70); RECORD_HEADER carries the fields of
R71. -/
def entryIssue (g : Geometry) (e : PostedEntry) (s : State) : EntryStep → Issue
  | .oldRead => (s, .read e.line)
  | .recordData _ =>
    let q := s.journal.head
    let s1 := updHeld e.line e.owner (fun h => { h with record := some q }) (allocate e.owner s)
    (setUnit (some (.entry (.recordData (some q)))) s1, wholeLine (g.dataLine q) s.captured.dataLine)
  | .recordHeader q =>
    let h := captureHeader q e.owner (s.contexts[e.owner].epoch.getD 0) e.line s.captured.poison
      (crc32 s.captured.dataLine)
    (s, wholeLine (g.headerLine q) h.encode)
  | .dataWrite => (s, .write e.line e.byteMask e.data e.poison)

/-- The geometry in force, or an empty ring when there is none. -/
def State.ring (s : State) : Geometry := s.journal.geometry.getD ⟨0, 0⟩

/-- The request of a job step of one WRITE (Table 4-3, R76). Markers allocate at their issue (R13); the OPEN record's
allocation sets the context's epoch ID (R25). -/
def markerIssue (k : Requester) (j : Job) (s : State) : JobStep → Issue
  | .openRecord =>
    let q := s.journal.head
    let s1 := updContext k (fun c => { c with epoch := some q, openWritten := true }) (allocate k s)
    (s1, wholeLine (s.ring.headerLine q) (openHeader q k).encode)
  | .commitMarker =>
    let q := s.journal.head
    (allocate k s, wholeLine (s.ring.headerLine q) (commitHeader q k (s.contexts[k].epoch.getD 0)).encode)
  | .abortedMarker =>
    let q := s.journal.head
    let c := s.contexts[k]
    (allocate k s, wholeLine (s.ring.headerLine q)
      (abortedHeader q (contextByte k) originCommand (c.epoch.getD 0) c.restored c.failed).encode)
  | .descriptorInvalidate => (s, wholeLine (s.windowAddr descriptorOffset) 0)
  | .formatSlot i => (s, wholeLine (s.ring.slotHeader i) 0)
  | .descriptorWrite => (s, wholeLine (s.windowAddr descriptorOffset) s.ring.encode)
  | .result =>
    (updSlot k (fun c => { c with resultCount := c.resultCount + 1 }) s,
      resultWrite s k (s.resultFields j k).encode)
  | .restore => (s, .read (s.ring.headerLine 0))
  | .statusRecord => (s, .read (s.windowAddr statusOffset))

/-- The command slot a job belongs to; the status job has none. -/
def JobOwner.slotNumber : JobOwner → Requester
  | .slot k => k
  | .statusUnit => 0

/-- The next request of the unit in progress, with the effects of its issue. -/
def engineIssue (s : State) : Option Issue :=
  match s.engine.work, s.queue.entries, s.jobs with
  | some (.entry step), e :: _, _ => some (entryIssue s.ring e s step)
  | some (.write step), _, j :: _ => some (markerIssue j.owner.slotNumber j s step)
  | some (.restore line q .header), _, j :: _ =>
    some (updHeld line j.owner.slotNumber (fun h => { h with state := .restoring }) s, .read (s.ring.headerLine q))
  | some (.restore _ q (.data _)), _, _ => some (s, .read (s.ring.dataLine q))
  | some (.restore line _ (.write image poison _)), _, _ => some (s, .write line allBytes image poison)
  | some (.statusFirst _), _, _ =>
    let n := s.status.count + 1
    some (setUnit (some (.statusFirst (some (s.statusSecondLine n)))) (takeSnapshot s),
      wholeLine (s.windowAddr statusOffset) (s.statusFirstLine n))
  | some (.statusSecond second), _, _ => some (s, wholeLine (s.windowAddr (statusOffset + 64)) second)
  | _, _, _ => none

/-! ## Landing (R65, R73, R80) -/

/-- Wait marks equal to a landed acceptance number become none, and the entries this makes issuable join the Read
List (R87, R88). -/
def clearWaitMarks (n : BitVec 32) (s : State) : State :=
  joinIssuable { s with reads := s.reads.map fun d => if d.waitMark = some n then { d with waitMark := none } else d }

/-- The job of a taken command, by its opcode (Table 4-3). Only the seven opcodes are ever taken. -/
def takenJob (k : Requester) (opcode : BitVec 4) : Job :=
  let job (kind : JobKind) (next : JobStep) : Job := ⟨.slot k, kind, next, .complete, .noReason, 0, 0⟩
  if opcode = 1 then job .openEpoch .openRecord
  else if opcode = 2 then job .commit .commitMarker
  else if opcode = 3 then job .abort .restore
  else if opcode = 5 then job .report .statusRecord
  else if opcode = 6 then job .clearCounters .result
  else if opcode = 7 then job .reinit .descriptorInvalidate
  else job .drain .result

/-- The job of a decision (R73): a refused command's job has only a result step. -/
def Decision.job (k : Requester) (d : Decision) : Job :=
  match d.verdict with
  | .taken => takenJob k d.word.opcode
  | .refused reason => ⟨.slot k, .refused, .result, .refused, reason, 0, 0⟩

/-- The landing of a command close entry of slot `k`: the twelve counters are cleared when the command is a taken
CLEAR_COUNTERS (R112), and the command's job is placed (R73). -/
def closingWordLands (k : Requester) (s : State) : State :=
  match s.slots[k].decision with
  | none => s
  | some d =>
    let s1 := if d.verdict = .taken ∧ d.word.opcode = 6 then clearCounters s else s
    placeJob (d.job k) s1

/-- The head entry lands (R65). -/
def landHead (e : PostedEntry) (s : State) : State :=
  let s1 := clearWaitMarks e.number (setUnit none (dropHead s))
  if e.commandClose then closingWordLands e.requester s1 else s1

/-! ## Responses to the head entry's steps (R69 to R72, R79, R80, R126) -/

/-- OLD_READ answered: the capture buffer is filled and damage is reported (R69, R126). -/
def oldReadAnswered (e : PostedEntry) (r : Reply) (s : State) : State :=
  let keep (b : CaptureBuffer) (s : State) : State :=
    { s with engine := { s.engine with buffer := some b, work := some (.entry (.recordData none)) } }
  match r with
  | .data bytes st =>
    let s1 := keep ⟨bytes, st, false⟩ s
    if uncorrectable st = 0 then s1 else raiseError .capturePoison e.line s1
  | .done => raiseError .captureFail e.line (keep CaptureBuffer.ofFailure s)
  | .fail => raiseError .captureFail e.line (keep CaptureBuffer.ofFailure s)
  | .unbacked => raiseError .captureFail e.line (keep CaptureBuffer.ofFailure s)

/-- RECORD_DATA answered: DONE leads to the header; a failure stops the device (R71, R79). -/
def recordDataAnswered (q : Option Seq) (r : Reply) (s : State) : State :=
  match r, q with
  | .done, some q => setUnit (some (.entry (.recordHeader q))) s
  | .done, none => stopDevice s
  | .data _ _, _ => stopDevice s
  | .fail, _ => stopDevice s
  | .unbacked, _ => stopDevice s

/-- RECORD_HEADER answered: at DONE the record is durable, the held entry is HELD and CAPTURES rises (R36, R71); a
failure stops the device. -/
def recordHeaderAnswered (e : PostedEntry) (r : Reply) (s : State) : State :=
  match r with
  | .done =>
    setUnit (some (.entry .dataWrite))
      (count .captures (updHeld e.line e.owner (fun h => { h with state := .held }) s))
  | .data _ _ => stopDevice s
  | .fail => stopDevice s
  | .unbacked => stopDevice s

/-- DATA_WRITE answered: DONE lands the entry (R65), UNBACKED lands it as if done and raises ERROR after any job is
placed (R80), FAIL stops the device with the entry at the head (R79). -/
def dataWriteAnswered (e : PostedEntry) (r : Reply) (s : State) : State :=
  match r with
  | .done => landHead e s
  | .unbacked => raiseError .unbackedWrite e.line (landHead e s)
  | .data _ _ => stopDevice s
  | .fail => stopDevice s

/-! ## Responses to job steps (R25, R28, R30, R19, R20, R77, R79) -/

/-- The OPEN record is durable: the hold on the context's entries ends, and the result is next (R25, R68). -/
def openRecordDone (k : Requester) (s : State) : State :=
  nextStep .result (setUnit none (updContext k (fun c => { c with openOwed := false }) s))

/-- The context becomes CLOSED and the live tail is recomputed (R14, R28, R30). -/
def closeContext (k : Requester) (s : State) : State :=
  recomputeTail (updContext k (fun c => { c with state := .closed }) s)

/-- The COMMIT marker is durable: the context's entries are released and counted for the result (R28). -/
def commitMarkerDone (k : Requester) (s : State) : State :=
  let released := s.heldCount k
  let s1 := closeContext k (releaseHeld k (setUnit none s))
  updHeadJob (fun j => { j with next := .result, lineCount := released }) s1

/-- The ABORTED marker is durable: the context is CLOSED; the result reports the context's counts, PARTIAL when a line
failed (R30). -/
def abortedMarkerDone (k : Requester) (s : State) : State :=
  let c := s.contexts[k]
  updHeadJob
    (fun j => { j with
      next := .result
      termination := if c.failed = 0 then .complete else .partly
      reason := if c.failed = 0 then .noReason else .restoreFailed
      lineCount := c.restored
      failedCount := c.failed })
    (closeContext k (setUnit none s))

/-- A format line is durable: the next slot, or the descriptor after the last (R19). -/
def formatLineDone (i : Nat) (s : State) : State :=
  nextStep (if i + 1 < s.slotCount then .formatSlot (i + 1) else .descriptorWrite) (setUnit none s)

/-- The descriptor write is durable: head and live tail 0, journal READY with the LOW test; the result is next
(R20). -/
def descriptorWriteDone (s : State) : State :=
  nextStep .result (setUnit none
    (lowTestAtReady { s with journal := { s.journal with state := .ready, head := 0, tail := 0 } }))

/-- The result record is durable: the job ends, the slot is IDLE with its decision cleared, RESULTk is raised
(R117). -/
def resultRecordDone (k : Requester) (s : State) : State :=
  raiseCause (.result k)
    (updSlot k (fun c => { c with phase := .idle, decision := none }) (dropJob (setUnit none s)))

/-- A job step of one WRITE is answered DONE. -/
def jobWriteDone (k : Requester) (s : State) : JobStep → State
  | .openRecord => openRecordDone k s
  | .commitMarker => commitMarkerDone k s
  | .abortedMarker => abortedMarkerDone k s
  | .descriptorInvalidate => nextStep (.formatSlot 0) (setUnit none s)
  | .formatSlot i => formatLineDone i s
  | .descriptorWrite => descriptorWriteDone s
  | .result => resultRecordDone k s
  | .restore => s
  | .statusRecord => s

/-- A job's WRITE answered: anything but DONE stops the device (R79). -/
def jobWriteAnswered (k : Requester) (step : JobStep) (r : Reply) (s : State) : State :=
  match r with
  | .done => jobWriteDone k s step
  | .data _ _ => stopDevice s
  | .fail => stopDevice s
  | .unbacked => stopDevice s

/-! ## The restore step (R39 to R41) -/

/-- What a restore step expects (chapter 2.7): a sequence, a context and an epoch ID. -/
structure Expected where
  sequence : Seq
  context : Byte
  epoch : Seq
  deriving DecidableEq, Repr

/-- The valid header in a line read, when it matches what is expected: sequence, kind CAPTURE, context and epoch ID
(R39, R166). -/
def Expected.header (x : Expected) (line : Option Line) : Option Header :=
  match line.bind decodeHeader with
  | none => none
  | some h =>
    if h.sequence = x.sequence ∧ h.kind = .capture ∧ h.context = x.context ∧ h.epoch = x.epoch then some h else none

/-- The data line with its UNCORRECTABLE words, when the data read returned DATA and the line matches the header's data
check (R6, R39). -/
def matchingData (h : Header) (r : Reply) : Option (Line × WordMask) :=
  match r with
  | .data bytes st => if crc32 bytes = h.dataCheck then some (bytes, uncorrectable st) else none
  | .done => none
  | .fail => none
  | .unbacked => none

/-- The line a restore step writes back (R40): of a good record the data line, a word poisoned when its mark in the
header or its read status says so; else zeros with every word poisoned. -/
def restoreImage (h : Option Header) (r : Reply) : RestorePhase :=
  match h with
  | none => .write 0 allWords false
  | some h =>
    match matchingData h r with
    | some (bytes, bad) => .write bytes (h.poison ||| bad) true
    | none => .write 0 allWords false

/-- The expected record of an abort's restore step (R39). -/
def State.expected (s : State) (k : Requester) (q : Seq) : Expected :=
  ⟨q, contextByte k, s.contexts[k].epoch.getD 0⟩

/-- The header of a good record in an abort: as expected, and its line address the target line (R39). -/
def abortHeader (x : Expected) (target : Addr) (line : Option Line) : Option Header :=
  (x.header line).filter fun h => h.line == target

/-- The restore step's header read is answered: it is kept, and the data read is next, whatever it returned (R39). -/
def restoreHeaderAnswered (line : Addr) (q : Seq) (r : Reply) (s : State) : State :=
  setUnit (some (.restore line q (.data r.soundLine))) s

/-- The restore step's data read is answered: the line to write back is formed, and a line not good raises
RESTORE_FAILS (R40; log 10). -/
def restoreDataAnswered (k : Requester) (line : Addr) (q : Seq) (header : Option Line) (r : Reply) (s : State) : State :=
  let phase := restoreImage (abortHeader (s.expected k q) line header) r
  let good := match phase with
    | .write _ _ g => g
    | .header => false
    | .data _ => false
  countIf (!good) .restoreFails (setUnit (some (.restore line q phase)) s)

/-- The restore write is answered: at DONE the held entry is removed and counted, and reads waiting for it may join
the Read List (R41, R88); a failure stops the device. -/
def restoreWriteAnswered (k : Requester) (line : Addr) (good : Bool) (r : Reply) (s : State) : State :=
  match r with
  | .done =>
    let s1 := removeHeld line (setUnit none s)
    let s2 := updContext k (fun c => if good then { c with restored := c.restored + 1 }
                                     else { c with failed := c.failed + 1 }) s1
    joinIssuable (nextStep (if (newestHeld k s2.held).isSome then .restore else .abortedMarker) s2)
  | .data _ _ => stopDevice s
  | .fail => stopDevice s
  | .unbacked => stopDevice s

/-- One response of a restore step. -/
def restoreAnswered (k : Requester) (line : Addr) (q : Seq) (phase : RestorePhase) (r : Reply) (s : State) : State :=
  match phase with
  | .header => restoreHeaderAnswered line q r s
  | .data header => restoreDataAnswered k line q header r s
  | .write _ _ good => restoreWriteAnswered k line good r s

/-! ## Status record writes (R174, R175, R177) -/

/-- The first line is answered: the second follows from the same snapshot (R175). -/
def statusFirstAnswered (second : Option Line) (r : Reply) (s : State) : State :=
  match r with
  | .done => setUnit (some (.statusSecond (second.getD 0))) s
  | .data _ _ => stopDevice s
  | .fail => stopDevice s
  | .unbacked => stopDevice s

/-- The second line is durable: the status job ends, and a new one is placed when the flag is set (R174); a REPORT job
goes on to its result (R111). -/
def statusRecordDone (j : Job) (s : State) : State :=
  match j.owner with
  | .slot _ => nextStep .result (setUnit none s)
  | .statusUnit =>
    let s1 := dropJob (setUnit none s)
    if s1.status.dirty then placeJob statusJob s1 else s1

/-- The second line is answered. -/
def statusSecondAnswered (j : Job) (r : Reply) (s : State) : State :=
  match r with
  | .done => statusRecordDone j s
  | .data _ _ => stopDevice s
  | .fail => stopDevice s
  | .unbacked => stopDevice s

/-! ## The engine's response -/

/-- The response to the head entry's step. -/
def entryAnswered (e : PostedEntry) (step : EntryStep) (r : Reply) (s : State) : State :=
  match step with
  | .oldRead => oldReadAnswered e r s
  | .recordData q => recordDataAnswered q r s
  | .recordHeader _ => recordHeaderAnswered e r s
  | .dataWrite => dataWriteAnswered e r s

/-- The response to the Write Engine's request, by its unit in progress. -/
def engineAnswered (r : Reply) (s : State) : State :=
  match s.engine.work, s.queue.entries, s.jobs with
  | some (.entry step), e :: _, _ => entryAnswered e step r s
  | some (.write step), _, j :: _ => jobWriteAnswered j.owner.slotNumber step r s
  | some (.restore line q phase), _, j :: _ => restoreAnswered j.owner.slotNumber line q phase r s
  | some (.statusFirst second), _, _ => statusFirstAnswered second r s
  | some (.statusSecond _), _, j :: _ => statusSecondAnswered j r s
  | _, _, _ => s

end Sys2Proof.Machine
end

