-- ==== Sys2Proof/Machine/Patrol.lean ====
section
/-! DEFINITION. Patrol: the cursor and the patrol order, the passage between OFF and WAIT, and the patrol step (R145 to
R151). -/

namespace Sys2Proof.Machine

/-- Is a region entry active? (R49) -/
def Region.active (r : Region) : Bool := r.mode != .off

/-- The lowest-numbered active entry at or above index `from`, with its base. -/
def State.firstActive (s : State) (start : Nat) : Option (Fin 16 × Addr) :=
  ((List.finRange 16).find? fun j => decide (start ≤ j.val) && s.regions[j].active).map
    fun j => (j, s.regions[j].base)

/-- Is at least one entry active? -/
def State.anyActive (s : State) : Bool := (s.firstActive 0).isSome

/-- Is the unit enabled: RUN, interval not 0, an entry active (R148)? -/
def State.patrolEnabled (s : State) : Bool :=
  s.device == .run && s.settings.patrolInterval != 0 && s.anyActive

/-- The line after line `l` of entry `j` in the patrol order (R146). -/
def State.patrolNext (s : State) (j : Fin 16) (l : Addr) : Option (Fin 16 × Addr) :=
  if s.regions[j].active ∧ l < s.regions[j].limit then some (j, l + 64#32)
  else match s.firstActive (j.val + 1) with
    | some next => some next
    | none => s.firstActive 0

/-- Change the Patrol Unit. -/
def updPatrol (f : Patrol → Patrol) (s : State) : State := { s with patrol := f s.patrol }

/-- WAIT with the timer started from the interval in force. -/
def patrolToWait (s : State) : State :=
  updPatrol (fun p => { p with state := .wait, timer := some s.settings.patrolInterval }) s

/-- OFF with the timer stopped. -/
def patrolToOff (s : State) : State := updPatrol (fun p => { p with state := .off, timer := none }) s

/-- In OFF or WAIT: WAIT with the timer started when the unit is enabled, else OFF. -/
def patrolSettle (s : State) : State := if s.patrolEnabled then patrolToWait s else patrolToOff s

/-- Place the cursor at the base of the lowest-numbered active entry, or at none; during a step the cursor placed mark
is set (R147). -/
def placeCursor (s : State) : State :=
  updPatrol (fun p => { p with
    cursor := s.firstActive 0
    placed := match p.state with
      | .read => true
      | .renew => true
      | .off => p.placed
      | .wait => p.placed }) s

/-- What an accepted interval write or an install does to the passage between OFF and WAIT; a step in READ or RENEW goes
on (R148, R151). -/
def patrolRejudge (s : State) : State :=
  match s.patrol.state with
  | .off => patrolSettle s
  | .wait => patrolSettle s
  | .read => s
  | .renew => s

/-- The install of a word B (R147, R148). -/
def patrolInstall (s : State) : State := patrolRejudge (placeCursor s)

/-- The entry into RUN (R147, R148, R169). -/
def patrolEnterRun (s : State) : State := patrolSettle (placeCursor s)

/-- P starts to wait: its patrol wait count becomes 0 (R142). -/
def patrolStartsToWait (s : State) : State := { s with dport := { s.dport with patrolWait := 0 } }

/-- The interval timer expires in WAIT: the step begins at the cursor's line (R149). A timer that does not run, or is
halted in STOPPED (R153), does not expire (log 9). -/
def patrolExpires (s : State) : State :=
  match s.patrol.state, s.patrol.timer, s.patrol.cursor with
  | .wait, some _, some (_, line) =>
    if s.device = .run then
      patrolStartsToWait (updPatrol (fun p => { p with state := .read, stepLine := some line, timer := none }) s)
    else s
  | _, _, _ => s

/-- The step ends (R149): the cursor moves unless it was placed during the step, the step line becomes none, and the
unit is judged enabled or not. -/
def patrolStepEnds (s : State) : State :=
  let moved := if s.patrol.placed then s.patrol.cursor
    else s.patrol.cursor.bind fun c => s.patrolNext c.1 (s.patrol.stepLine.getD c.2)
  patrolSettle (updPatrol (fun p => { p with cursor := moved, placed := false, stepLine := none }) s)

/-- A patrol read found a line that cannot be read (Table 9-3). -/
def patrolBad (line : Addr) (s : State) : State :=
  patrolStepEnds (raiseError .patrolUncorrectable line (count .patrolBad s))

/-- The response to the patrol READ (Table 9-3). -/
def patrolReadAnswered (line : Addr) (r : Reply) (s : State) : State :=
  match r with
  | .data _ st =>
    if uncorrectable st ≠ 0 then patrolBad line s
    else if corrected st ≠ 0 then patrolStartsToWait (updPatrol (fun p => { p with state := .renew }) s)
    else patrolStepEnds s
  | .done => patrolBad line s
  | .fail => patrolBad line s
  | .unbacked => patrolBad line s

/-- The response to the RENEW (R150): DONE ends the step, anything else stops the device. -/
def patrolRenewAnswered (r : Reply) (s : State) : State :=
  match r with
  | .done => patrolStepEnds (count .patrolRenews s)
  | .data _ _ => stopDevice s
  | .fail => stopDevice s
  | .unbacked => stopDevice s

/-- The response to the Patrol Unit's request, by its state. -/
def patrolAnswered (r : Reply) (s : State) : State :=
  match s.patrol.state, s.patrol.stepLine with
  | .read, some line => patrolReadAnswered line r s
  | .renew, some _ => patrolRenewAnswered r s
  | _, _ => s

/-- The request P presents (R139). -/
def State.patrolRequest (s : State) : Option DportRequest :=
  match s.patrol.state, s.patrol.stepLine with
  | .read, some line => some (.read line)
  | .renew, some line => some (.renew line)
  | _, _ => none

end Sys2Proof.Machine
end

