-- ==== Sys2Proof/Machine/Reads.lean ====
section
/-! DEFINITION. Reads: classification, straight reads, the Deferred Read Table and its discard timers (R62, R82 to R94,
R125). -/

namespace Sys2Proof.Machine

/-! ## Sending entries back (R87, R92, R93) -/

/-- A READY entry returned to WAITING: data, flags and timer cleared, a new wait mark. -/
def DeferredRead.sentBack (mark : Option (BitVec 32)) (d : DeferredRead) : DeferredRead :=
  { d with state := .waiting, waitMark := mark, data := [], poison := [], failed := false, timer := none }

/-- What an accepted write with acceptance number `n` does to an entry for its line (Table 5-4). -/
def DeferredRead.overtaken (n : BitVec 32) (d : DeferredRead) : DeferredRead :=
  match d.state with
  | .waiting => { d with waitMark := some n }
  | .issued => { d with stale := true }
  | .ready => d.sentBack (some n)

/-- An accepted write to a line overtakes the entries for that line (R92): entries in the Read List are withdrawn, and
REQUEUES rises for each READY entry. -/
def overtakeReads (line : Addr) (n : BitVec 32) (s : State) : State :=
  let hit (d : DeferredRead) : Bool := lineOf d.key.address == line
  let ready := s.reads.countP fun d => hit d && d.state == .ready
  let withdrawn := (s.reads.filter fun d => hit d && d.state == .waiting).map fun d => ReadMember.deferred d.key
  countTimes .requeues ready
    { s with
      reads := s.reads.map fun d => if hit d then d.overtaken n else d
      dport := { s.dport with readList := s.dport.readList.filter fun m => !withdrawn.contains m } }

/-- What the taking of ABORT does to an entry for a line of the context (Table 5-5). -/
def DeferredRead.takenBack (mark : Option (BitVec 32)) (d : DeferredRead) : DeferredRead :=
  match d.state with
  | .waiting => d
  | .issued => { d with stale := true }
  | .ready => d.sentBack mark

/-- Does context `k` hold the line, in any entry state? -/
def State.holds (s : State) (k : Requester) (line : Addr) : Bool :=
  s.held.any fun e => e.line == line && e.holder == k

/-- The taking of ABORT for context `k` takes back every entry for a line the context holds (R93). -/
def takeBackReads (k : Requester) (s : State) : State :=
  let hit (d : DeferredRead) : Bool := s.holds k (lineOf d.key.address)
  let ready := s.reads.countP fun d => hit d && d.state == .ready
  let withdrawn := (s.reads.filter fun d => hit d && d.state == .waiting).map fun d => ReadMember.deferred d.key
  countTimes .requeues ready
    { s with
      reads := s.reads.map fun d => if hit d then d.takenBack (s.newestNumber (lineOf d.key.address)) else d
      dport := { s.dport with readList := s.dport.readList.filter fun m => !withdrawn.contains m } }

/-! ## The table -/

/-- The entry with a read's requester, address and size (R82). -/
def State.findRead (s : State) (r : ReadRequest) : Option DeferredRead := s.reads.find? fun d => d.key == r

/-- Change the entry of a read. -/
def updRead (r : ReadRequest) (f : DeferredRead → DeferredRead) (s : State) : State :=
  { s with reads := s.reads.map fun d => if d.key = r then f d else d }

/-- Free the entry of a read. -/
def freeRead (r : ReadRequest) (s : State) : State := { s with reads := s.reads.filter fun d => !(d.key == r) }

/-- A DONE answer with its bytes and flags; POISON_READS rises when a flag is set (R84). -/
def answerRead (r : ReadRequest) (bytes : List Byte) (poison : List Bool) (s : State) : State :=
  countIf (poison.any id) .poisonReads (giveAnswer r.requester (.read (withParity bytes) poison) s)

/-! ## A READ at the U-port (R62, R82, R83, R86, R91) -/

/-- The three classes of a read (R82). -/
inductive ReadClass where
  | repeated (entry : DeferredRead)
  | deferred
  | straight
  deriving DecidableEq, Repr

/-- Classification, by the first line of R82 that holds. -/
def State.classifyRead (s : State) (r : ReadRequest) : ReadClass :=
  match s.findRead r with
  | some d => .repeated d
  | none =>
    if s.lineQueued (lineOf r.address) || s.abortingHold (lineOf r.address) then .deferred else .straight

/-- The answer to a repeat (R91, Table 5-3). -/
def answerRepeat (d : DeferredRead) (r : ReadRequest) (s : State) : State :=
  match d.state with
  | .waiting => giveAnswer r.requester .retry s
  | .issued => giveAnswer r.requester .retry s
  | .ready =>
    if d.failed then giveAnswer r.requester (.fault .memory) (freeRead r s)
    else answerRead r d.data d.poison (freeRead r s)

/-- A new deferred read (R86): counted in FULL_RETRIES when the table is full, else entered WAITING with the wait mark
of R87. -/
def deferRead (r : ReadRequest) (s : State) : State :=
  if Config.deferredCapacity ≤ s.reads.length then giveAnswer r.requester .retry (count .fullRetries s)
  else giveAnswer r.requester .retry
    { s with reads := s.reads ++ [⟨r, .waiting, false, s.newestNumber (lineOf r.address), [], [], false, none⟩] }

/-- A straight read joins the Read List and holds the U-port (R83, R140). -/
def startStraight (r : ReadRequest) (s : State) : State :=
  joinReadList .straight { s with uport := { s.uport with inProgress := some r } }

/-- A READ judged at its acceptance (R47, R62, R82). -/
def judgeRead (r : ReadRequest) (s : State) : State :=
  match s.device with
  | .start => giveAnswer r.requester .retry s
  | .load => giveAnswer r.requester .retry s
  | .scan => giveAnswer r.requester .retry s
  | .playback => giveAnswer r.requester .retry s
  | .stopped => giveAnswer r.requester (.fault .stopped) s
  | .run =>
    if malformed r.address r.size then giveAnswer r.requester (.fault .malformed) s
    else match s.classifyRead r with
      | .repeated d => answerRepeat d r s
      | .deferred => deferRead r s
      | .straight => startStraight r s

/-! ## Responses to reads (R83, R90) -/

/-- The straight read's response answers it and frees the U-port (R83). -/
def straightAnswered (r : Reply) (s : State) : State :=
  match s.uport.inProgress with
  | none => s
  | some req =>
    let s1 := { s with uport := { s.uport with inProgress := none } }
    match r with
    | .data bytes st =>
      let off := offsetInLine req.address
      answerRead req (bytesFrom bytes off req.size) (poisonFlags (uncorrectable st) off req.size) s1
    | .done => giveAnswer req.requester (.fault .memory) s1
    | .fail => giveAnswer req.requester (.fault .memory) s1
    | .unbacked => giveAnswer req.requester (.fault .memory) s1

/-- The discard interval in microseconds (R94). -/
def State.discardMicroseconds (s : State) : Nat := s.settings.discardInterval * Config.discardUnit

/-- A fetch that came back: READY, with the data or the failed flag, the discard timer started (R90). -/
def DeferredRead.fetched (interval : Nat) (r : Reply) (d : DeferredRead) : DeferredRead :=
  match r with
  | .data bytes st =>
    let off := offsetInLine d.key.address
    { d with state := .ready, data := bytesFrom bytes off d.key.size
             poison := poisonFlags (uncorrectable st) off d.key.size, failed := false, timer := some interval }
  | .done => { d with state := .ready, data := [], poison := [], failed := true, timer := some interval }
  | .fail => { d with state := .ready, data := [], poison := [], failed := true, timer := some interval }
  | .unbacked => { d with state := .ready, data := [], poison := [], failed := true, timer := some interval }

/-- A deferred fetch's response (R90): thrown away when stale, the entry returning to WAITING with a new wait mark. -/
def deferredAnswered (key : ReadRequest) (r : Reply) (s : State) : State :=
  match s.findRead key with
  | none => s
  | some d =>
    if d.stale then
      joinIssuable (updRead key (fun d => { d with
        state := .waiting, stale := false, waitMark := s.newestNumber (lineOf key.address) }) s)
    else updRead key (DeferredRead.fetched s.discardMicroseconds r) s

/-- The grant of a deferred entry: it becomes ISSUED with its stale flag clear (R89). -/
def issueDeferred (key : ReadRequest) (s : State) : State :=
  updRead key (fun d => { d with state := .issued, stale := false }) s

/-! ## Discard (R94) -/

/-- A READY entry's running discard timer expires: the entry is freed and DISCARDS rises (R94). A timer that does not
run, or is halted in STOPPED (R96), does not expire (log 9). -/
def discardExpires (key : ReadRequest) (s : State) : State :=
  match s.findRead key with
  | none => s
  | some d =>
    if s.device ≠ .stopped ∧ d.state = .ready ∧ d.timer.isSome then count .discards (freeRead key s) else s

end Sys2Proof.Machine
end

