-- ==== Sys2Proof/Machine/Startup.lean ====
section
/-! DEFINITION. The Start-up Controller: LOAD, SCAN, PLAYBACK and the entry into RUN (R156 to R169). -/

namespace Sys2Proof.Machine

/-- Change the Start-up Controller. -/
def updStartup (f : Startup → Startup) (s : State) : State := { s with startup := f s.startup }

/-- The step the Start-up Controller has next. -/
def setStep (step : StartupStep) (s : State) : State := updStartup (fun u => { u with step := step }) s

/-! ## Entering RUN and LOAD (R156, R169) -/

/-- The entry into RUN (R169): STARTED is raised and the Patrol Unit treats the entry. -/
def enterRun (s : State) : State :=
  patrolEnterRun (raiseCause .started (setStep .idle { s with device := .run }))

/-- The entry into RUN from LOAD or SCAN: the start-up outcome is all 0 (R169). -/
def enterRunUnplayed (s : State) : State :=
  enterRun (updStartup (fun u => { u with rolledBack := 0, linesRestored := 0, linesFailed := 0 }) s)

/-- The entry into LOAD: the configuration read is presented (R156, R157). -/
def enterLoad (s : State) : State := setStep .readConfiguration { s with device := .load, memReady := true }

/-! ## LOAD (R157 to R159) -/

/-- May configuration word `c` of a line read be loaded: readable and in range (R157)? -/
def loadable (bytes : Line) (st : Vector WordStatus 16) (c : ConfigWord) : Bool :=
  !(uncorrectable st).getLsbD c.index && c.accepts (lineWord bytes c.index)

/-- Load one configuration word, or keep its default and raise ERROR with the word's byte address (R157). -/
def loadWord (bytes : Line) (st : Vector WordStatus 16) (s : State) (c : ConfigWord) : State :=
  if loadable bytes st c then { s with settings := s.settings.load (lineWord bytes c.index) c }
  else raiseError .loadInvalid (s.windowAddr c.offset) s

/-- The configuration read is answered (R157). Before it every word is at its default (R98). -/
def configurationAnswered (r : Reply) (s : State) : State :=
  setStep (.readRegions false)
    (match r with
     | .data bytes st => ConfigWord.all.foldl (loadWord bytes st) s
     | .done => raiseError .loadInvalid (s.windowAddr configurationOffset) s
     | .fail => raiseError .loadInvalid (s.windowAddr configurationOffset) s
     | .unbacked => raiseError .loadInvalid (s.windowAddr configurationOffset) s)

/-- The region entry that words A and B make, when they are valid by R158 (the words being readable). -/
def regionOfWords (window : Nat) (a b : Word) : Option Region :=
  match wordBMode b with
  | none => none
  | some mode =>
    if isLineAddress a ∧
        (mode = .off ∨ (a ≤ wordBLimit b ∧
          spansOverlap a.toNat ((wordBLimit b).toNat + 64 - a.toNat) window Config.windowBytes = false))
    then some ⟨a, wordBLimit b, mode, a⟩ else none

/-- The region entries of one region line: entry `i` of the line is region `8 * half + i`. -/
def regionIndex (secondLine : Bool) (i : Fin 8) : Fin 16 := Fin.ofNat 16 ((if secondLine then 8 else 0) + i.val)

/-- Install a region entry. -/
def setRegion (j : Fin 16) (r : Region) (s : State) : State := { s with regions := s.regions.set j r }

/-- The region entry that word pair `i` of a region line makes (R158). -/
def regionOfLine (window : Nat) (bytes : Line) (st : Vector WordStatus 16) (i : Fin 8) : Option Region :=
  if (uncorrectable st).getLsbD (2 * i.val) || (uncorrectable st).getLsbD (2 * i.val + 1) then none
  else regionOfWords window (lineWord bytes (2 * i.val)) (lineWord bytes (2 * i.val + 1))

/-- Install one loaded region entry, or OFF with ERROR at the address of its word A (R158). -/
def loadRegion (secondLine : Bool) (bytes : Line) (st : Vector WordStatus 16) (s : State) (i : Fin 8) : State :=
  let j := regionIndex secondLine i
  match regionOfLine s.windowBase bytes st i with
  | some r => setRegion j r s
  | none => raiseError .loadInvalid (s.windowAddr (wordAOffset j)) (setRegion j Region.reset s)

/-- A region line that cannot be read installs its eight entries OFF and raises ERROR once (R158). -/
def regionLineFailed (secondLine : Bool) (s : State) : State :=
  raiseError .loadInvalid (s.windowAddr (wordAOffset (regionIndex secondLine 0)))
    ((List.finRange 8).foldl (fun s i => setRegion (regionIndex secondLine i) Region.reset s) s)

/-- A region line read is answered (R158). -/
def regionLineAnswered (secondLine : Bool) (r : Reply) (s : State) : State :=
  setStep (if secondLine then .readDescriptor else .readRegions true)
    (match r with
     | .data bytes st => (List.finRange 8).foldl (loadRegion secondLine bytes st) s
     | .done => regionLineFailed secondLine s
     | .fail => regionLineFailed secondLine s
     | .unbacked => regionLineFailed secondLine s)

/-- The descriptor is invalid: ABSENT, and RUN (R159). -/
def descriptorInvalid (s : State) : State := enterRunUnplayed (enterAbsent .descriptorInvalid none s)

/-- The descriptor cannot be read: ERROR, then as invalid (R159). -/
def descriptorUnreadable (s : State) : State :=
  descriptorInvalid (raiseError .loadInvalid (s.windowAddr descriptorOffset) s)

/-- The descriptor is valid: the geometry is taken and SCAN begins at slot 0 (R159). -/
def descriptorValid (g : Geometry) (s : State) : State :=
  setStep .readSlot (updStartup (fun u => { u with nextSlot := 0 })
    { s with device := .scan, journal := { s.journal with geometry := some g } })

/-- The descriptor read is answered (R159). -/
def descriptorAnswered (r : Reply) (s : State) : State :=
  match r.soundLine with
  | none => descriptorUnreadable s
  | some line =>
    match decodeDescriptor s.windowBase line with
    | none => descriptorInvalid s
    | some g => descriptorValid g s

/-! ## SCAN (R160 to R165) -/

/-- What the scan keeps of a header read back from slot `i` (R161). -/
def summarize (slots i : Nat) (line : Line) : Option SlotSummary :=
  match decodeHeader line with
  | none => none
  | some h => if h.sequence.toNat % slots = i then some ⟨h.sequence, h.kind, h.context, h.epoch⟩ else none

/-- The scan ends in failure (R160, R164). -/
def scanFails (addr : Addr) (s : State) : State :=
  enterRunUnplayed (raiseError .scanFailed addr (enterAbsent .scanFailed s.journal.geometry s))

/-- The highest of the valid sequences (R162). -/
def highestSeq : List (Option SlotSummary) → Option Seq
  | [] => none
  | none :: es => highestSeq es
  | some e :: es =>
    match highestSeq es with
    | none => some e.sequence
    | some m => some (if m < e.sequence then e.sequence else m)

/-- The summary entry that holds sequence `q` (R162). -/
def recordAt (summary : List (Option SlotSummary)) (slots : Nat) (q : Seq) : Option SlotSummary :=
  match summary[q.toNat % slots]? with
  | some (some e) => if e.sequence = q then some e else none
  | some none => none
  | none => none

/-- The run from `q` downward, newest record last, with at most `fuel` records below `q` (R162). -/
def runBelow (summary : List (Option SlotSummary)) (slots : Nat) : Nat → Seq → List SlotSummary → List SlotSummary
  | 0, _, acc => acc
  | fuel + 1, q, acc =>
    if q = 0 then acc
    else match recordAt summary slots (q - 1) with
      | none => acc
      | some e => runBelow summary slots fuel (q - 1) (e :: acc)

/-- The records of the run, in ascending sequence, ending at the highest (R162). -/
def runRecords (summary : List (Option SlotSummary)) (slots : Nat) (m : Seq) : List SlotSummary :=
  match recordAt summary slots m with
  | none => []
  | some e => runBelow summary slots (slots - 1) m [e]

/-- Is the record an end marker of the epoch? (R163) -/
def SlotSummary.ends (epoch : Seq) (e : SlotSummary) : Bool :=
  (e.kind == .commit || e.kind == .aborted) && e.epoch == epoch

/-- The unfinished set (R163): the OPEN records of the run without an end marker in it, ascending. -/
def unfinishedOf (run : List SlotSummary) : List UnfinishedEpoch :=
  (run.filter fun e => e.kind == .openRecord && !run.any (SlotSummary.ends e.sequence)).map
    fun e => ⟨e.sequence, e.context, 0, 0⟩

/-- Does a record belong on the playback list (R163)? -/
def toPlayBack (unfinished : List UnfinishedEpoch) (e : SlotSummary) : Bool :=
  e.kind == .capture && unfinished.any fun u => u.epoch == e.epoch && u.epoch < e.sequence && u.context == e.context

/-- The playback list, descending (R163). -/
def playbackOf (run : List SlotSummary) (unfinished : List UnfinishedEpoch) : List Seq :=
  ((run.filter (toPlayBack unfinished)).map (·.sequence)).reverse

/-- The marker space check (R164): `u` markers fit in S less the records from E to M. -/
def markersFit (slots : Nat) (m e : Seq) (u : Nat) : Bool := decide (u + (m.toNat - e.toNat + 1) ≤ slots)

/-- The step of playback at the current position: the next restore, else the first marker (R166, R167). -/
def playNext (s : State) : State :=
  setStep (if s.startup.position < s.startup.playback.length then .playHeader else .marker 0) s

/-- PLAYBACK begins (R165). -/
def enterPlayback (s : State) : State :=
  playNext (updStartup (fun u => { u with position := 0 }) { s with device := .playback })

/-- What the last scan read finds: M, the run, the unfinished set, the playback list (R162, R163). -/
def recordFindings (m : Option Seq) (run : List SlotSummary) (s : State) : State :=
  let unfinished := unfinishedOf run
  updStartup (fun u => { u with
    highest := m
    run := match run.head?, m with
      | some e, some q => some (e.sequence, q)
      | some _, none => none
      | none, _ => none
    unfinished := unfinished
    playback := playbackOf run unfinished }) s

/-- The head sequence for the Journal Manager (R162): M + 1, or 0 when no entry is valid. -/
def takeHead (m : Option Seq) (s : State) : State :=
  match m with
  | none => { s with journal := { s.journal with head := 0 } }
  | some q => raiseHead { s with journal := { s.journal with head := q } }

/-- The end of the scan (R164, R165). -/
def scanEnds (s : State) : State :=
  let m := highestSeq s.startup.summary
  let run := match m with
    | none => []
    | some q => runRecords s.startup.summary s.slotCount q
  let s1 := recordFindings m run s
  match s1.startup.unfinished, m with
  | u :: us, some q =>
    if markersFit s.slotCount q u.epoch (us.length + 1) then enterPlayback (takeHead m s1)
    else scanFails (s.ring.headerLine u.epoch) s1
  | [], m => enterRunUnplayed (becomeReady (takeHead m s1))
  | _ :: _, none => enterRunUnplayed (becomeReady (takeHead none s1))

/-- A header read of the scan is answered (R160, R161). -/
def scanAnswered (r : Reply) (s : State) : State :=
  let i := s.startup.nextSlot
  match r.soundLine with
  | none => scanFails (s.ring.slotHeader i) s
  | some line =>
    let s1 := updStartup (fun u => { u with
      summary := u.summary ++ [summarize s.slotCount i line], nextSlot := i + 1 }) s
    if i + 1 < s.slotCount then setStep .readSlot s1 else scanEnds s1

/-! ## PLAYBACK (R166, R167) -/

/-- The sequence being restored (R165). -/
def State.playSeq (s : State) : Seq := s.startup.playback[s.startup.position]?.getD 0

/-- The expected record of a playback restore step: the sequence with its summary entry's context and epoch ID. -/
def State.playExpected (s : State) : Expected :=
  match recordAt s.startup.summary s.slotCount s.playSeq with
  | some e => ⟨s.playSeq, e.context, e.epoch⟩
  | none => ⟨s.playSeq, 0, 0⟩

/-- Count one line against its epoch and in the start-up outcome; a failed line raises RESTORE_FAILS (R166). -/
def countPlayed (good : Bool) (s : State) : State :=
  let epoch := s.playExpected.epoch
  countIf (!good) .restoreFails
    (updStartup (fun u => { u with
      unfinished := u.unfinished.map fun x =>
        if x.epoch = epoch then
          (if good then { x with restored := x.restored + 1 } else { x with failed := x.failed + 1 })
        else x
      linesRestored := if good then satInc u.linesRestored else u.linesRestored
      linesFailed := if good then u.linesFailed else satInc u.linesFailed }) s)

/-- One restore step of playback ends: its line is counted and the next step begins. -/
def playStepEnds (good : Bool) (s : State) : State :=
  playNext (updStartup (fun u => { u with position := u.position + 1 }) (countPlayed good s))

/-- The step's header read is answered: the data read is next, whatever it returned (R39, R166). -/
def playHeaderAnswered (r : Reply) (s : State) : State := setStep (.playData r.soundLine) s

/-- The step's data read is answered: the restore write is next, or with no usable header the line is failed and the
step ends (R166). -/
def playDataAnswered (header : Option Line) (r : Reply) (s : State) : State :=
  match s.playExpected.header header with
  | none => playStepEnds false s
  | some h =>
    match restoreImage (some h) r with
    | .write image poison good => setStep (.playWrite h.line image poison good) s
    | .header => s
    | .data _ => s

/-- The restore write is answered: at DONE the line is counted; a failure stops the device (R166, R168). -/
def playWriteAnswered (good : Bool) (r : Reply) (s : State) : State :=
  match r with
  | .done => playStepEnds good s
  | .data _ _ => stopDevice s
  | .fail => stopDevice s
  | .unbacked => stopDevice s

/-- A RECOVERY marker is durable: the epoch counts as rolled back; the next marker follows, or after the last the
journal is READY and the device enters RUN (R167). -/
def markerDone (i : Nat) (s : State) : State :=
  let s1 := updStartup (fun u => { u with rolledBack := satInc u.rolledBack }) s
  if i + 1 < s.startup.unfinished.length then setStep (.marker (i + 1)) s1
  else enterRun (becomeReady s1)

/-- A RECOVERY marker is answered (R167, R168). -/
def markerAnswered (i : Nat) (r : Reply) (s : State) : State :=
  match r with
  | .done => markerDone i s
  | .data _ _ => stopDevice s
  | .fail => stopDevice s
  | .unbacked => stopDevice s

/-! ## The controller's requests and responses -/

/-- The next request of the Start-up Controller, with the effects of its issue: a RECOVERY marker is allocated from the
head sequence and draws on no reservation (R167). -/
def startupIssue (s : State) : Option Issue :=
  match s.startup.step with
  | .idle => none
  | .readConfiguration => some (s, .read (s.windowAddr configurationOffset))
  | .readRegions second => some (s, .read (s.windowAddr (wordAOffset (regionIndex second 0))))
  | .readDescriptor => some (s, .read (s.windowAddr descriptorOffset))
  | .readSlot => some (s, .read (s.ring.slotHeader s.startup.nextSlot))
  | .playHeader => some (s, .read (s.ring.headerLine s.playSeq))
  | .playData _ => some (s, .read (s.ring.dataLine s.playSeq))
  | .playWrite line image poison _ => some (s, .write line allBytes image poison)
  | .marker i =>
    match s.startup.unfinished[i]? with
    | none => none
    | some u =>
      let q := s.journal.head
      some (raiseHead s, wholeLine (s.ring.headerLine q)
        (abortedHeader q u.context originRecovery u.epoch u.restored u.failed).encode)

/-- The response to the Start-up Controller's request, by its step. -/
def startupAnswered (r : Reply) (s : State) : State :=
  match s.startup.step with
  | .idle => s
  | .readConfiguration => configurationAnswered r s
  | .readRegions second => regionLineAnswered second r s
  | .readDescriptor => descriptorAnswered r s
  | .readSlot => scanAnswered r s
  | .playHeader => playHeaderAnswered r s
  | .playData header => playDataAnswered header r s
  | .playWrite _ _ _ good => playWriteAnswered good r s
  | .marker i => markerAnswered i r s

end Sys2Proof.Machine
end

