-- ==== Sys2Proof/Machine/Arbiter.lean ====
section
/-! DEFINITION. The D-port and its Arbiter: issuing, granting (R136, R139 to R143), and handing a response or a timeout
to its client (R135 to R137). -/

namespace Sys2Proof.Machine

/-! ## Issuing (R136, R137) -/

/-- Issue a request: the issue number is raised by 1 and carried (log 5), and the response timer starts. -/
def issueRequest (client : Client) (req : DportRequest) (s : State) : State :=
  let n := s.dport.issueNumber + 1
  { s with dport := { s.dport with
      outstanding := some ⟨client, req, n⟩, issueNumber := n, timer := some Config.responseTimeout } }

/-! ## Who waits (R139) -/

/-- W waits while it has a unit in progress with no request outstanding. -/
def State.wWaits (s : State) : Bool := s.engine.work.isSome

/-- R waits while the Read List has a member. -/
def State.rWaits (s : State) : Bool := !s.dport.readList.isEmpty

/-- P waits while it is in READ or RENEW with its request not granted. -/
def State.pWaits (s : State) : Bool := s.patrolRequest.isSome

/-! ## Grants (R141, R142) -/

/-- A grant to W or R: the mark, and the patrol wait count while P waits (R141, R142). -/
def markGrant (m : GrantMark) (s : State) : State :=
  { s with dport := { s.dport with
      lastGrant := m, patrolWait := if s.pWaits then s.dport.patrolWait + 1 else s.dport.patrolWait } }

/-- The grant to the Write Engine. -/
def grantW (s : State) : State :=
  match engineIssue s with
  | none => s
  | some (s1, req) => issueRequest .writeEngine req (markGrant .w s1)

/-- The grant to the Read List: the head member leaves the list and its whole line is read (R140). -/
def grantR (s : State) : State :=
  match s.dport.readList with
  | [] => s
  | m :: rest =>
    let s1 := markGrant .r { s with dport := { s.dport with readList := rest } }
    match m with
    | .straight =>
      match s.uport.inProgress with
      | none => s1
      | some r => issueRequest .straightRead (.read (lineOf r.address)) s1
    | .deferred key => issueRequest (.deferredRead key) (.read (lineOf key.address)) (issueDeferred key s1)

/-- The grant to the Patrol Unit: the mark stays (R141). -/
def grantP (s : State) : State :=
  match s.patrolRequest with
  | none => s
  | some req => issueRequest .patrol req s

/-- The grant to the Start-up Controller (R143). -/
def grantS (s : State) : State :=
  match startupIssue s with
  | none => s
  | some (s1, req) => issueRequest .startup req s1

/-- The Arbiter's choice in RUN (R141, R142). -/
def grantRun (s : State) : State :=
  if s.pWaits ∧ s.dport.patrolWait = Config.patrolBound then grantP s
  else match s.wWaits, s.rWaits, s.dport.lastGrant with
    | true, true, .w => grantR s
    | true, true, .r => grantW s
    | true, false, _ => grantW s
    | false, true, _ => grantR s
    | false, false, _ => grantP s

/-- The Arbiter grants a free D-port by the device state (R143). -/
def grant (s : State) : State :=
  match s.dport.outstanding with
  | some _ => s
  | none =>
    match s.device with
    | .start => s
    | .load => grantS s
    | .scan => grantS s
    | .playback => grantS s
    | .run => grantRun s
    | .stopped => s

/-- What follows every event: the free Write Engine chooses, and the free D-port is granted (R78, R136, R141). -/
def settle (s : State) : State := grant (chooseUnit s)

/-! ## Responses (R135 to R137) -/

/-- The port is released: the request is no longer outstanding and the response timer stops. -/
def releasePort (s : State) : State := { s with dport := { s.dport with outstanding := none, timer := none } }

/-- The response is handed to the client that issued the request (R135). -/
def handToClient (client : Client) (r : Reply) (s : State) : State :=
  match client with
  | .writeEngine => engineAnswered r s
  | .straightRead => straightAnswered r s
  | .deferredRead key => deferredAnswered key r s
  | .patrol => patrolAnswered r s
  | .startup => startupAnswered r s

/-- A reply to the outstanding request: the timer stops, the client does what its rules give, then the Write Engine
chooses and the Arbiter grants (R136). -/
def handReply (o : Outstanding) (r : Reply) (s : State) : State :=
  settle (handToClient o.client r (releasePort s))

/-- The outstanding request a response with this issue number answers: none in STOPPED, none with nothing outstanding,
none with another number (R130, R136). -/
def State.answers (s : State) (issue : Byte) : Option Outstanding :=
  if s.device = .stopped then none
  else match s.dport.outstanding with
    | none => none
    | some o => if o.issue = issue then some o else none

end Sys2Proof.Machine
end

