-- ==== Sys2Proof/Machine/Commands.lean ====
section
/-! DEFINITION. Window words and command slots: the checks of each word, settings, region words, staging, and the taking
of commands (R52 to R55, R58, R98 to R114). -/

namespace Sys2Proof.Machine

/-! ## The taking of a command (R108 to R114) -/

/-- The line limit an OPEN sets: argument A, 0 taken as 512 (R24). -/
def lineLimitOf (a : Word) : Nat := if a = 0 then 512 else a.toNat

/-- OPEN's refusals in order (R108). -/
def State.openVerdict (s : State) (k : Requester) (a : Word) : Verdict :=
  if s.contexts[k].state ≠ .closed then .refused .state
  else if 512 < a.toNat then .refused .limit
  else if s.journalReady = false then .refused .noJournal
  else if s.canClaim 2 = false then .refused .journalFull
  else .taken

/-- COMMIT's and ABORT's refusal (R109). -/
def State.endVerdict (s : State) (k : Requester) : Verdict :=
  if s.contexts[k].state = .opened then .taken else .refused .state

/-- The staged geometry (R18). -/
def State.stagedGeometry (s : State) : Geometry := ⟨s.settings.stagedBase, s.settings.stagedSlots.toNat⟩

/-- Does the ring overlap an active region? (R18) -/
def State.regionsOverlap (s : State) (g : Geometry) : Bool :=
  s.regions.toList.any fun r =>
    r.mode != .off && spansOverlap g.base.toNat (128 * g.slots) r.base.toNat (r.limit.toNat + 64 - r.base.toNat)

/-- Is the staged geometry valid? (R18) -/
def State.stagedValid (s : State) : Bool :=
  s.stagedGeometry.placed s.windowBase && !s.regionsOverlap s.stagedGeometry

/-- REINIT's refusals in order (R113). -/
def State.reinitVerdict (s : State) : Verdict :=
  if s.allClosed = false ∨ s.journal.state = .formatting then .refused .state
  else if s.stagedValid = false then .refused .geometry
  else .taken

/-- The verdict on a staged command (R108 to R114). -/
def State.verdict (s : State) (k : Requester) (opcode : BitVec 4) (a : Word) : Verdict :=
  if opcode = 1 then s.openVerdict k a
  else if opcode = 2 then s.endVerdict k
  else if opcode = 3 then s.endVerdict k
  else if opcode = 4 then .taken
  else if opcode = 5 then .taken
  else if opcode = 6 then .taken
  else if opcode = 7 then s.reinitVerdict
  else .refused .opcode

/-- OPEN taken (R24): the context opens and claims 2 slots (R11). -/
def openTaken (k : Requester) (a : Word) (s : State) : State :=
  claim k 2 (updContext k (fun _ => ⟨.opened, none, false, true, lineLimitOf a, 0, 0⟩) s)

/-- COMMIT taken (R27). -/
def commitTaken (k : Requester) (s : State) : State := updContext k (fun c => { c with state := .closing }) s

/-- ABORT taken (R29): the context is ABORTING with its counts 0, and deferred reads of its lines are taken back
(R93). -/
def abortTaken (k : Requester) (s : State) : State :=
  takeBackReads k (updContext k (fun c => { c with state := .aborting, restored := 0, failed := 0 }) s)

/-- REINIT taken (R18): FORMATTING with the staged geometry; head and live tail are kept. -/
def reinitTaken (s : State) : State :=
  { s with journal := { s.journal with state := .formatting, geometry := some s.stagedGeometry } }

/-- The effects of a taken command (Table 6-4). -/
def commandTaken (k : Requester) (opcode : BitVec 4) (a : Word) (s : State) : State :=
  if opcode = 1 then openTaken k a s
  else if opcode = 2 then commitTaken k s
  else if opcode = 3 then abortTaken k s
  else if opcode = 7 then reinitTaken s
  else s

/-- A slot closes its staged command: EXECUTING with the decision, staging EMPTY and the staged words dropped
(R104, R105). -/
def closeSlot (k : Requester) (d : Decision) (s : State) : State :=
  updSlot k (fun c => { c with staging := .empty, word := none, argA := none, phase := .executing,
                               decision := some d }) s

/-- The staged opcode and tag, 0 and 0 when no word 0 was staged (R105, R116). -/
def CommandSlot.stagedWord (c : CommandSlot) : CommandWord := c.word.getD ⟨0, 0⟩

/-- The taking of slot `k`'s staged command (R104). -/
def takeCommand (k : Requester) (s : State) : State :=
  let w := s.slots[k].stagedWord
  let a := s.slots[k].argA.getD 0
  let v := s.verdict k w.opcode a
  closeSlot k ⟨w, v⟩ (if v = .taken then commandTaken k w.opcode a s else s)

/-- A sequence error in slot `k` (R105). -/
def sequenceErrorMade (k : Requester) (s : State) : State :=
  closeSlot k ⟨s.slots[k].stagedWord, .refused .sequence⟩ s

/-- Word 0 stages opcode and tag; a command staged so far is abandoned and counted (R102). -/
def stageWord0 (k : Requester) (v : Word) (s : State) : State :=
  countIf (s.slots[k].staging != .empty) .abandoned
    (updSlot k (fun c => { c with staging := .word0, word := some (commandWord v), argA := none }) s)

/-- Word 1 in order stages argument A (R103). -/
def stageWord1 (k : Requester) (v : Word) (s : State) : State :=
  updSlot k (fun c => { c with staging := .word1, argA := some v }) s

/-! ## Region words (R52 to R55) -/

/-- The lock on region words (R54). -/
def State.regionsLocked (s : State) : Bool := !s.allClosed || s.journal.state == .formatting

/-- Does a span of lines from `base` to `limit` overlap the ring in force? (R53) -/
def State.overlapsRing (s : State) (base limit : Addr) : Bool :=
  match s.journal.geometry with
  | none => false
  | some g => spansOverlap base.toNat (limit.toNat + 64 - base.toNat) g.base.toNat (128 * g.slots)

/-- The third group of word B's checks, for a mode that is not OFF (R53). -/
def State.regionPlaced (s : State) (base limit : Addr) : Bool :=
  decide (base ≤ limit) &&
    !spansOverlap base.toNat (limit.toNat + 64 - base.toNat) s.windowBase Config.windowBytes &&
    !s.overlapsRing base limit

/-- What word B's value asks to install in entry `j`, when its checks 2 and 3 pass (R53). -/
def State.wordBInstall (s : State) (j : Fin 16) (v : Word) : Option Region :=
  match wordBMode v with
  | none => none
  | some mode =>
    let base := s.regions[j].staged
    if mode = .off ∨ s.regionPlaced base (wordBLimit v) then some ⟨base, wordBLimit v, mode, base⟩ else none

/-! ## What an accepted window word does -/

/-- The effect of a window word that passed its checks. -/
inductive WindowEffect where
  | setting (c : ConfigWord) (v : Word)
  | acknowledge (v : Word)
  | stageBase (entry : Fin 16) (v : Word)
  | install (entry : Fin 16) (r : Region)
  | word0 (slot : Requester) (v : Word)
  | word1 (slot : Requester) (v : Word)
  | close (slot : Requester)
  | sequenceError (slot : Requester)
  deriving DecidableEq, Repr

/-- Is the word's acceptance a command close (Table 4-1)? -/
def WindowEffect.commandClose : WindowEffect → Bool
  | .close _ => true
  | .sequenceError _ => true
  | .setting .. => false
  | .acknowledge _ => false
  | .stageBase .. => false
  | .install .. => false
  | .word0 .. => false
  | .word1 .. => false

/-- A closing word: BUSY while EXECUTING, else the taking when it is in order, else a sequence error (R104 to R106). -/
def CommandSlot.closing (c : CommandSlot) (k : Requester) (inOrder : Bool) : Except FaultReason WindowEffect :=
  if c.phase = .executing then .error .busy
  else if inOrder then .ok (.close k) else .ok (.sequenceError k)

/-- The checks of a command word (R102 to R106). -/
def CommandSlot.check (c : CommandSlot) (k : Requester) (word : Fin 3) (v : Word) : Except FaultReason WindowEffect :=
  if word = 0 then .ok (.word0 k v)
  else if word = 1 then
    (if c.staging = .word0 then .ok (.word1 k v) else c.closing k false)
  else c.closing k (c.staging == .word1)

/-- Step 6 of R58: the checks of the word itself. -/
def State.wordCheck (s : State) (word : WindowWord) (v : Word) : Except FaultReason WindowEffect :=
  match word with
  | .config c => if c.accepts v then .ok (.setting c v) else .error .malformed
  | .acknowledge => if validMarks v then .ok (.acknowledge v) else .error .malformed
  | .regionA j =>
    if s.regionsLocked then .error .regionLocked
    else if isLineAddress v then .ok (.stageBase j v) else .error .malformed
  | .regionB j =>
    if s.regionsLocked then .error .regionLocked
    else match s.wordBInstall j v with
      | some r => .ok (.install j r)
      | none => .error .malformed
  | .command k n => s.slots[k].check k n v
  | .deviceOwned => .error .protectedWord
  | .unlisted => .error .malformed

/-- Steps 4 to 6 of R58, for a listed host-written word. -/
def State.hostWordCheck (s : State) (w : WriteRequest) (word : WindowWord) : Except FaultReason WindowEffect :=
  let foreign := match word with
    | .command k _ => w.requester != k
    | .config _ => false
    | .acknowledge => false
    | .regionA _ => false
    | .regionB _ => false
    | .deviceOwned => false
    | .unlisted => false
  if foreign then .error .protectedWord
  else if s.settings.parityCheck && w.bytes.any badParity then .error .parity
  else s.wordCheck word (bytesToWord (w.bytes.map (·.value)))

/-- The window rules (R58). -/
def State.windowCheck (s : State) (w : WriteRequest) : Except FaultReason WindowEffect :=
  if w.bytes.length ≠ 4 then .error .malformed
  else match windowWord (w.address.toNat - s.windowBase) with
    | .deviceOwned => .error .protectedWord
    | .unlisted => .error .malformed
    | word => s.hostWordCheck w word

/-- A setting is replaced at acceptance (R99): the patrol interval restarts, starts or stops the interval timer (R148),
the low mark makes the LOW test with the old and the new mark (R16). -/
def settingTaken (c : ConfigWord) (v : Word) (s : State) : State :=
  let s1 := { s with settings := s.settings.load v c }
  match c with
  | .patrolInterval => patrolRejudge s1
  | .lowMark => lowTest s.free s.settings.lowMark s1
  | .stagedBase => s1
  | .stagedSlots => s1
  | .parityCheck => s1
  | .discardInterval => s1
  | .interruptMask => s1

/-- The effect of an accepted window word, made at its acceptance (R97). -/
def windowTaken (e : WindowEffect) (s : State) : State :=
  match e with
  | .setting c v => settingTaken c v s
  | .acknowledge v => acknowledge (causeMarks v) s
  | .stageBase j v => setRegion j { s.regions[j] with staged := v } s
  | .install j r => patrolInstall (setRegion j r s)
  | .word0 k v => stageWord0 k v s
  | .word1 k v => stageWord1 k v s
  | .close k => takeCommand k s
  | .sequenceError k => sequenceErrorMade k s

end Sys2Proof.Machine
end

