-- ==== Sys2Proof/Machine/Admission.lean ====
section
/-! DEFINITION. Admission of writes and the U-port's order of requests (R44 to R48, R51, R56 to R61, R118, R119). -/

namespace Sys2Proof.Machine

/-! ## Target classes (R48, R51) -/

/-- The Region Table lookup: the lowest-numbered active entry that contains the line (R51). -/
def State.lookupRegion (s : State) (line : Addr) : Option Region :=
  s.regions.toList.find? fun r => r.active && decide (r.base ≤ line) && decide (line ≤ r.limit)

/-- The four target classes (R48). -/
inductive TargetClass where
  | window
  | ring
  | region (r : Region)
  | plain
  deriving DecidableEq, Repr

/-- The class of a line, by the order of R48. -/
def State.classOf (s : State) (line : Addr) : TargetClass :=
  if s.inWindow line then .window
  else if s.inRing line then .ring
  else match s.lookupRegion line with
    | some r => .region r
    | none => .plain

/-! ## The admission decision (R59, R60) -/

/-- How an accepted write is posted. -/
inductive Admitted where
  | bare (context : Option Requester)
  | capture
  | window (effect : WindowEffect)
  deriving DecidableEq, Repr

/-- The checks of a capture, in order (R60). -/
def State.captureCheck (s : State) (k : Requester) : Except FaultReason Admitted :=
  if Config.heldCapacity ≤ s.held.length then .error .holdFull
  else if s.contexts[k].lineLimit ≤ s.heldCount k then .error .epochLimit
  else if s.canClaim 1 = false then .error .journalFull
  else .ok .capture

/-- The decision for a line inside an active region: the first row of Table 3-6 that holds (R59). -/
def State.regionCheck (s : State) (k : Requester) (line : Addr) (mode : RegionMode) : Except FaultReason Admitted :=
  if mode = .readonly then .error .readOnly
  else match s.lookupHeld line with
    | some e =>
      if e.holder ≠ k then .error .conflict
      else if s.contexts[k].state = .opened then .ok (.bare (some k)) else .error .conflict
    | none =>
      if s.contexts[k].state = .opened then s.captureCheck k
      else if mode = .guarded then .error .guarded
      else .ok (.bare none)

/-- Step 3 of Table 3-5: the check of the target class. -/
def State.classCheck (s : State) (w : WriteRequest) : Except FaultReason Admitted :=
  let line := lineOf w.address
  match s.classOf line with
  | .window =>
    match s.windowCheck w with
    | .ok e => .ok (.window e)
    | .error f => .error f
  | .ring => .error .protectedWord
  | .region r => s.regionCheck w.requester line r.mode
  | .plain => .ok (.bare none)

/-- The answer of Table 3-5, steps 1 to 4, and how a write that passes them is posted. -/
inductive Judgement where
  | retry
  | fault (reason : FaultReason)
  | accept (a : Admitted)
  deriving DecidableEq, Repr

/-- A WRITE judged in the order of Table 3-5 (R47, R56, R57). -/
def State.judge (s : State) (w : WriteRequest) : Judgement :=
  match s.device with
  | .start => .retry
  | .load => .retry
  | .scan => .retry
  | .playback => .retry
  | .stopped => .fault .stopped
  | .run =>
    if malformed w.address w.bytes.length then .fault .malformed
    else match s.classCheck w with
      | .error f => .fault f
      | .ok a => if s.queueFull then .retry else .accept a

/-! ## Step 5: effects (R56, R61) -/

/-- The words of the line that a bad byte damages, while checking is enabled (R118, R119). -/
def State.damage (s : State) (w : WriteRequest) : WordMask :=
  if s.settings.parityCheck then damagedWords (offsetInLine w.address) w.bytes else 0

/-- The posted entry of an accepted write (R61); its acceptance number is given as it is appended. -/
def State.entryOf (s : State) (w : WriteRequest) (a : Admitted) : PostedEntry :=
  let off := offsetInLine w.address
  { number := s.queue.nextNumber
    requester := w.requester
    line := lineOf w.address
    byteMask := byteMaskAt off w.bytes.length
    data := placeBytes off (w.bytes.map (·.value))
    poison := match a with
      | .window _ => 0
      | .capture => s.damage w
      | .bare _ => s.damage w
    cls := match a with
      | .window _ => .window
      | .capture => .capture
      | .bare _ => .bare
    context := match a with
      | .window _ => none
      | .capture => some w.requester
      | .bare k => k
    commandClose := match a with
      | .window e => e.commandClose
      | .capture => false
      | .bare _ => false }

/-- The effects of the acceptance on the block that owns them: the claim and the insert of a capture (R60), or the
window word's effect (R97). -/
def makeEffects (w : WriteRequest) (a : Admitted) (s : State) : State :=
  match a with
  | .bare _ => s
  | .capture => insertHeld (lineOf w.address) w.requester (claim w.requester 1 s)
  | .window e => windowTaken e s

/-- Bad parity in an accepted write outside the window: PARITY_ERRORS rises once and ERROR is raised with the write's
byte address (R119). -/
def reportParity (poison : WordMask) (addr : Addr) (s : State) : State :=
  if poison = 0 then s else raiseError .writeParity addr (count .parityErrors s)

/-- An accepted write (R61): its effects, the posted entry, the deferred reads it overtakes (R92), the parity report,
the answer DONE. -/
def acceptWrite (w : WriteRequest) (a : Admitted) (s : State) : State :=
  let e := s.entryOf w a
  giveAnswer w.requester .written
    (reportParity e.poison w.address (overtakeReads e.line e.number (appendEntry e (makeEffects w a s))))

/-- What a refusal counts (R46): CONFLICTS and SPACE_FAULTS. -/
def countFault (f : FaultReason) (s : State) : State :=
  match f with
  | .conflict => count .conflicts s
  | .holdFull => count .spaceFaults s
  | .epochLimit => count .spaceFaults s
  | .journalFull => count .spaceFaults s
  | .malformed => s
  | .protectedWord => s
  | .parity => s
  | .readOnly => s
  | .guarded => s
  | .regionLocked => s
  | .busy => s
  | .memory => s
  | .stopped => s

/-- A WRITE at the U-port (R56). -/
def judgeWrite (w : WriteRequest) (s : State) : State :=
  match s.judge w with
  | .retry => giveAnswer w.requester .retry s
  | .fault f => giveAnswer w.requester (.fault f) (countFault f s)
  | .accept a => acceptWrite w a s

/-! ## The U-port's order (R45, log 3) -/

/-- A request taken by the U-port, with what follows its event. -/
def takeRequest (q : UportRequest) (s : State) : State :=
  match q with
  | .write w => settle (judgeWrite w s)
  | .read r => settle (judgeRead r s)

/-- The U-port takes the requests that waited, oldest first, until one holds it. -/
def takeWaiting : List UportRequest → State → State
  | [], s => { s with uport := { s.uport with waiting := [] } }
  | q :: qs, s =>
    match s.uport.inProgress with
    | some _ => { s with uport := { s.uport with waiting := q :: qs } }
    | none => takeWaiting qs (takeRequest q s)

/-- After an event that may have freed the U-port, it takes its next requests (R45, R83). -/
def portFreed (s : State) : State :=
  match s.uport.inProgress with
  | some _ => s
  | none => takeWaiting s.uport.waiting s

/-- A request presented to the U-port: taken when the port is free, else left waiting on the bus (R45). -/
def presentRequest (q : UportRequest) (s : State) : State :=
  match s.uport.inProgress with
  | some _ => { s with uport := { s.uport with waiting := s.uport.waiting ++ [q] } }
  | none => takeRequest q s

/-! ## A response or a timeout at the D-port (R136, R137) -/

/-- A D-port response: ignored unless it answers the outstanding request (R130, R136). -/
def takeResponse (issue : Byte) (resp : MemResponse) (s : State) : State :=
  match s.answers issue with
  | none => s
  | some o => portFreed (handReply o (replyOf o.request resp) s)

/-- The response timer expires: the outstanding request is handed FAIL (R137). With no request outstanding the timer
is stopped and does not expire (log 9). -/
def responseTimeout (s : State) : State :=
  if s.device = .stopped then s
  else match s.dport.outstanding with
    | none => s
    | some o => portFreed (handReply o .fail s)

/-- A write to the window word at an offset, as one aligned 4-byte write (R58). -/
def wordWriteAt (off : Nat) (w : WordWrite) (s : State) : State :=
  presentRequest (.write ⟨w.requester, s.windowAddr off, wordBytes w⟩) s

end Sys2Proof.Machine
end

