-- ==== Sys2Proof/Machine/StartupRows.lean ====
section
/-! DEFINITION. Reset and the start-up rows of the opcode table. -/

namespace Sys2Proof.Machine

/-- The outcome of a command: every command has a next state (INVENTORY.md, Faults). -/
abbrev Result := Host.Outcome State Fault Refusal

/-! The D-port rows deliver one response with its issue number. Which client it goes to, and so which of the effects below
it has, the part tells by the outstanding request alone (R135, R136; log 1): each row's docstring names the effect it
has when that row is the event that happens (`Instr.occurs`, Safety.lean). -/

/-- RESET (R155): every block takes its reset value, the outstanding request is abandoned, the straps are sampled, and
START is entered; LOAD at once when MEM_READY is asserted as the reset ends (R156). Requests on the bus are left to
their requesters (log 3). -/
def afterReset (cwb : BitVec 16) (s : State) : State :=
  { State.reset with pending := s.pending, cwb := cwb, freeDraws := s.freeDraws }

/-- RESET: see `afterReset`. -/
def execReset (cwb : BitVec 16) (memReady : Bool) (s : State) : Result :=
  if memReady then .next (settle (enterLoad (afterReset cwb s))) else .next (afterReset cwb s)

/-- MEM_READY_FOUND_ASSERTED (R156): START becomes LOAD and the configuration read is presented. In every other device
state the level is ignored (R138). -/
def execMemReadyFoundAsserted (s : State) : Result :=
  if s.device = .start then .next (settle (enterLoad s)) else .next s

/-- CONFIGURATION_READ_RESPONSE (R157): `configurationAnswered`. -/
def execConfigurationReadResponse (issue : Byte) (resp : MemResponse) (s : State) : Result :=
  .next (takeResponse issue resp s)

/-- REGION_LINE_READ_RESPONSE (R158): `regionLineAnswered`. -/
def execRegionLineReadResponse (issue : Byte) (resp : MemResponse) (s : State) : Result :=
  .next (takeResponse issue resp s)

/-- DESCRIPTOR_READ_RESPONSE (R159): `descriptorAnswered`. -/
def execDescriptorReadResponse (issue : Byte) (resp : MemResponse) (s : State) : Result :=
  .next (takeResponse issue resp s)

/-- SCAN_READ_RESPONSE (R160 to R165): `scanAnswered`. -/
def execScanReadResponse (issue : Byte) (resp : MemResponse) (s : State) : Result :=
  .next (takeResponse issue resp s)

/-- PLAYBACK_HEADER_READ_RESPONSE (R166): `playHeaderAnswered`. -/
def execPlaybackHeaderReadResponse (issue : Byte) (resp : MemResponse) (s : State) : Result :=
  .next (takeResponse issue resp s)

/-- PLAYBACK_DATA_READ_RESPONSE (R166): `playDataAnswered`. -/
def execPlaybackDataReadResponse (issue : Byte) (resp : MemResponse) (s : State) : Result :=
  .next (takeResponse issue resp s)

/-- PLAYBACK_RESTORE_WRITE_DURABLE (R166, R168): `playWriteAnswered`. -/
def execPlaybackRestoreWriteDurable (issue : Byte) (resp : MemResponse) (s : State) : Result :=
  .next (takeResponse issue resp s)

/-- RECOVERY_MARKER_DURABLE (R167, R168): `markerAnswered`. -/
def execRecoveryMarkerDurable (issue : Byte) (resp : MemResponse) (s : State) : Result :=
  .next (takeResponse issue resp s)

end Sys2Proof.Machine
end

