-- ==== Sys2Proof/Machine/CommandRows.lean ====
section
/-! DEFINITION. The rows that write a command word. -/

namespace Sys2Proof.Machine

/-! Word 2 carries argument B only: the command it takes is the one the slot has staged (R104, log 1), and when the slot
is EXECUTING it is answered BUSY whatever was staged (R106). Each closing row's docstring names the effect it has when
the staged opcode is its own (`Instr.occurs`, Safety.lean). -/

/-- COMMAND_WORD_0_WRITE (R102): stages opcode and tag. -/
def execCommandWord0Write (slot : Requester) (w : WordWrite) (s : State) : Result :=
  .next (wordWriteAt (commandOffset slot 0) w s)

/-- COMMAND_WORD_1_WRITE (R103): stages argument A. -/
def execCommandWord1Write (slot : Requester) (w : WordWrite) (s : State) : Result :=
  .next (wordWriteAt (commandOffset slot 1) w s)

/-- The word of the slot that is written out of order. -/
def outOfOrderIndex : OutOfOrderWord → Fin 3
  | .word1 => 1
  | .word2 => 2

/-- SEQUENCE_ERROR (R105): `sequenceErrorMade`. -/
def execSequenceError (slot : Requester) (which : OutOfOrderWord) (w : WordWrite) (s : State) : Result :=
  .next (wordWriteAt (commandOffset slot (outOfOrderIndex which)) w s)

/-- OPEN (R108): `State.openVerdict`, `openTaken`. -/
def execOpenCommand (slot : Requester) (w : WordWrite) (s : State) : Result :=
  .next (wordWriteAt (commandOffset slot 2) w s)

/-- COMMIT (R109): `State.endVerdict`, `commitTaken`. -/
def execCommitCommand (slot : Requester) (w : WordWrite) (s : State) : Result :=
  .next (wordWriteAt (commandOffset slot 2) w s)

/-- ABORT (R109): `State.endVerdict`, `abortTaken`. -/
def execAbortCommand (slot : Requester) (w : WordWrite) (s : State) : Result :=
  .next (wordWriteAt (commandOffset slot 2) w s)

/-- DRAIN (R110): always taken, no effect at its taking. -/
def execDrainCommand (slot : Requester) (w : WordWrite) (s : State) : Result :=
  .next (wordWriteAt (commandOffset slot 2) w s)

/-- REPORT (R111): always taken, no effect at its taking. -/
def execReportCommand (slot : Requester) (w : WordWrite) (s : State) : Result :=
  .next (wordWriteAt (commandOffset slot 2) w s)

/-- CLEAR_COUNTERS (R112): always taken; the counters are zeroed at its landing (`closingWordLands`). -/
def execClearCountersCommand (slot : Requester) (w : WordWrite) (s : State) : Result :=
  .next (wordWriteAt (commandOffset slot 2) w s)

/-- REINIT (R113): `State.reinitVerdict`, `reinitTaken`. -/
def execReinitCommand (slot : Requester) (w : WordWrite) (s : State) : Result :=
  .next (wordWriteAt (commandOffset slot 2) w s)

/-- UNKNOWN_OPCODE (R114): refused OPCODE. -/
def execUnknownOpcode (slot : Requester) (w : WordWrite) (s : State) : Result :=
  .next (wordWriteAt (commandOffset slot 2) w s)

end Sys2Proof.Machine
end

