-- ==== Sys2Proof/Machine/EntryRows.lean ====
section
/-! DEFINITION. The rows that answer a posted entry's steps. -/

namespace Sys2Proof.Machine

/-- OLD_READ_RESPONSE (R69, R126): `oldReadAnswered`. -/
def execOldReadResponse (issue : Byte) (resp : MemResponse) (s : State) : Result :=
  .next (takeResponse issue resp s)

/-- RECORD_DATA_DURABLE (R71, R79): `recordDataAnswered`. -/
def execRecordDataDurable (issue : Byte) (resp : MemResponse) (s : State) : Result :=
  .next (takeResponse issue resp s)

/-- RECORD_HEADER_DURABLE (R36, R71, R79): `recordHeaderAnswered`. -/
def execRecordHeaderDurable (issue : Byte) (resp : MemResponse) (s : State) : Result :=
  .next (takeResponse issue resp s)

/-- LANDING (R65): the memory answers DONE to a DATA_WRITE: `landHead`. -/
def execLanding (issue : Byte) (s : State) : Result := .next (takeResponse issue .done s)

/-- UNBACKED_WRITE (R80): the memory answers UNBACKED to a DATA_WRITE; the entry lands and ERROR is raised. -/
def execUnbackedWrite (issue : Byte) (s : State) : Result := .next (takeResponse issue .unbacked s)

/-- DATA_WRITE_FAILED (R79): FAIL, or a DATA response taken as FAIL (R135), to a DATA_WRITE stops the device. -/
def execDataWriteFailed (issue : Byte) (resp : MemResponse) (s : State) : Result :=
  .next (takeResponse issue resp s)

end Sys2Proof.Machine
end

