-- ==== Sys2Proof/Machine/JobRows.lean ====
section
/-! DEFINITION. The rows that answer a job's steps. -/

namespace Sys2Proof.Machine

/-- OPEN_RECORD_DURABLE (R25, R68): `openRecordDone`. -/
def execOpenRecordDurable (issue : Byte) (resp : MemResponse) (s : State) : Result :=
  .next (takeResponse issue resp s)

/-- COMMIT_MARKER_DURABLE (R28): `commitMarkerDone`. -/
def execCommitMarkerDurable (issue : Byte) (resp : MemResponse) (s : State) : Result :=
  .next (takeResponse issue resp s)

/-- RESTORE_HEADER_READ_RESPONSE (R39): `restoreHeaderAnswered`. -/
def execRestoreHeaderReadResponse (issue : Byte) (resp : MemResponse) (s : State) : Result :=
  .next (takeResponse issue resp s)

/-- RESTORE_DATA_READ_RESPONSE (R40): `restoreDataAnswered`. -/
def execRestoreDataReadResponse (issue : Byte) (resp : MemResponse) (s : State) : Result :=
  .next (takeResponse issue resp s)

/-- RESTORE_WRITE_DURABLE (R41): `restoreWriteAnswered`. -/
def execRestoreWriteDurable (issue : Byte) (resp : MemResponse) (s : State) : Result :=
  .next (takeResponse issue resp s)

/-- ABORTED_MARKER_DURABLE (R30): `abortedMarkerDone`. -/
def execAbortedMarkerDurable (issue : Byte) (resp : MemResponse) (s : State) : Result :=
  .next (takeResponse issue resp s)

/-- DESCRIPTOR_INVALIDATE_DURABLE (R19): format slot 0 is next. -/
def execDescriptorInvalidateDurable (issue : Byte) (resp : MemResponse) (s : State) : Result :=
  .next (takeResponse issue resp s)

/-- FORMAT_LINE_DURABLE (R19): `formatLineDone`. -/
def execFormatLineDurable (issue : Byte) (resp : MemResponse) (s : State) : Result :=
  .next (takeResponse issue resp s)

/-- DESCRIPTOR_WRITE_DURABLE (R20): `descriptorWriteDone`. -/
def execDescriptorWriteDurable (issue : Byte) (resp : MemResponse) (s : State) : Result :=
  .next (takeResponse issue resp s)

/-- RESULT_RECORD_DURABLE (R117): `resultRecordDone`. -/
def execResultRecordDurable (issue : Byte) (resp : MemResponse) (s : State) : Result :=
  .next (takeResponse issue resp s)

/-- STATUS_FIRST_LINE_DURABLE (R175): `statusFirstAnswered`. -/
def execStatusFirstLineDurable (issue : Byte) (resp : MemResponse) (s : State) : Result :=
  .next (takeResponse issue resp s)

/-- STATUS_RECORD_DURABLE (R174): `statusRecordDone`. -/
def execStatusRecordDurable (issue : Byte) (resp : MemResponse) (s : State) : Result :=
  .next (takeResponse issue resp s)

end Sys2Proof.Machine
end

