-- ==== Sys2Proof/Machine/PatrolRows.lean ====
section
/-! DEFINITION. The rows of the Patrol Unit. -/

namespace Sys2Proof.Machine

/-- PATROL_INTERVAL_EXPIRY (R149): in WAIT the step begins, and the unit waits for the D-port. -/
def execPatrolIntervalExpiry (s : State) : Result := .next (settle (patrolExpires s))

/-- PATROL_READ_RESPONSE (R149): `patrolReadAnswered`. -/
def execPatrolReadResponse (issue : Byte) (resp : MemResponse) (s : State) : Result :=
  .next (takeResponse issue resp s)

/-- PATROL_RENEW_RESPONSE (R150): `patrolRenewAnswered`. -/
def execPatrolRenewResponse (issue : Byte) (resp : MemResponse) (s : State) : Result :=
  .next (takeResponse issue resp s)

end Sys2Proof.Machine
end

