-- ==== Sys2Proof/Machine/PortRows.lean ====
section
/-! DEFINITION. The rows of the two bus ports: U-port requests, reads, timers. -/

namespace Sys2Proof.Machine

/-- WRITE_REQUEST (R56): a U-port WRITE, judged in the order of Table 3-5. -/
def execWriteRequest (w : WriteRequest) (s : State) : Result := .next (presentRequest (.write w) s)

/-- READ_REQUEST (R62, R82): a U-port READ, checked and classified. -/
def execReadRequest (r : ReadRequest) (s : State) : Result := .next (presentRequest (.read r) s)

/-- STRAIGHT_READ_RESPONSE (R83): `straightAnswered`. -/
def execStraightReadResponse (issue : Byte) (resp : MemResponse) (s : State) : Result :=
  .next (takeResponse issue resp s)

/-- DEFERRED_FETCH_RESPONSE (R90): `deferredAnswered`. -/
def execDeferredFetchResponse (issue : Byte) (resp : MemResponse) (s : State) : Result :=
  .next (takeResponse issue resp s)

/-- DISCARD_TIMER_EXPIRY (R94): the READY entry of the named read is freed and DISCARDS rises. -/
def execDiscardTimerExpiry (entry : ReadRequest) (s : State) : Result := .next (discardExpires entry s)

/-- RESPONSE_TIMER_EXPIRY (R137): the outstanding request is handed to its client as FAIL. -/
def execResponseTimerExpiry (s : State) : Result := .next (responseTimeout s)

/-- IGNORED_RESPONSE (R136, R130): a response with the wrong issue number, with nothing outstanding, or in STOPPED,
changes nothing. -/
def execIgnoredResponse (issue : Byte) (resp : MemResponse) (s : State) : Result :=
  .next (takeResponse issue resp s)

end Sys2Proof.Machine
end

