-- ==== Sys2Proof/Machine/WindowRows.lean ====
section
/-! DEFINITION. The rows that write a window word other than a command word. -/

namespace Sys2Proof.Machine

/-- WINDOW_WRITE (R58): a write to a window offset, judged by the window rules. -/
def execWindowWrite (requester : Requester) (offset : BitVec 12) (bytes : List BusByte) (s : State) : Result :=
  .next (presentRequest (.write ⟨requester, s.windowAddr offset.toNat, bytes⟩) s)

/-- STAGED_BASE_WRITE (R99): the staged ring base for the next REINIT. -/
def execStagedBaseWrite (w : WordWrite) (s : State) : Result :=
  .next (wordWriteAt (ConfigWord.offset .stagedBase) w s)

/-- STAGED_SLOT_COUNT_WRITE (R99): the staged S for the next REINIT. -/
def execStagedSlotCountWrite (w : WordWrite) (s : State) : Result :=
  .next (wordWriteAt (ConfigWord.offset .stagedSlots) w s)

/-- PARITY_CHECK_WRITE (R99, R118): judged under the old setting, in force for every later write. -/
def execParityCheckWrite (w : WordWrite) (s : State) : Result :=
  .next (wordWriteAt (ConfigWord.offset .parityCheck) w s)

/-- DISCARD_INTERVAL_WRITE (R99): the interval of discard timers started afterwards. -/
def execDiscardIntervalWrite (w : WordWrite) (s : State) : Result :=
  .next (wordWriteAt (ConfigWord.offset .discardInterval) w s)

/-- PATROL_INTERVAL_WRITE (R148, R151): the interval, and the interval timer. -/
def execPatrolIntervalWrite (w : WordWrite) (s : State) : Result :=
  .next (wordWriteAt (ConfigWord.offset .patrolInterval) w s)

/-- LOW_MARK_WRITE (R99, R16): the mark, with the LOW test on the old and the new mark. -/
def execLowMarkWrite (w : WordWrite) (s : State) : Result :=
  .next (wordWriteAt (ConfigWord.offset .lowMark) w s)

/-- INTERRUPT_MASK_WRITE (R172): the mask in force. -/
def execInterruptMaskWrite (w : WordWrite) (s : State) : Result :=
  .next (wordWriteAt (ConfigWord.offset .interruptMask) w s)

/-- ACKNOWLEDGE_WRITE (R100): every pending cause whose mark is written 1 is cleared. -/
def execAcknowledgeWrite (w : WordWrite) (s : State) : Result := .next (wordWriteAt acknowledgeOffset w s)

/-- REGION_WORD_A_WRITE (R52): the entry's staged base. -/
def execRegionWordAWrite (entry : Fin 16) (w : WordWrite) (s : State) : Result :=
  .next (wordWriteAt (wordAOffset entry) w s)

/-- REGION_WORD_B_WRITE (R53, R55): the entry's base, limit and mode, installed at once. -/
def execRegionWordBWrite (entry : Fin 16) (w : WordWrite) (s : State) : Result :=
  .next (wordWriteAt (wordBOffset entry) w s)

end Sys2Proof.Machine
end

