-- ==== Sys2Proof/Machine/Dispatch.lean ====
section
/-! DEFINITION. One arm per command: the direct call of its meaning. -/

namespace Sys2Proof.Machine

def exec (i : Instr) (s : State) : Host.Outcome State Fault Refusal :=
  match i with
  | .reset cwb memReady => Sys2Proof.Machine.execReset cwb memReady s
  | .memReadyFoundAsserted => Sys2Proof.Machine.execMemReadyFoundAsserted s
  | .configurationReadResponse issue resp => Sys2Proof.Machine.execConfigurationReadResponse issue resp s
  | .regionLineReadResponse issue resp => Sys2Proof.Machine.execRegionLineReadResponse issue resp s
  | .descriptorReadResponse issue resp => Sys2Proof.Machine.execDescriptorReadResponse issue resp s
  | .scanReadResponse issue resp => Sys2Proof.Machine.execScanReadResponse issue resp s
  | .playbackHeaderReadResponse issue resp => Sys2Proof.Machine.execPlaybackHeaderReadResponse issue resp s
  | .playbackDataReadResponse issue resp => Sys2Proof.Machine.execPlaybackDataReadResponse issue resp s
  | .playbackRestoreWriteDurable issue resp => Sys2Proof.Machine.execPlaybackRestoreWriteDurable issue resp s
  | .recoveryMarkerDurable issue resp => Sys2Proof.Machine.execRecoveryMarkerDurable issue resp s
  | .writeRequest w => Sys2Proof.Machine.execWriteRequest w s
  | .readRequest r => Sys2Proof.Machine.execReadRequest r s
  | .windowWrite requester offset bytes => Sys2Proof.Machine.execWindowWrite requester offset bytes s
  | .stagedBaseWrite w => Sys2Proof.Machine.execStagedBaseWrite w s
  | .stagedSlotCountWrite w => Sys2Proof.Machine.execStagedSlotCountWrite w s
  | .parityCheckWrite w => Sys2Proof.Machine.execParityCheckWrite w s
  | .discardIntervalWrite w => Sys2Proof.Machine.execDiscardIntervalWrite w s
  | .patrolIntervalWrite w => Sys2Proof.Machine.execPatrolIntervalWrite w s
  | .lowMarkWrite w => Sys2Proof.Machine.execLowMarkWrite w s
  | .interruptMaskWrite w => Sys2Proof.Machine.execInterruptMaskWrite w s
  | .acknowledgeWrite w => Sys2Proof.Machine.execAcknowledgeWrite w s
  | .regionWordAWrite entry w => Sys2Proof.Machine.execRegionWordAWrite entry w s
  | .regionWordBWrite entry w => Sys2Proof.Machine.execRegionWordBWrite entry w s
  | .commandWord0Write slot w => Sys2Proof.Machine.execCommandWord0Write slot w s
  | .commandWord1Write slot w => Sys2Proof.Machine.execCommandWord1Write slot w s
  | .sequenceError slot which w => Sys2Proof.Machine.execSequenceError slot which w s
  | .openCommand slot w => Sys2Proof.Machine.execOpenCommand slot w s
  | .commitCommand slot w => Sys2Proof.Machine.execCommitCommand slot w s
  | .abortCommand slot w => Sys2Proof.Machine.execAbortCommand slot w s
  | .drainCommand slot w => Sys2Proof.Machine.execDrainCommand slot w s
  | .reportCommand slot w => Sys2Proof.Machine.execReportCommand slot w s
  | .clearCountersCommand slot w => Sys2Proof.Machine.execClearCountersCommand slot w s
  | .reinitCommand slot w => Sys2Proof.Machine.execReinitCommand slot w s
  | .unknownOpcode slot w => Sys2Proof.Machine.execUnknownOpcode slot w s
  | .straightReadResponse issue resp => Sys2Proof.Machine.execStraightReadResponse issue resp s
  | .deferredFetchResponse issue resp => Sys2Proof.Machine.execDeferredFetchResponse issue resp s
  | .discardTimerExpiry entry => Sys2Proof.Machine.execDiscardTimerExpiry entry s
  | .oldReadResponse issue resp => Sys2Proof.Machine.execOldReadResponse issue resp s
  | .recordDataDurable issue resp => Sys2Proof.Machine.execRecordDataDurable issue resp s
  | .recordHeaderDurable issue resp => Sys2Proof.Machine.execRecordHeaderDurable issue resp s
  | .landing issue => Sys2Proof.Machine.execLanding issue s
  | .unbackedWrite issue => Sys2Proof.Machine.execUnbackedWrite issue s
  | .openRecordDurable issue resp => Sys2Proof.Machine.execOpenRecordDurable issue resp s
  | .commitMarkerDurable issue resp => Sys2Proof.Machine.execCommitMarkerDurable issue resp s
  | .restoreHeaderReadResponse issue resp => Sys2Proof.Machine.execRestoreHeaderReadResponse issue resp s
  | .restoreDataReadResponse issue resp => Sys2Proof.Machine.execRestoreDataReadResponse issue resp s
  | .restoreWriteDurable issue resp => Sys2Proof.Machine.execRestoreWriteDurable issue resp s
  | .abortedMarkerDurable issue resp => Sys2Proof.Machine.execAbortedMarkerDurable issue resp s
  | .descriptorInvalidateDurable issue resp => Sys2Proof.Machine.execDescriptorInvalidateDurable issue resp s
  | .formatLineDurable issue resp => Sys2Proof.Machine.execFormatLineDurable issue resp s
  | .descriptorWriteDurable issue resp => Sys2Proof.Machine.execDescriptorWriteDurable issue resp s
  | .resultRecordDurable issue resp => Sys2Proof.Machine.execResultRecordDurable issue resp s
  | .statusFirstLineDurable issue resp => Sys2Proof.Machine.execStatusFirstLineDurable issue resp s
  | .statusRecordDurable issue resp => Sys2Proof.Machine.execStatusRecordDurable issue resp s
  | .patrolIntervalExpiry => Sys2Proof.Machine.execPatrolIntervalExpiry s
  | .patrolReadResponse issue resp => Sys2Proof.Machine.execPatrolReadResponse issue resp s
  | .patrolRenewResponse issue resp => Sys2Proof.Machine.execPatrolRenewResponse issue resp s
  | .responseTimerExpiry => Sys2Proof.Machine.execResponseTimerExpiry s
  | .ignoredResponse issue resp => Sys2Proof.Machine.execIgnoredResponse issue resp s
  | .dataWriteFailed issue resp => Sys2Proof.Machine.execDataWriteFailed issue resp s

end Sys2Proof.Machine
end

