-- ==== Sys2Proof/Machine/Storage.lean ====
section
/-! DEFINITION. How the memory behind the D-port stores a WRITE and reports a READ, as R122 and R124 give it. The memory is
outside the part: nothing here is part of a step; statements about poison use it. -/

namespace Sys2Proof.Machine

/-- One word as memory holds it. -/
structure StoredWord where
  value : Word
  poisoned : Bool
  deriving DecidableEq, Repr

/-- The bits of the enabled bytes of a word. -/
def enabledBits (m : BitVec 4) : Word :=
  (if m.getLsbD 0 then 0x000000FF#32 else 0) ||| (if m.getLsbD 1 then 0x0000FF00#32 else 0) |||
    (if m.getLsbD 2 then 0x00FF0000#32 else 0) ||| (if m.getLsbD 3 then 0xFF000000#32 else 0)

/-- Store one word by its byte enables and its poison mark (R122). -/
def storeWord (enabled : BitVec 4) (value : Word) (mark : Bool) (old : StoredWord) : StoredWord where
  value := (value &&& enabledBits enabled) ||| (old.value &&& ~~~enabledBits enabled)
  poisoned :=
    if enabled = 0 then old.poisoned
    else if mark then true
    else if enabled = 0xF#4 then false
    else old.poisoned

/-- A line as memory holds it. -/
abbrev StoredLine := Vector StoredWord 16

/-- Store a D-port WRITE into its line: every word by its own enables and mark (R122). -/
def storeLine (byteMask : ByteMask) (data : Line) (poison : WordMask) (old : StoredLine) : StoredLine :=
  Vector.ofFn fun n =>
    storeWord (byteMask.extractLsb' (4 * n.val) 4) (lineWord data n.val) (poison.getLsbD n.val) old[n]

/-- What a READ of a stored line with no fault of its own reports: a poisoned word is UNCORRECTABLE (R122, R124). -/
def storedStatuses (l : StoredLine) : Vector WordStatus 16 :=
  l.map fun w => if w.poisoned then .uncorrectable else .clean

end Sys2Proof.Machine
end

