-- ==== Sys2Proof/Safety.lean ====
section
/-! DEFINITION. Which command is the event that happens in a state, and the conditions on states that statements use. -/

namespace Sys2Proof.Machine

/-! ## The event a row names (log 1) -/

/-- A response with this issue number answers the Write Engine, in a unit that `p` describes. -/
def State.engineAt (s : State) (issue : Byte) (p : WorkUnit → Bool) : Bool :=
  match s.answers issue, s.engine.work with
  | some o, some u => o.client == .writeEngine && p u
  | some _, none => false
  | none, _ => false

/-- A response with this issue number answers the Start-up Controller, at a step that `p` describes. -/
def State.startupAt (s : State) (issue : Byte) (p : StartupStep → Bool) : Bool :=
  match s.answers issue with
  | some o => o.client == .startup && p s.startup.step
  | none => false

/-- A response with this issue number answers the Patrol Unit in the given state. -/
def State.patrolAt (s : State) (issue : Byte) (p : PatrolState) : Bool :=
  match s.answers issue with
  | some o => o.client == .patrol && s.patrol.state == p && s.patrol.stepLine.isSome
  | none => false

/-- The U-port can take a request now (R45). -/
def State.portFree (s : State) : Bool := s.uport.inProgress.isNone

/-- A closing word of slot `k` with this staged opcode: in order, or BUSY (R104, R106). -/
def State.closes (s : State) (k : Requester) (w : WordWrite) (p : BitVec 4 → Bool) : Bool :=
  s.portFree && w.requester == k &&
    (s.slots[k].phase == .executing ||
      (s.slots[k].staging == .word1 && p s.slots[k].stagedWord.opcode))

/-- Is the command the event its row names, in this state? -/
def occurs (c : Instr) (s : State) : Bool :=
  match c with
  | .reset _ _ => true
  | .memReadyFoundAsserted => s.device == .start
  | .configurationReadResponse issue _ => s.startupAt issue (· == .readConfiguration)
  | .regionLineReadResponse issue _ => s.startupAt issue fun u => u == .readRegions false || u == .readRegions true
  | .descriptorReadResponse issue _ => s.startupAt issue (· == .readDescriptor)
  | .scanReadResponse issue _ => s.startupAt issue (· == .readSlot)
  | .playbackHeaderReadResponse issue _ => s.startupAt issue (· == .playHeader)
  | .playbackDataReadResponse issue _ => s.startupAt issue fun u => match u with
    | .playData _ => true
    | _ => false
  | .playbackRestoreWriteDurable issue _ => s.startupAt issue fun u => match u with
    | .playWrite .. => true
    | _ => false
  | .recoveryMarkerDurable issue _ => s.startupAt issue fun u => match u with
    | .marker _ => true
    | _ => false
  | .writeRequest w => s.portFree && !s.inWindow (lineOf w.address)
  | .readRequest _ => s.portFree
  | .windowWrite _ offset bytes => s.portFree &&
      (bytes.length != 4 || offset.toNat % 4 != 0 || windowWord offset.toNat == .deviceOwned ||
        windowWord offset.toNat == .unlisted)
  | .stagedBaseWrite _ => s.portFree
  | .stagedSlotCountWrite _ => s.portFree
  | .parityCheckWrite _ => s.portFree
  | .discardIntervalWrite _ => s.portFree
  | .patrolIntervalWrite _ => s.portFree
  | .lowMarkWrite _ => s.portFree
  | .interruptMaskWrite _ => s.portFree
  | .acknowledgeWrite _ => s.portFree
  | .regionWordAWrite _ _ => s.portFree
  | .regionWordBWrite _ _ => s.portFree
  | .commandWord0Write _ _ => s.portFree
  | .commandWord1Write slot _ => s.portFree &&
      (s.slots[slot].staging == .word0 || s.slots[slot].phase == .executing)
  | .sequenceError slot which w => s.portFree && w.requester == slot && s.slots[slot].phase == .idle &&
      (match which with
       | .word1 => s.slots[slot].staging != .word0
       | .word2 => s.slots[slot].staging != .word1)
  | .openCommand slot w => s.closes slot w (· == 1)
  | .commitCommand slot w => s.closes slot w (· == 2)
  | .abortCommand slot w => s.closes slot w (· == 3)
  | .drainCommand slot w => s.closes slot w (· == 4)
  | .reportCommand slot w => s.closes slot w (· == 5)
  | .clearCountersCommand slot w => s.closes slot w (· == 6)
  | .reinitCommand slot w => s.closes slot w (· == 7)
  | .unknownOpcode slot w => s.closes slot w fun o => o == 0 || 8 ≤ o.toNat
  | .straightReadResponse issue _ => (match s.answers issue with
    | some o => o.client == .straightRead
    | none => false) && s.uport.inProgress.isSome
  | .deferredFetchResponse issue _ => match s.answers issue with
    | some o => (match o.client with
      | .deferredRead key => (s.findRead key).isSome
      | _ => false)
    | none => false
  | .discardTimerExpiry entry => s.device != .stopped && (match s.findRead entry with
    | some d => d.state == .ready && d.timer.isSome
    | none => false)
  | .oldReadResponse issue _ => s.engineAt issue (· == .entry .oldRead)
  | .recordDataDurable issue _ => s.engineAt issue fun u => match u with
    | .entry (.recordData (some _)) => true
    | _ => false
  | .recordHeaderDurable issue _ => s.engineAt issue fun u => match u with
    | .entry (.recordHeader _) => true
    | _ => false
  | .landing issue => s.engineAt issue (· == .entry .dataWrite)
  | .unbackedWrite issue => s.engineAt issue (· == .entry .dataWrite)
  | .dataWriteFailed issue _ => s.engineAt issue (· == .entry .dataWrite)
  | .openRecordDurable issue _ => s.engineAt issue (· == .write .openRecord)
  | .commitMarkerDurable issue _ => s.engineAt issue (· == .write .commitMarker)
  | .restoreHeaderReadResponse issue _ => s.engineAt issue fun u => match u with
    | .restore _ _ .header => true
    | _ => false
  | .restoreDataReadResponse issue _ => s.engineAt issue fun u => match u with
    | .restore _ _ (.data _) => true
    | _ => false
  | .restoreWriteDurable issue _ => s.engineAt issue fun u => match u with
    | .restore _ _ (.write ..) => true
    | _ => false
  | .abortedMarkerDurable issue _ => s.engineAt issue (· == .write .abortedMarker)
  | .descriptorInvalidateDurable issue _ => s.engineAt issue (· == .write .descriptorInvalidate)
  | .formatLineDurable issue _ => s.engineAt issue fun u => match u with
    | .write (.formatSlot _) => true
    | _ => false
  | .descriptorWriteDurable issue _ => s.engineAt issue (· == .write .descriptorWrite)
  | .resultRecordDurable issue _ => s.engineAt issue (· == .write .result)
  | .statusFirstLineDurable issue _ => s.engineAt issue fun u => match u with
    | .statusFirst _ => true
    | _ => false
  | .statusRecordDurable issue _ => s.engineAt issue fun u => match u with
    | .statusSecond _ => true
    | _ => false
  | .patrolIntervalExpiry => s.device == .run && s.patrol.state == .wait && s.patrol.timer.isSome &&
      s.patrol.cursor.isSome
  | .patrolReadResponse issue _ => s.patrolAt issue .read
  | .patrolRenewResponse issue _ => s.patrolAt issue .renew
  | .responseTimerExpiry => s.device != .stopped && s.dport.outstanding.isSome
  | .ignoredResponse issue _ => (s.answers issue).isNone

/-! ## Conditions on states and responses -/

/-- The device is not STOPPED and the outstanding request is `client`'s request `q` with this issue number: a response
with the number answers it (R130, R136). -/
abbrev State.carries (s : State) (issue : Byte) (client : Client) (q : DportRequest) : Prop :=
  s.device ≠ .stopped ∧ s.dport.outstanding = some ⟨client, q, issue⟩

/-- Is the request a READ? -/
def DportRequest.isRead : DportRequest → Bool
  | .read _ => true
  | .write .. => false
  | .renew _ => false

/-- Is the request a WRITE? -/
def DportRequest.isWrite : DportRequest → Bool
  | .read _ => false
  | .write .. => true
  | .renew _ => false

/-- Is the request a RENEW? -/
def DportRequest.isRenew : DportRequest → Bool
  | .read _ => false
  | .write .. => false
  | .renew _ => true

end Sys2Proof.Machine

namespace Sys2Proof

/-- A response to a READ that is a failure of it: FAIL, UNBACKED, DONE taken as FAIL (R135), or DATA with a status that
names none (R186). -/
def MemResponse.failsRead : MemResponse → Bool
  | .data _ st => !Machine.statusesNamed st
  | .done => true
  | .fail => true
  | .unbacked => true

/-- A response to a WRITE or RENEW that is a failure of it: FAIL, UNBACKED, or DATA taken as FAIL (R129, R135). -/
def MemResponse.failsWrite : MemResponse → Bool
  | .data _ _ => true
  | .done => false
  | .fail => true
  | .unbacked => true

/-- The window offset and the word that a row writes, for the rows that write one word whose place the row fixes
(R182, Table 12-4). -/
def Instr.wordAt : Instr → Option (Nat × WordWrite)
  | .stagedBaseWrite w => some (0x00, w)
  | .stagedSlotCountWrite w => some (0x04, w)
  | .parityCheckWrite w => some (0x08, w)
  | .discardIntervalWrite w => some (0x0C, w)
  | .patrolIntervalWrite w => some (0x10, w)
  | .lowMarkWrite w => some (0x14, w)
  | .interruptMaskWrite w => some (0x18, w)
  | .acknowledgeWrite w => some (0x80, w)
  | .regionWordAWrite j w => some (0x100 + 8 * j.val, w)
  | .regionWordBWrite j w => some (0x104 + 8 * j.val, w)
  | .commandWord0Write k w => some (0x200 + 16 * k.val, w)
  | .commandWord1Write k w => some (0x204 + 16 * k.val, w)
  | .sequenceError k .word1 w => some (0x204 + 16 * k.val, w)
  | .sequenceError k .word2 w => some (0x208 + 16 * k.val, w)
  | .openCommand k w | .commitCommand k w | .abortCommand k w | .drainCommand k w | .reportCommand k w
  | .clearCountersCommand k w | .reinitCommand k w | .unknownOpcode k w => some (0x208 + 16 * k.val, w)
  | .reset .. | .memReadyFoundAsserted | .configurationReadResponse .. | .regionLineReadResponse ..
  | .descriptorReadResponse .. | .scanReadResponse .. | .playbackHeaderReadResponse ..
  | .playbackDataReadResponse .. | .playbackRestoreWriteDurable .. | .recoveryMarkerDurable ..
  | .writeRequest .. | .readRequest .. | .windowWrite .. | .straightReadResponse .. | .deferredFetchResponse ..
  | .discardTimerExpiry .. | .oldReadResponse .. | .recordDataDurable .. | .recordHeaderDurable .. | .landing ..
  | .unbackedWrite .. | .openRecordDurable .. | .commitMarkerDurable .. | .restoreHeaderReadResponse ..
  | .restoreDataReadResponse .. | .restoreWriteDurable .. | .abortedMarkerDurable ..
  | .descriptorInvalidateDurable .. | .formatLineDurable .. | .descriptorWriteDurable .. | .resultRecordDurable ..
  | .statusFirstLineDurable .. | .statusRecordDurable .. | .patrolIntervalExpiry | .patrolReadResponse ..
  | .patrolRenewResponse .. | .responseTimerExpiry | .ignoredResponse .. | .dataWriteFailed .. => none

/-- The U-port request a row presents, for the rows that are U-port requests (R44, R58). -/
def Instr.request (c : Instr) (s : Machine.State) : Option Machine.UportRequest :=
  match c with
  | .writeRequest w => some (.write w)
  | .readRequest r => some (.read r)
  | .windowWrite k off bytes => some (.write ⟨k, s.windowAddr off.toNat, bytes⟩)
  | c => c.wordAt.map fun p => .write ⟨p.2.requester, s.windowAddr p.1, Machine.wordBytes p.2⟩

end Sys2Proof

namespace Sys2Proof.Machine

/-- Who sent a request, and so who is answered (R44, R45). -/
def UportRequest.requester : UportRequest → Requester
  | .write w => w.requester
  | .read r => r.requester

/-- A request as the command that presents it. -/
def UportRequest.command : UportRequest → Instr
  | .write w => .writeRequest w
  | .read r => .readRequest r

/-- The U-port takes these requests one after another from `s` to `t`, each while it is free, each with all that follows
its event (R45). -/
def takesInOrder : List UportRequest → State → State → Prop
  | [], s, t => t = s
  | q :: qs, s, t => s.uport.inProgress = none ∧ ∃ u, exec q.command s = .next u ∧ takesInOrder qs u t

/-- What ends every event at the D-port: the Write Engine chooses, the Arbiter grants, and a U-port that the event freed
takes the requests that waited (R45, R78, R136). -/
def afterEvent (s : State) : State := portFreed (settle s)

/-- Nothing before the checks of the word itself refuses a 4-byte write to a host-written word (R56, R58): the device is
in RUN, the U-port is free, and the four bytes have good parity while checking is enabled. -/
abbrev State.judgesWord (s : State) (w : WordWrite) : Prop :=
  s.device = .run ∧ s.uport.inProgress = none ∧
    (s.settings.parityCheck = true → (wordBytes w).any badParity = false)

/-- The same, and a queue place is free (R57). -/
abbrev State.takesWord (s : State) (w : WordWrite) : Prop :=
  s.judgesWord w ∧ s.queue.entries.length < 16

/-- The posted entry of a 4-byte write to the window word at an offset (R61, Table 4-1). -/
def State.windowEntry (s : State) (off : Nat) (w : WordWrite) (close : Bool) : PostedEntry where
  number := s.queue.nextNumber
  requester := w.requester
  line := lineOf (s.windowAddr off)
  byteMask := 0xF#64 <<< (off % 64)
  data := w.value.setWidth 512 <<< (8 * (off % 64))
  poison := 0
  cls := .window
  context := none
  commandClose := close

/-- A window word accepted in state `s`, whose own effect gives `u`: its entry is posted, the deferred reads of its line
are overtaken, the answer is DONE, and the event ends (R56, R61, R92). -/
def State.wordAccepted (s : State) (off : Nat) (w : WordWrite) (close : Bool) (u : State) : State :=
  settle (giveAnswer w.requester .written (overtakeReads (lineOf (s.windowAddr off)) s.queue.nextNumber
    { u with queue := ⟨s.queue.entries ++ [s.windowEntry off w close], s.queue.nextNumber + 1⟩ }))

/-- The Patrol Unit at the entry into RUN from a state in which it is OFF (R147, R148, R169). -/
def State.patrolAtRun (s : State) : Patrol :=
  if s.settings.patrolInterval ≠ 0 ∧ (s.firstActive 0).isSome then
    { s.patrol with state := .wait, cursor := s.firstActive 0, timer := some s.settings.patrolInterval }
  else { s.patrol with state := .off, cursor := s.firstActive 0, timer := none }

/-! ## Invariants -/

/-- The sizes of the part's tables and the agreement of the D-port's state with them (R34, R63, R85, R136, R137, R140,
R142, R143). -/
structure State.Coherent (s : State) : Prop where
  /-- R63. -/
  queueFits : s.queue.entries.length ≤ 16
  /-- R34. -/
  heldFits : s.held.length ≤ 512
  heldOnce : (s.held.map (·.line)).Nodup
  /-- R85. -/
  readsFit : s.reads.length ≤ 8
  readsOnce : (s.reads.map (·.key)).Nodup
  /-- R142. -/
  patrolWaitFits : s.dport.patrolWait ≤ 16
  /-- R137: the response timer runs while a request is outstanding, and only then. -/
  timerRuns : s.dport.timer.isSome = s.dport.outstanding.isSome
  /-- R136: the outstanding request carries the issue number of the last issue. -/
  lastIssue : ∀ o, s.dport.outstanding = some o → o.issue = s.dport.issueNumber
  /-- R143, R130: nothing is outstanding in START and in STOPPED. -/
  quiet : s.device = .start ∨ s.device = .stopped → s.dport.outstanding = none
  /-- R140: no member twice, a straight read only while the U-port holds it, a deferred member only WAITING. -/
  listOnce : s.dport.readList.Nodup
  straightHeld : ReadMember.straight ∈ s.dport.readList → s.uport.inProgress.isSome = true
  deferredWaits : ∀ key, ReadMember.deferred key ∈ s.dport.readList →
    ∃ d ∈ s.reads, d.key = key ∧ d.state = .waiting
  /-- R83, R89: the client of a read that is outstanding has left the list. -/
  straightOut : ∀ o, s.dport.outstanding = some o → o.client = .straightRead →
    s.uport.inProgress.isSome = true ∧ ReadMember.straight ∉ s.dport.readList
  deferredOut : ∀ o key, s.dport.outstanding = some o → o.client = .deferredRead key →
    ∃ d ∈ s.reads, d.key = key ∧ d.state = .issued
  /-- R78, R81: an entry that is carried stands at the head of the queue; a job whose step runs stands in the list. -/
  unitBacked : match s.engine.work with
    | none => True
    | some (.entry _) => s.queue.entries ≠ []
    | some (.write _) => s.jobs ≠ []
    | some (.restore ..) => s.jobs ≠ []
    | some (.statusFirst _) => s.jobs ≠ []
    | some (.statusSecond _) => s.jobs ≠ []

/-- Nothing is left to choose or to grant: what every event leaves (R78, R141). -/
abbrev State.Settled (s : State) : Prop := settle s = s

/-- The start-up step that each device state allows (R156 to R169). -/
def State.stepAllowed (s : State) : Prop :=
  match s.device, s.startup.step with
  | .start, .idle => True
  | .load, .readConfiguration => True
  | .load, .readRegions _ => True
  | .load, .readDescriptor => True
  | .scan, .readSlot => s.startup.nextSlot < s.slotCount
  | .playback, .playHeader => s.startup.unfinished ≠ []
  | .playback, .playData _ => s.startup.unfinished ≠ []
  | .playback, .playWrite .. => s.startup.unfinished ≠ []
  | .playback, .marker i => i < s.startup.unfinished.length
  | .run, .idle => True
  | .stopped, _ => True
  | _, _ => False

/-- What holds of the part before RUN, and of the Start-up Controller always (R10, R47, R78, R139, R148, R154). -/
structure State.StartupCoherent (s : State) : Prop where
  step : s.stepAllowed
  /-- R139: the Start-up Controller is the client of every request before RUN, and of none in RUN. -/
  client : ∀ o, s.dport.outstanding = some o → (o.client = .startup ↔ s.device ≠ .run)
  /-- R143, R130. -/
  quiet : s.device = .start ∨ s.device = .stopped → s.dport.outstanding = none
  /-- R10: RECOVERING until RUN, and never in RUN. -/
  journal : (s.device = .start ∨ s.device = .load ∨ s.device = .scan ∨ s.device = .playback →
      s.journal.state = .recovering) ∧ (s.device = .run → s.journal.state ≠ .recovering)
  /-- R45, R47, R78, R148: before RUN no request is held, nothing is queued or recorded, no unit is begun, patrol is
  OFF. -/
  empty : s.device = .start ∨ s.device = .load ∨ s.device = .scan ∨ s.device = .playback →
    s.uport.inProgress = none ∧ s.queue.entries = [] ∧ s.reads = [] ∧ s.held = [] ∧ s.engine.work = none ∧
      s.dport.readList = [] ∧ s.patrol.state = .off

/-! ### Jobs and commands in flight -/

/-- Is a command close entry of slot `k` in the queue (Table 4-1)? -/
def State.closeQueued (s : State) (k : Requester) : Prop :=
  ∃ e ∈ s.queue.entries, e.commandClose = true ∧ e.requester = k

/-- Slot `k`'s decision is a taken command of this opcode. -/
def State.takenInSlot (s : State) (k : Requester) (opcode : BitVec 4) : Prop :=
  ∃ tag, s.slots[k].decision = some ⟨⟨opcode, tag⟩, .taken⟩

/-- Slot `k`'s taken command of this opcode has work left that `step` describes: its closing word has not landed, or its
job's next step is one of these (R73, R76). -/
def State.owes (s : State) (k : Requester) (opcode : BitVec 4) (step : JobStep → Prop) : Prop :=
  (s.closeQueued k ∧ s.takenInSlot k opcode) ∨ ∃ j ∈ s.jobs, j.owner = .slot k ∧ step j.next

/-- The OPEN record, the COMMIT marker, the restores and the ABORTED marker, and the format work that a slot's command
still owes. -/
abbrev State.owesOpen (s : State) (k : Requester) : Prop := s.owes k 1 (· = .openRecord)
abbrev State.owesCommit (s : State) (k : Requester) : Prop := s.owes k 2 (· = .commitMarker)
abbrev State.owesAbort (s : State) (k : Requester) : Prop :=
  s.owes k 3 fun n => n = .restore ∨ n = .abortedMarker
abbrev State.owesFormat (s : State) (k : Requester) : Prop :=
  s.owes k 7 fun n => n = .descriptorInvalidate ∨ (∃ i, n = .formatSlot i) ∨ n = .descriptorWrite

/-- Is the job one of Table 4-3: an owner and a next step of its kind (R75, R76)? -/
def Job.fits (j : Job) : Prop :=
  (j.owner = .statusUnit ↔ j.kind = .status) ∧
  match j.kind with
  | .openEpoch => j.next = .openRecord ∨ j.next = .result
  | .commit => j.next = .commitMarker ∨ j.next = .result
  | .abort => j.next = .restore ∨ j.next = .abortedMarker ∨ j.next = .result
  | .reinit => j.next = .descriptorInvalidate ∨ (∃ i, j.next = .formatSlot i) ∨ j.next = .descriptorWrite ∨ j.next = .result
  | .report => j.next = .statusRecord ∨ j.next = .result
  | .drain => j.next = .result
  | .clearCounters => j.next = .result
  | .refused => j.next = .result
  | .status => j.next = .statusRecord

/-- The unit in progress, when it is a job step, is the next step of the oldest job (R76); an abort with no restore left
goes to its marker (R30). -/
def State.unitFits (s : State) : Prop :=
  match s.engine.work, s.jobs with
  | some (.write step), j :: _ => j.owner ≠ .statusUnit ∧ step ≠ .restore ∧ step ≠ .statusRecord ∧
      (j.next = step ∨ (step = .abortedMarker ∧ j.next = .restore))
  | some (.restore ..), j :: _ => j.owner ≠ .statusUnit ∧ j.next = .restore
  | some (.statusFirst _), j :: _ => j.next = .statusRecord
  | some (.statusSecond _), j :: _ => j.next = .statusRecord
  | some (.write _), [] => False
  | some (.restore ..), [] => False
  | some (.statusFirst _), [] => False
  | some (.statusSecond _), [] => False
  | some (.entry _), _ => True
  | none, _ => True

/-- The Job List and the commands in flight (R73, R75 to R77, R101, R104, R174). -/
structure State.JobsCoherent (s : State) : Prop where
  /-- R76. -/
  fits : ∀ j ∈ s.jobs, j.fits
  unit : s.unitFits
  /-- R75, R101: an EXECUTING slot has its close entry in the queue or one job in the list; an IDLE slot has neither. -/
  inFlight : ∀ k : Fin 4, (s.queue.entries.filter fun e => e.commandClose && e.requester == k).length +
    (s.jobs.filter fun j => j.owner == .slot k).length = if s.slots[k].phase = .executing then 1 else 0
  decided : ∀ k : Fin 4, s.slots[k].phase = .executing → s.slots[k].decision.isSome = true
  /-- R174: at most one status job, and one while the status-dirty flag is set. -/
  oneStatus : (s.jobs.filter fun j => j.owner == .statusUnit).length ≤ 1
  dirty : s.status.dirty = true → s.hasStatusJob = true
  /-- R10, R75: format work is left in FORMATTING only, and of one slot only. -/
  formats : ∀ k : Fin 4, s.owesFormat k → s.journal.state = .formatting
  formatsOnce : ∀ k l : Fin 4, s.owesFormat k → s.owesFormat l → k = l
  /-- R75: the six places cover the jobs and the spare. -/
  places : s.jobPlaces ≤ 6

/-! ### Journal accounting -/

/-- Is the D-port's outstanding request the Write Engine's? -/
def State.engineOut (s : State) : Bool :=
  match s.dport.outstanding with
  | some o => o.client == .writeEngine
  | none => false

/-- Is the oldest job slot `k`'s? -/
def State.headJobOf (s : State) (k : Requester) : Bool :=
  match s.jobs with
  | j :: _ => j.owner == .slot k
  | [] => false

/-- Is the end marker of context `k` allocated and not yet durable (R13, R28, R30)? -/
def State.markerIssued (s : State) (k : Requester) : Bool :=
  s.engineOut && s.headJobOf k &&
    (s.engine.work == some (.write .commitMarker) || s.engine.work == some (.write .abortedMarker))

/-- Is the OPEN record of context `k` allocated and not yet durable (R25)? -/
def State.openIssued (s : State) (k : Requester) : Bool :=
  s.engineOut && s.headJobOf k && s.engine.work == some (.write .openRecord)

/-- A CAPTURING entry whose CAPTURE record is not yet allocated (R31). -/
def HeldEntry.unallocated (h : HeldEntry) : Bool := h.state == .capturing && h.record.isNone

/-- The held entry of a capture entry, by the step that carries the capture entry, `none` before it is begun (R36). -/
def HeldEntry.agrees (h : HeldEntry) : Option WorkUnit → Prop
  | some (.entry (.recordData (some q))) => h.state = .capturing ∧ h.record = some q
  | some (.entry (.recordHeader q)) => h.state = .capturing ∧ h.record = some q
  | some (.entry .dataWrite) => h.state = .held
  | _ => h.unallocated = true

/-- The journal's accounting, and what the contexts, the Held-Line Table and the queue say to each other (R1, R9, R14, R15,
R23, R30 to R34, R36, R68, R70). -/
structure State.Accounted (s : State) : Prop where
  /-- R1. -/
  ring : ∀ g, s.journal.geometry = some g → g.placed s.windowBase = true
  ringHeld : s.device = .scan ∨ s.device = .playback ∨ s.counting = true → s.journal.geometry.isSome = true
  /-- R10, R170: outside READY every context is CLOSED. -/
  ready : s.journal.state ≠ .ready → ∀ k : Fin 4, s.contexts[k].state = .closed
  /-- R14: with no epoch live the live tail is the head sequence. -/
  tailAtHead : s.journal.state ≠ .recovering → (∀ k : Fin 4, s.contexts[k].live = false) → s.journal.tail = s.journal.head
  /-- R15, the space law. -/
  space : s.counting = true → s.journal.tail ≤ s.journal.head ∧ s.used + s.totalReserved ≤ s.slotCount
  /-- R31, R34: a CLOSED context has nothing reserved and holds no line; no queued entry carries it. -/
  closed : ∀ k : Fin 4, s.contexts[k].state = .closed → s.journal.reserved[k] = 0 ∧
    (∀ h ∈ s.held, h.holder ≠ k) ∧ ∀ e ∈ s.queue.entries, e.context ≠ some k
  /-- R31, the reserved balance of a context that is not CLOSED: its end marker, its OPEN record, its captures. -/
  balance : s.device = .run → ∀ k : Fin 4, s.contexts[k].state ≠ .closed →
    s.journal.reserved[k] = (if s.markerIssued k then 0 else 1) + (if s.contexts[k].openWritten then 0 else 1) +
      (s.held.filter fun h => h.holder == k && h.unallocated).length
  /-- R33. -/
  limit : ∀ k : Fin 4, s.contexts[k].state ≠ .closed → s.heldCount k ≤ s.contexts[k].lineLimit
  /-- R25, R68: the OPEN record is owed while it is not durable; then it is written, and is live at or above the tail. -/
  opening : ∀ k : Fin 4, s.contexts[k].openOwed = true ↔ s.owesOpen k
  opened : ∀ k : Fin 4, s.contexts[k].openOwed = true → s.contexts[k].state = .opened ∧
    (s.device = .run → s.contexts[k].openWritten = s.openIssued k)
  written : ∀ k : Fin 4, s.contexts[k].state ≠ .closed → s.contexts[k].openOwed = false → s.contexts[k].openWritten = true
  epoch : ∀ k : Fin 4, s.contexts[k].live = true →
    ∃ q, s.contexts[k].epoch = some q ∧ s.journal.tail ≤ q ∧ q < s.journal.head
  /-- R23, R28, R30. -/
  closing : ∀ k : Fin 4, s.contexts[k].state = .closing ↔ s.owesCommit k
  aborting : ∀ k : Fin 4, s.contexts[k].state = .aborting ↔ s.owesAbort k
  /-- R28, R73: every entry of an epoch is accepted, and so lands, before the word that ends the epoch. -/
  endsLast : ∀ before e after, s.queue.entries = before ++ e :: after → e.commandClose = true →
    s.takenInSlot e.requester 2 ∨ s.takenInSlot e.requester 3 → ∀ x ∈ after, x.context ≠ some e.requester
  landed : ∀ k : Fin 4, ∀ j ∈ s.jobs, j.owner = .slot k →
    j.next = .commitMarker ∨ j.next = .restore ∨ j.next = .abortedMarker →
    ∀ e ∈ s.queue.entries, e.context ≠ some k
  /-- R36, R70: capture entries and CAPTURING held entries stand one for one. -/
  captures : ∀ before e after, s.queue.entries = before ++ e :: after → e.cls = .capture →
    ∃ k, e.context = some k ∧ ∃ h ∈ s.held, h.line = e.line ∧ h.holder = k ∧
      h.agrees (if before = [] then s.engine.work else none)
  capturing : ∀ h ∈ s.held, h.state = .capturing →
    ∃ e ∈ s.queue.entries, e.cls = .capture ∧ e.line = h.line ∧ e.context = some h.holder
  captureOnce : ((s.queue.entries.filter fun e => e.cls == .capture).map (·.line)).Nodup
  recorded : ∀ h ∈ s.held, h.state ≠ .capturing → h.record.isSome = true
  /-- R30, R39: only the line of the restore step in progress is RESTORING, and the marker waits for the last restore. -/
  restoring : ∀ h ∈ s.held, h.state = .restoring → s.headJobOf h.holder = true ∧
    ∃ q phase, s.engine.work = some (.restore h.line q phase)
  restoreLine : ∀ line q phase, s.engine.work = some (.restore line q phase) →
    ∃ h ∈ s.held, h.line = line ∧ s.headJobOf h.holder = true
  restored : ∀ k : Fin 4, (s.headJobOf k = true ∧ s.engine.work = some (.write .abortedMarker)) ∨
    (∃ j ∈ s.jobs, j.owner = .slot k ∧ j.next = .abortedMarker) → ∀ h ∈ s.held, h.holder ≠ k
  /-- R65, R68: the entry in progress is the head, and its context's OPEN record is durable. -/
  begun : ∀ step, s.engine.work = some (.entry step) → ∃ e rest, s.queue.entries = e :: rest ∧
    (step ≠ .dataWrite → e.cls = .capture) ∧ ∀ k : Fin 4, e.context = some k → s.contexts[k].openOwed = false
  /-- R70: a record is allocated at the issue of its data line; a free Write Engine has no request outstanding. -/
  issued : s.device = .run → match s.engine.work with
    | some (.entry (.recordData q)) => q.isSome = s.engineOut
    | none => s.engineOut = false
    | _ => True

/-- The moves of Table 10-1 other than reset, and staying (R154). -/
def DeviceState.mayBecome : DeviceState → DeviceState → Bool
  | .start, .start => true
  | .start, .load => true
  | .load, .load => true
  | .load, .run => true
  | .load, .scan => true
  | .scan, .scan => true
  | .scan, .run => true
  | .scan, .playback => true
  | .playback, .playback => true
  | .playback, .run => true
  | .playback, .stopped => true
  | .run, .run => true
  | .run, .stopped => true
  | .stopped, .stopped => true
  | .start, .scan | .start, .playback | .start, .run | .start, .stopped => false
  | .load, .start | .load, .playback | .load, .stopped => false
  | .scan, .start | .scan, .load | .scan, .stopped => false
  | .playback, .start | .playback, .load | .playback, .scan => false
  | .run, .start | .run, .load | .run, .scan | .run, .playback => false
  | .stopped, .start | .stopped, .load | .stopped, .scan | .stopped, .playback | .stopped, .run => false

end Sys2Proof.Machine
end

