-- ==== Sys2Proof/WellFormed.lean ====
section
/-! DEFINITION. Which command terms the outside can send: the checks on operands that the types do not make. -/

namespace Sys2Proof

/-- A U-port data phase carries at most one line (the largest size of Table 3-1 is 64 bytes). A request of another
size is a request, MALFORMED (R44); more than 64 bytes cannot be carried at all, and neither can none. -/
def carriable (bytes : List BusByte) : Bool := 0 < bytes.length && bytes.length ≤ 64

/-- The response of DATA_WRITE_FAILED is one the D-port takes as FAIL for a WRITE: FAIL itself, or DATA (R135). -/
def failsDataWrite : MemResponse → Bool
  | .fail => true
  | .data _ _ => true
  | .done => false
  | .unbacked => false

/-- The well-formed commands. -/
def Instr.wellFormed : Instr → Bool
  | .writeRequest w => carriable w.bytes
  | .windowWrite _ _ bytes => carriable bytes
  | .dataWriteFailed _ resp => failsDataWrite resp
  | .reset .. | .memReadyFoundAsserted | .configurationReadResponse .. | .regionLineReadResponse ..
  | .descriptorReadResponse .. | .scanReadResponse .. | .playbackHeaderReadResponse ..
  | .playbackDataReadResponse .. | .playbackRestoreWriteDurable .. | .recoveryMarkerDurable ..
  | .readRequest .. | .stagedBaseWrite .. | .stagedSlotCountWrite .. | .parityCheckWrite ..
  | .discardIntervalWrite .. | .patrolIntervalWrite .. | .lowMarkWrite .. | .interruptMaskWrite ..
  | .acknowledgeWrite .. | .regionWordAWrite .. | .regionWordBWrite .. | .commandWord0Write ..
  | .commandWord1Write .. | .sequenceError .. | .openCommand .. | .commitCommand .. | .abortCommand ..
  | .drainCommand .. | .reportCommand .. | .clearCountersCommand .. | .reinitCommand .. | .unknownOpcode ..
  | .straightReadResponse .. | .deferredFetchResponse .. | .discardTimerExpiry .. | .oldReadResponse ..
  | .recordDataDurable .. | .recordHeaderDurable .. | .landing .. | .unbackedWrite .. | .openRecordDurable ..
  | .commitMarkerDurable .. | .restoreHeaderReadResponse .. | .restoreDataReadResponse ..
  | .restoreWriteDurable .. | .abortedMarkerDurable .. | .descriptorInvalidateDurable .. | .formatLineDurable ..
  | .descriptorWriteDurable .. | .resultRecordDurable .. | .statusFirstLineDurable .. | .statusRecordDurable ..
  | .patrolIntervalExpiry | .patrolReadResponse .. | .patrolRenewResponse .. | .responseTimerExpiry
  | .ignoredResponse .. => true

end Sys2Proof
end

