-- ==== Sys2Proof/Certificates/Slice0/Obligations.lean ====
section
/-! DEFINITION. The statements for the provers. Each is said in full: where a command completes, the next state is written
out as the state before it with the fields the rules change. -/

open Sys2Proof Sys2Proof.Machine

/-! ## The step and the queue of commands -/

/-- One step takes the command at the front of the queue and runs it on the state with the queue's rest; on an empty queue
the part idles (both the model's form of the queue, log 2). -/
def Obligations.StepRunsTheFrontCommandOrIdles : Prop :=
  (∀ (c : Instr) (s : State), step { s with pending := c :: s.pending } = exec c s) ∧
  (∀ s : State, s.pending = [] → step s = .next s)

/-- Every command answers a next state. That it leaves the queue of commands as it was, a reset included, is the model's
form of the queue (log 2); the straps change at a reset only (R48); the level stored for MEM_READY, which the model keeps
(log 7), changes at a reset and in START only, where R138 has it sampled. -/
def Obligations.EveryCommandAnswersNextAndKeepsTheQueue : Prop :=
  ∀ (c : Instr) (s : State), ∃ t, exec c s = .next t ∧ t.pending = s.pending ∧
    ((∀ cwb ready, c ≠ .reset cwb ready) → t.cwb = s.cwb ∧ (s.device ≠ .start → t.memReady = s.memReady))

/-! ## Reset and MEM_READY (R155, R156) -/

/-- RESET with MEM_READY deasserted: every block at its reset value, in START, with the straps sampled. The U-port's
waiting requests and recorded answers are the model's own (logs 3 and 4) and are not spoken of. -/
def Obligations.ResetGivesEveryBlockItsResetValue : Prop :=
  ∀ (cwb : BitVec 16) (s : State), ∃ t, exec (.reset cwb false) s = .next t ∧
    t.device = .start ∧ t.cwb = cwb ∧ t.uport.inProgress = none ∧
    (∀ j : Fin 16, t.regions[j] = ⟨0, 0, .off, 0⟩) ∧
    t.settings = ⟨0, 0, true, 64, 0, 16, 0xFF⟩ ∧
    (∀ k : Fin 4, t.contexts[k] = ⟨.closed, none, false, false, 512, 0, 0⟩) ∧
    t.held = [] ∧
    t.journal.state = .recovering ∧ t.journal.geometry = none ∧ t.journal.head = 0 ∧ t.journal.tail = 0 ∧
    (∀ k : Fin 4, t.journal.reserved[k] = 0) ∧ t.used = 0 ∧ t.free = 0 ∧
    t.queue = ⟨[], 0⟩ ∧ t.engine = ⟨none, none, .job⟩ ∧ t.jobs = [] ∧ t.reads = [] ∧
    (∀ k : Fin 4, t.slots[k] = ⟨.empty, none, none, .idle, none, 0⟩) ∧
    t.patrol = ⟨.off, none, none, false, none⟩ ∧
    t.dport = ⟨none, 0, none, [], .r, 0⟩ ∧
    t.startup = ⟨.idle, [], 0, none, none, [], [], 0, 0, 0, 0⟩ ∧
    t.status = ⟨0, false, ⟨none, 0⟩, ⟨0, 0, 0, 0, 0, 0, 0, 0, 0, 0, 0, 0⟩, 0⟩ ∧
    t.interrupt = false ∧ ∀ issue, t.answers issue = none

/-- MEM_READY found asserted takes START to LOAD at that event, at once when it is asserted as the reset ends, with the
configuration read issued; in every other device state its level changes nothing (R138, R156, R157). -/
def Obligations.MemReadyEntersLoadFromStartOnly : Prop :=
  (∀ s : State, s.device = .start → s.dport.outstanding = none →
    ∃ t n, exec .memReadyFoundAsserted s = .next t ∧ t.device = .load ∧ t.journal = s.journal ∧
      t.dport.outstanding = some ⟨.startup, .read (BitVec.ofNat 32 (s.cwb.toNat * 65536)), n⟩) ∧
  (∀ s : State, s.device ≠ .start → exec .memReadyFoundAsserted s = .next s) ∧
  (∀ (cwb : BitVec 16) (s : State), ∃ t n, exec (.reset cwb true) s = .next t ∧ t.device = .load ∧ t.cwb = cwb ∧
    t.dport.outstanding = some ⟨.startup, .read (BitVec.ofNat 32 (cwb.toNat * 65536)), n⟩ ∧
    t.settings = ⟨0, 0, true, 64, 0, 16, 0xFF⟩ ∧ t.status.causes = 0 ∧ t.journal.state = .recovering)

/-! ## LOAD (R157 to R159) -/

/-- The configuration read answered: each readable word in range becomes the in-force value, every other word keeps the
value it had, ERROR is raised for each of those, the last of them the highest, and LOAD goes on to the region lines. However
many words are invalid, one status job is placed, and none when the flag was set or one stood in the list (R128, R157,
R174). -/
def Obligations.ConfigurationReadLoadsEachWord : Prop :=
  (∀ (s : State) (issue : Byte) (line : Addr) (bytes : Line) (st : Vector WordStatus 16),
    s.carries issue .startup (.read line) → s.startup.step = .readConfiguration → statusesNamed st = true →
    let v (i : Nat) : Word := lineWord bytes i
    let good (c : ConfigWord) : Bool := (st[c.index]? != some .uncorrectable) && c.accepts (v c.index)
    let placed : List Job := if s.status.dirty = false ∧ (∀ j ∈ s.jobs, j.owner ≠ .statusUnit)
      then s.jobs ++ [⟨.statusUnit, .status, .statusRecord, .complete, .noReason, 0, 0⟩] else s.jobs
    ∃ u, exec (.configurationReadResponse issue (.data bytes st)) s = .next (afterEvent u) ∧
      u = { releasePort s with
        settings := u.settings, status := u.status, jobs := u.jobs
        startup := { s.startup with step := .readRegions false } } ∧
      u.settings.stagedBase = (if good .stagedBase then v 0 else s.settings.stagedBase) ∧
      u.settings.stagedSlots = (if good .stagedSlots then v 1 else s.settings.stagedSlots) ∧
      u.settings.parityCheck = (if good .parityCheck then v 2 == 1 else s.settings.parityCheck) ∧
      u.settings.discardInterval = (if good .discardInterval then (v 3).toNat else s.settings.discardInterval) ∧
      u.settings.patrolInterval = (if good .patrolInterval then (v 4).toNat else s.settings.patrolInterval) ∧
      u.settings.lowMark = (if good .lowMark then (v 5).toNat else s.settings.lowMark) ∧
      u.settings.interruptMask = (if good .interruptMask then (v 6).setWidth 8 else s.settings.interruptMask) ∧
      ((∀ c, good c = true) → u.status = s.status ∧ u.jobs = s.jobs) ∧
      (∀ c, good c = false → (∀ d, c.index < d.index → good d = true) →
        u.jobs = placed ∧
        u.status = { s.status with
          causes := s.status.causes ||| 0x10, dirty := true
          lastError := ⟨some .loadInvalid, s.windowAddr (4 * c.index)⟩ })) ∧
  (∀ (s : State) (issue : Byte) (line : Addr) (resp : MemResponse),
    s.carries issue .startup (.read line) → s.startup.step = .readConfiguration → resp.failsRead = true →
    exec (.configurationReadResponse issue resp) s = .next (afterEvent
      (raiseError .loadInvalid (s.windowAddr 0)
        { releasePort s with startup := { s.startup with step := .readRegions false } })))

/-- A region line answered: each of its eight entries is installed as its two words give when they are valid, and OFF with
ERROR at the address of word A when they are not, with one status job placed as R174 says, however many they are; the other
line's entries stay; then the next line, or the descriptor. A failed read installs the eight OFF and raises ERROR once. -/
def Obligations.RegionLineReadInstallsEachEntry : Prop :=
  (∀ (s : State) (issue : Byte) (line : Addr) (second : Bool) (bytes : Line) (st : Vector WordStatus 16),
    s.carries issue .startup (.read line) → s.startup.step = .readRegions second → statusesNamed st = true →
    let base (i : Fin 8) : Word := lineWord bytes (2 * i.val)
    let wordB (i : Fin 8) : Word := lineWord bytes (2 * i.val + 1)
    let limit (i : Fin 8) : Addr := wordB i &&& 0xFFFFFFC0#32
    let entry (i : Fin 8) : Fin 16 := ⟨(if second then 8 else 0) + i.val, by split <;> omega⟩
    let valid (i : Fin 8) (mode : RegionMode) : Prop :=
      st[2 * i.val]? ≠ some .uncorrectable ∧ st[2 * i.val + 1]? ≠ some .uncorrectable ∧ (base i).toNat % 64 = 0 ∧
        (wordB i).toNat % 64 = (match mode with
          | .off => 0
          | .logged => 1
          | .guarded => 2
          | .readonly => 3) ∧
        (mode ≠ .off → base i ≤ limit i ∧
          ((limit i).toNat + 64 ≤ s.windowBase ∨ s.windowBase + 4096 ≤ (base i).toNat))
    let placed : List Job := if s.status.dirty = false ∧ (∀ j ∈ s.jobs, j.owner ≠ .statusUnit)
      then s.jobs ++ [⟨.statusUnit, .status, .statusRecord, .complete, .noReason, 0, 0⟩] else s.jobs
    ∃ u, exec (.regionLineReadResponse issue (.data bytes st)) s = .next (afterEvent u) ∧
      u = { releasePort s with
        regions := u.regions, status := u.status, jobs := u.jobs
        startup := { s.startup with step := if second then .readDescriptor else .readRegions true } } ∧
      (∀ i mode, valid i mode → u.regions[entry i] = ⟨base i, limit i, mode, base i⟩) ∧
      (∀ i, (∀ mode, ¬ valid i mode) → u.regions[entry i] = ⟨0, 0, .off, 0⟩) ∧
      (∀ j : Fin 16, (∀ i, j ≠ entry i) → u.regions[j] = s.regions[j]) ∧
      ((∀ i, ∃ mode, valid i mode) → u.status = s.status ∧ u.jobs = s.jobs) ∧
      (∀ i, (∀ mode, ¬ valid i mode) → (∀ j, i < j → ∃ mode, valid j mode) →
        u.jobs = placed ∧
        u.status = { s.status with
          causes := s.status.causes ||| 0x10, dirty := true
          lastError := ⟨some .loadInvalid, s.windowAddr (0x100 + 8 * (entry i).val)⟩ })) ∧
  (∀ (s : State) (issue : Byte) (line : Addr) (second : Bool) (resp : MemResponse),
    s.carries issue .startup (.read line) → s.startup.step = .readRegions second → resp.failsRead = true →
    ∃ u, exec (.regionLineReadResponse issue resp) s = .next (afterEvent
        (raiseError .loadInvalid (s.windowAddr (if second then 0x140 else 0x100)) u)) ∧
      u = { releasePort s with
        regions := u.regions
        startup := { s.startup with step := if second then .readDescriptor else .readRegions true } } ∧
      ∀ j : Fin 16, u.regions[j] = if decide (8 ≤ j.val) = second then ⟨0, 0, .off, 0⟩ else s.regions[j])

/-- The descriptor read answered: a valid descriptor gives the geometry and SCAN from slot 0; an invalid one gives ABSENT
and RUN, with ERROR only when it could not be read. -/
def Obligations.DescriptorReadEntersScanOrRun : Prop :=
  ∀ (s : State) (issue : Byte) (line : Addr), s.carries issue .startup (.read line) →
    s.startup.step = .readDescriptor → s.patrol.state = .off →
    let absent (u : State) : State := raiseCause .started { u with
      device := .run
      journal := { s.journal with state := .absent .descriptorInvalid, geometry := none, head := 0, tail := 0 }
      startup := { s.startup with step := .idle, rolledBack := 0, linesRestored := 0, linesFailed := 0 }
      patrol := s.patrolAtRun }
    (∀ (bytes : Line) (st : Vector WordStatus 16), (∀ i : Fin 16, st[i] = .clean ∨ st[i] = .corrected) →
      let S := (lineWord bytes 2).toNat
      let base := (lineWord bytes 1).toNat
      let valid := lineWord bytes 0 = 0x0001B416#32 ∧ lineWord bytes 15 = crc32 (bytes.setWidth 480) ∧
        base % 128 = 0 ∧ 64 ≤ S ∧ S ≤ 65536 ∧ base + 128 * S ≤ 2 ^ 32 ∧
        (base + 128 * S ≤ s.windowBase ∨ s.windowBase + 4096 ≤ base)
      (valid → exec (.descriptorReadResponse issue (.data bytes st)) s = .next (afterEvent { releasePort s with
        device := .scan
        journal := { s.journal with geometry := some ⟨lineWord bytes 1, S⟩ }
        startup := { s.startup with step := .readSlot, nextSlot := 0 } })) ∧
      (¬ valid → exec (.descriptorReadResponse issue (.data bytes st)) s = .next (afterEvent
        (absent (releasePort s))))) ∧
    (∀ resp : MemResponse, (resp.failsRead = true ∨
        ∃ bytes st, resp = .data bytes st ∧ ∃ i : Fin 16, st[i] = .uncorrectable) →
      exec (.descriptorReadResponse issue resp) s = .next (afterEvent
        (absent (raiseError .loadInvalid (s.windowAddr 0x40) (releasePort s)))))

/-! ## SCAN and PLAYBACK (R160 to R167) -/

/-- A scan read answered: before the last slot the header is recorded and the next slot is read; a read that fails or
reports a word UNCORRECTABLE ends the scan with ABSENT, SCAN_FAILED and ERROR at that header line. -/
def Obligations.ScanReadRecordsItsSlotOrFails : Prop :=
  ∀ (s : State) (issue : Byte) (line : Addr) (g : Geometry), s.carries issue .startup (.read line) →
    s.device = .scan → s.startup.step = .readSlot → s.journal.geometry = some g → s.patrol.state = .off →
    let i := s.startup.nextSlot
    (∀ (bytes : Line) (st : Vector WordStatus 16), (∀ n : Fin 16, st[n] = .clean ∨ st[n] = .corrected) →
      i + 1 < g.slots →
      exec (.scanReadResponse issue (.data bytes st)) s = .next (afterEvent { releasePort s with
        startup := { s.startup with
          nextSlot := i + 1
          summary := s.startup.summary ++ [match decodeHeader bytes with
            | some h => if h.sequence.toNat % g.slots = i then some ⟨h.sequence, h.kind, h.context, h.epoch⟩ else none
            | none => none] } })) ∧
    (∀ resp : MemResponse, (resp.failsRead = true ∨
        ∃ bytes st, resp = .data bytes st ∧ ∃ n : Fin 16, st[n] = .uncorrectable) →
      exec (.scanReadResponse issue resp) s = .next (afterEvent (raiseCause .started
        (raiseError .scanFailed (g.base + BitVec.ofNat 32 (128 * i)) { releasePort s with
          device := .run
          journal := { s.journal with state := .absent .scanFailed, head := 0, tail := 0 }
          startup := { s.startup with step := .idle, rolledBack := 0, linesRestored := 0, linesFailed := 0 }
          patrol := s.patrolAtRun }))))

/-- The last scan read answered: with no unfinished epoch the journal is READY and the device in RUN; with unfinished
epochs whose markers fit it enters PLAYBACK; else the scan has failed. M is the highest sequence of the summary, which
is not the last 64-bit count (log 6). -/
def Obligations.LastScanReadEndsTheScan : Prop :=
  ∀ (s : State) (issue : Byte) (line : Addr) (g : Geometry) (bytes : Line) (st : Vector WordStatus 16),
    s.carries issue .startup (.read line) → s.device = .scan → s.startup.step = .readSlot →
    s.journal.geometry = some g → s.journal.state = .recovering → s.patrol.state = .off →
    (∀ n : Fin 16, st[n] = .clean ∨ st[n] = .corrected) → s.startup.nextSlot + 1 = g.slots →
    let summary := s.startup.summary ++ [summarize g.slots s.startup.nextSlot bytes]
    let m := highestSeq summary
    let run := match m with
      | some q => runRecords summary g.slots q
      | none => []
    let unfinished := unfinishedOf run
    let found (step : StartupStep) : Startup := { s.startup with
      step := step, nextSlot := g.slots, summary := summary, highest := m
      run := match run.head?, m with
        | some e, some q => some (e.sequence, q)
        | _, _ => none
      unfinished := unfinished, playback := playbackOf run unfinished }
    let next : Seq := match m with
      | some q => q + 1
      | none => 0
    (∀ q, m = some q → q ≠ 0xFFFFFFFFFFFFFFFF#64) →
    (unfinished = [] →
      exec (.scanReadResponse issue (.data bytes st)) s = .next (afterEvent (raiseCause .started
        (lowTestAtReady { releasePort s with
          device := .run
          journal := { s.journal with state := .ready, head := next, tail := next }
          startup := { found .idle with rolledBack := 0, linesRestored := 0, linesFailed := 0 }
          patrol := s.patrolAtRun })))) ∧
    (∀ e rest q, unfinished = e :: rest → m = some q → q.toNat - e.epoch.toNat + 1 + unfinished.length ≤ g.slots →
      exec (.scanReadResponse issue (.data bytes st)) s = .next (afterEvent { releasePort s with
        device := .playback
        journal := { s.journal with head := next }
        startup := { found (if playbackOf run unfinished = [] then .marker 0 else .playHeader) with position := 0 } })) ∧
    (∀ e rest q, unfinished = e :: rest → m = some q → ¬ q.toNat - e.epoch.toNat + 1 + unfinished.length ≤ g.slots →
      exec (.scanReadResponse issue (.data bytes st)) s = .next (afterEvent (raiseCause .started
        (raiseError .scanFailed (g.base + BitVec.ofNat 32 (128 * (e.epoch.toNat % g.slots))) { releasePort s with
          device := .run
          journal := { s.journal with state := .absent .scanFailed, head := 0, tail := 0 }
          startup := { found .idle with rolledBack := 0, linesRestored := 0, linesFailed := 0 }
          patrol := s.patrolAtRun }))))

/-- M is the highest of the summary's sequences. The run that the scan finds ends at M, holds the records of the sequences
just below M that the summary holds without a gap, and at most S of them, in ascending sequence (R162); the unfinished set
and the playback list of a run are those of R163's tests. -/
def Obligations.ScanFindsTheRunAndTheUnfinishedEpochs : Prop :=
  (∀ summary : List (Option SlotSummary),
      (highestSeq summary = none ↔ ∀ e ∈ summary, e = none) ∧
      ∀ m, highestSeq summary = some m ↔
        (∃ e, some e ∈ summary ∧ e.sequence = m) ∧ ∀ e, some e ∈ summary → e.sequence ≤ m) ∧
  (∀ (summary : List (Option SlotSummary)) (S : Nat) (m : Seq), 0 < S → (recordAt summary S m).isSome = true →
      let run := runRecords summary S m
      (run.map fun e => e.sequence.toNat) = List.range' (m.toNat + 1 - run.length) run.length ∧
      0 < run.length ∧ run.length ≤ S ∧ run.length ≤ m.toNat + 1 ∧
      (∀ e ∈ run, recordAt summary S e.sequence = some e) ∧
      (run.length = S ∨ run.length = m.toNat + 1 ∨
        recordAt summary S (BitVec.ofNat 64 (m.toNat - run.length)) = none)) ∧
  (∀ run : List SlotSummary, (run.map fun e => e.sequence.toNat).Pairwise (· < ·) →
      let unfinished := unfinishedOf run
      (∀ u, u ∈ unfinished ↔ u.restored = 0 ∧ u.failed = 0 ∧
        (∃ e ∈ run, e.kind = .openRecord ∧ e.sequence = u.epoch ∧ e.context = u.context) ∧
        ¬ ∃ e ∈ run, (e.kind = .commit ∨ e.kind = .aborted) ∧ e.epoch = u.epoch) ∧
      (unfinished.map fun u => u.epoch.toNat).Pairwise (· < ·) ∧
      (∀ q, q ∈ playbackOf run unfinished ↔ ∃ e ∈ run, e.sequence = q ∧ e.kind = .capture ∧
        ∃ u ∈ unfinished, e.epoch = u.epoch ∧ u.epoch < q ∧ e.context = u.context) ∧
      ((playbackOf run unfinished).map fun q => q.toNat).Pairwise (· > ·))

/-- The reads of a playback restore step: after the header read, whatever it returned, the data read; after that the
restore write to the line of a usable header, with the data of a good record or with zeros and every word poisoned; with
no usable header the line is failed and the step ends (R39, R40, R166). -/
def Obligations.PlaybackReadsFormTheRestoreWrite : Prop :=
  (∀ (s : State) (issue : Byte) (line : Addr) (resp : MemResponse), s.carries issue .startup (.read line) →
    s.startup.step = .playHeader →
    exec (.playbackHeaderReadResponse issue resp) s = .next (afterEvent { releasePort s with
      startup := { s.startup with step := .playData (match resp with
        | .data bytes st => if statusesNamed st = true ∧ uncorrectable st = 0 then some bytes else none
        | _ => none) } })) ∧
  (∀ (s : State) (issue : Byte) (line : Addr) (header : Option Line) (resp : MemResponse),
    s.carries issue .startup (.read line) → s.startup.step = .playData header →
    let x := s.playExpected
    let usable (h : Header) : Prop := header.bind decodeHeader = some h ∧ h.sequence = x.sequence ∧
      h.kind = .capture ∧ h.context = x.context ∧ h.epoch = x.epoch
    (∀ h, usable h →
      (∀ bytes st, resp = .data bytes st → statusesNamed st = true → crc32 bytes = h.dataCheck →
        exec (.playbackDataReadResponse issue resp) s = .next (afterEvent { releasePort s with
          startup := { s.startup with step := .playWrite h.line bytes (h.poison ||| uncorrectable st) true } })) ∧
      ((resp.failsRead = true ∨ ∃ bytes st, resp = .data bytes st ∧ crc32 bytes ≠ h.dataCheck) →
        exec (.playbackDataReadResponse issue resp) s = .next (afterEvent { releasePort s with
          startup := { s.startup with step := .playWrite h.line 0 0xFFFF#16 false } }))) ∧
    ((¬ ∃ h, usable h) →
      exec (.playbackDataReadResponse issue resp) s = .next (afterEvent (count .restoreFails { releasePort s with
        startup := { s.startup with
          unfinished := s.startup.unfinished.map fun u =>
            if u.epoch = x.epoch then { u with failed := u.failed + 1 } else u
          linesFailed := satInc s.startup.linesFailed
          position := s.startup.position + 1
          step := if s.startup.position + 1 < s.startup.playback.length then .playHeader else .marker 0 } }))))

/-- A playback restore write durable counts its line against its epoch and in the outcome, and the next step begins; a
RECOVERY marker durable counts one epoch rolled back, the next marker follows, and after the last the journal is READY
with its live tail at the head and the device in RUN; a failure of either stops the device (R166, R167, R168). -/
def Obligations.PlaybackWritesDurableGoOnToRun : Prop :=
  (∀ (s : State) (issue : Byte) (q : DportRequest) (line : Addr) (image : Line) (poison : WordMask) (good : Bool),
      s.carries issue .startup q → q.isWrite = true → s.startup.step = .playWrite line image poison good →
      let u := { releasePort s with
        startup := { s.startup with
          unfinished := s.startup.unfinished.map fun u =>
            if u.epoch = s.playExpected.epoch then
              (if good then { u with restored := u.restored + 1 } else { u with failed := u.failed + 1 })
            else u
          linesRestored := if good then satInc s.startup.linesRestored else s.startup.linesRestored
          linesFailed := if good then s.startup.linesFailed else satInc s.startup.linesFailed
          position := s.startup.position + 1
          step := if s.startup.position + 1 < s.startup.playback.length then .playHeader else .marker 0 } }
      exec (.playbackRestoreWriteDurable issue .done) s = .next (afterEvent
        (if good then u else count .restoreFails u)) ∧
      ∀ resp : MemResponse, resp.failsWrite = true →
        exec (.playbackRestoreWriteDurable issue resp) s = .next (afterEvent (stopDevice (releasePort s)))) ∧
  (∀ (s : State) (issue : Byte) (q : DportRequest) (i : Nat), s.carries issue .startup q → q.isWrite = true →
      s.startup.step = .marker i →
      (i + 1 < s.startup.unfinished.length →
        exec (.recoveryMarkerDurable issue .done) s = .next (afterEvent { releasePort s with
          startup := { s.startup with rolledBack := satInc s.startup.rolledBack, step := .marker (i + 1) } })) ∧
      (¬ i + 1 < s.startup.unfinished.length → s.patrol.state = .off →
        exec (.recoveryMarkerDurable issue .done) s = .next (afterEvent (raiseCause .started
          (lowTestAtReady { releasePort s with
            device := .run
            journal := { s.journal with state := .ready, tail := s.journal.head }
            startup := { s.startup with rolledBack := satInc s.startup.rolledBack, step := .idle }
            patrol := s.patrolAtRun })))) ∧
      ∀ resp : MemResponse, resp.failsWrite = true →
        exec (.recoveryMarkerDurable issue resp) s = .next (afterEvent (stopDevice (releasePort s))))

/-! ## U-port requests (R44 to R48, R56 to R61, R118, R119) -/

/-- The first check on every request is the device state, for every row that presents one (WRITE_REQUEST, READ_REQUEST,
WINDOW_WRITE and each row that writes a window or command word): RETRY in START, LOAD, SCAN and PLAYBACK, FAULT STOPPED in
STOPPED, before any other check and with no effect but the answer to its requester (R46, R47). -/
def Obligations.DeviceStateIsTheFirstCheck : Prop :=
  ∀ (s : State) (c : Instr) (q : UportRequest), c.request s = some q → s.uport.inProgress = none → s.Settled →
    let answered (a : Answer) : Host.Outcome State Fault Refusal :=
      .next { s with uport := { s.uport with answers := s.uport.answers ++ [(q.requester, a)] } }
    ((s.device = .start ∨ s.device = .load ∨ s.device = .scan ∨ s.device = .playback) →
      exec c s = answered .retry) ∧
    (s.device = .stopped → exec c s = answered (.fault .stopped))

/-- The class of a line, in the order of R48: control window, journal ring, region, plain memory; and the region is the
lowest-numbered active entry that contains the line (R51). The check of a write's class outside the window: a write into the
ring is FAULT PROTECTED, one to plain memory is accepted bare with no context, and one into a region is judged by that
region's mode (R1, R48, R59). -/
def Obligations.TargetClassInItsOrder : Prop :=
  (∀ (s : State) (w : WriteRequest),
    let line := w.address &&& 0xFFFFFFC0#32
    (s.classOf line = .ring → s.classCheck w = .error .protectedWord) ∧
    (s.classOf line = .plain → s.classCheck w = .ok (.bare none)) ∧
    (∀ r, s.classOf line = .region r → s.classCheck w = s.regionCheck w.requester line r.mode)) ∧
  ∀ (s : State) (line : Addr),
    let inWindow := s.cwb.toNat * 65536 ≤ line.toNat ∧ line.toNat < s.cwb.toNat * 65536 + 4096
    let inRing := ∃ g, s.journal.geometry = some g ∧ g.base.toNat ≤ line.toNat ∧ line.toNat < g.base.toNat + 128 * g.slots
    let covers (r : Region) := r.mode ≠ .off ∧ r.base ≤ line ∧ line ≤ r.limit
    (inWindow → s.classOf line = .window) ∧
    (¬ inWindow → inRing → s.classOf line = .ring) ∧
    (¬ inWindow → ¬ inRing → ∀ j : Fin 16, covers s.regions[j] → (∀ i : Fin 16, i < j → ¬ covers s.regions[i]) →
      s.classOf line = .region s.regions[j]) ∧
    (¬ inWindow → ¬ inRing → (∀ j : Fin 16, ¬ covers s.regions[j]) → s.classOf line = .plain)

/-- The write admission decision for a line inside an active region: the first row of Table 3-6 that holds, and for a
capture the three checks of R60 in their order. -/
def Obligations.RegionWriteDecision : Prop :=
  ∀ (s : State) (k : Requester) (line : Addr) (mode : RegionMode), mode ≠ .off →
    let own := s.contexts[k].state
    let holder := (s.lookupHeld line).map (·.holder)
    let heldByOwn := (s.held.filter fun e => e.holder == k).length
    (mode = .readonly → s.regionCheck k line mode = .error .readOnly) ∧
    (mode ≠ .readonly → ∀ j, holder = some j → j ≠ k → s.regionCheck k line mode = .error .conflict) ∧
    (mode ≠ .readonly → holder = some k → own ≠ .opened → s.regionCheck k line mode = .error .conflict) ∧
    (mode ≠ .readonly → holder = some k → own = .opened → s.regionCheck k line mode = .ok (.bare (some k))) ∧
    (mode ≠ .readonly → holder = none → own = .opened →
      s.regionCheck k line mode =
        if 512 ≤ s.held.length then .error .holdFull
        else if s.contexts[k].lineLimit ≤ heldByOwn then .error .epochLimit
        else if s.journal.state = .ready ∧ 1 ≤ s.free then .ok .capture
        else .error .journalFull) ∧
    (mode = .guarded → holder = none → own ≠ .opened → s.regionCheck k line mode = .error .guarded) ∧
    (mode = .logged → holder = none → own ≠ .opened → s.regionCheck k line mode = .ok (.bare none))

/-- A bare write outside the window, to plain memory or where Table 3-6 accepts it bare, is posted as one entry, overtakes
the deferred reads of its line, reports bad parity, and is answered DONE; nothing else changes but what follows the event
(R61, R92, R119). What the entry's fields hold: the byte mask marks the request's bytes and no other, the data line has
them at their place in the line, and the poison mask marks each word that holds a byte whose nine bits have an even number
of ones (R44, R64, R118, R119). -/
def Obligations.BareWriteIsPosted : Prop :=
  (∀ (off n i : Nat), off + n ≤ 64 → i < 64 → ((byteMaskAt off n).getLsbD i = true ↔ off ≤ i ∧ i < off + n)) ∧
  (∀ (off : Nat) (bytes : List Byte) (i : Nat), off + bytes.length ≤ 64 → i < 64 →
    (placeBytes off bytes).extractLsb' (8 * i) 8 = (if off ≤ i then bytes[i - off]?.getD 0 else 0)) ∧
  (∀ (off : Nat) (bytes : List BusByte) (word : Nat), off + bytes.length ≤ 64 → word < 16 →
    ((damagedWords off bytes).getLsbD word = true ↔
      ∃ i b, bytes[i]? = some b ∧ (off + i) / 4 = word ∧
        (((List.range 8).filter fun n => b.value.getLsbD n).length + (if b.parity then 1 else 0)) % 2 = 0)) ∧
  ∀ (s : State) (w : WriteRequest) (context : Option Requester),
    s.device = .run → s.uport.inProgress = none → s.queue.entries.length < 16 →
    w.bytes.length ∈ [1, 2, 4, 8, 16, 32, 64] → w.address.toNat % w.bytes.length = 0 →
    s.classCheck w = .ok (.bare context) →
    let off := w.address.toNat % 64
    let poison : WordMask := if s.settings.parityCheck then damagedWords off w.bytes else 0
    let entry : PostedEntry := ⟨s.queue.nextNumber, w.requester, w.address &&& 0xFFFFFFC0#32,
      byteMaskAt off w.bytes.length, placeBytes off (w.bytes.map (·.value)), poison, .bare, context, false⟩
    let posted := overtakeReads entry.line entry.number
      { s with queue := ⟨s.queue.entries ++ [entry], s.queue.nextNumber + 1⟩ }
    exec (.writeRequest w) s = .next (settle (giveAnswer w.requester .written
      (if poison = 0 then posted else raiseError .writeParity w.address (count .parityErrors posted))))

/-- A capture claims one slot with the LOW test, inserts its line as CAPTURING, and is posted as a CAPTURE entry carrying
the own context (R35, R60, R61). -/
def Obligations.CaptureClaimsInsertsAndIsPosted : Prop :=
  ∀ (s : State) (w : WriteRequest),
    s.device = .run → s.uport.inProgress = none → s.queue.entries.length < 16 →
    w.bytes.length ∈ [1, 2, 4, 8, 16, 32, 64] → w.address.toNat % w.bytes.length = 0 →
    s.classCheck w = .ok .capture →
    let k := w.requester
    let off := w.address.toNat % 64
    let line := w.address &&& 0xFFFFFFC0#32
    let poison : WordMask := if s.settings.parityCheck then damagedWords off w.bytes else 0
    let entry : PostedEntry := ⟨s.queue.nextNumber, k, line, byteMaskAt off w.bytes.length,
      placeBytes off (w.bytes.map (·.value)), poison, .capture, some k, false⟩
    let claimed := lowTest s.free s.settings.lowMark { s with
      journal := { s.journal with reserved := s.journal.reserved.set k (s.journal.reserved[k] + 1) } }
    let posted := overtakeReads line entry.number { claimed with
      held := s.held ++ [⟨line, k, .capturing, none⟩]
      queue := ⟨s.queue.entries ++ [entry], s.queue.nextNumber + 1⟩ }
    exec (.writeRequest w) s = .next (settle (giveAnswer k .written
      (if poison = 0 then posted else raiseError .writeParity w.address (count .parityErrors posted))))

/-- A write of bad size or alignment, or refused by its class, is answered FAULT and changes nothing but the counter of
R46; one that passes and finds the queue full is answered RETRY and changes nothing (R44, R46, R56, R57). -/
def Obligations.RefusedWritesChangeOnlyTheirCounter : Prop :=
  ∀ (s : State) (w : WriteRequest), s.device = .run → s.uport.inProgress = none → s.Settled →
    let refused (f : FaultReason) : Host.Outcome State Fault Refusal := .next (giveAnswer w.requester (.fault f)
      (match f with
       | .conflict => { s with status := { s.status with counters := s.status.counters.raise .conflicts } }
       | .holdFull | .epochLimit | .journalFull =>
         { s with status := { s.status with counters := s.status.counters.raise .spaceFaults } }
       | _ => s))
    let wellShaped := w.bytes.length ∈ [1, 2, 4, 8, 16, 32, 64] ∧ w.address.toNat % w.bytes.length = 0
    (¬ wellShaped → exec (.writeRequest w) s = refused .malformed) ∧
    (wellShaped → ∀ f, s.classCheck w = .error f → exec (.writeRequest w) s = refused f) ∧
    (wellShaped → ∀ a, s.classCheck w = .ok a → s.queue.entries.length = 16 →
      exec (.writeRequest w) s = .next (giveAnswer w.requester .retry s))

/-- The window rules in their order (R58, R97): a window write that is not one aligned 4-byte write is MALFORMED, to a
device-owned word PROTECTED, to an unlisted word MALFORMED, to a word of another requester's slot PROTECTED whatever its
parity, to any other host-written word PARITY when a byte is bad and checking is enabled (R118). Each row that writes one
window word is WINDOW_WRITE at that word's place (R182). A word that fails its own checks is refused: a setting or mark word
out of range and a region word of a bad value MALFORMED, a region word while a context is not CLOSED or the journal is
FORMATTING REGION_LOCKED, whatever its value (R52, R53, R54, R98, R100); these refusals stand on a full queue, and a word
that passes its checks is answered RETRY there (R57). Nothing changes but the answer (R46). -/
def Obligations.RefusedWindowWritesChangeNothing : Prop :=
  (∀ (s : State) (k : Requester) (off : BitVec 12) (bytes : List BusByte),
      s.device = .run → s.uport.inProgress = none → s.Settled →
      let n := off.toNat
      let refused (f : FaultReason) : Host.Outcome State Fault Refusal := .next (giveAnswer k (.fault f) s)
      let commandWord := 0x200 ≤ n ∧ n < 0x240 ∧ n % 16 ≠ 12
      let foreign := commandWord ∧ (n - 0x200) / 16 ≠ k.val
      ((bytes.length ≠ 4 ∨ n % 4 ≠ 0) → exec (.windowWrite k off bytes) s = refused .malformed) ∧
      (bytes.length = 4 → n % 4 = 0 →
        (0x40 ≤ n ∧ n < 0x80 ∨ 0x240 ≤ n ∧ n < 0x280 ∨ 0x300 ≤ n ∧ n < 0x380) →
        exec (.windowWrite k off bytes) s = refused .protectedWord) ∧
      (bytes.length = 4 → n % 4 = 0 →
        (0x1C ≤ n ∧ n < 0x40 ∨ 0x84 ≤ n ∧ n < 0x100 ∨ 0x180 ≤ n ∧ n < 0x200 ∨ 0x280 ≤ n ∧ n < 0x300 ∨ 0x380 ≤ n ∨
          0x200 ≤ n ∧ n < 0x240 ∧ n % 16 = 12) →
        exec (.windowWrite k off bytes) s = refused .malformed) ∧
      (bytes.length = 4 → n % 4 = 0 → foreign → exec (.windowWrite k off bytes) s = refused .protectedWord) ∧
      (bytes.length = 4 → n % 4 = 0 → (n < 0x1C ∨ n = 0x80 ∨ 0x100 ≤ n ∧ n < 0x180 ∨ commandWord ∧ ¬ foreign) →
        s.settings.parityCheck = true → (∃ b ∈ bytes, badParity b = true) →
        exec (.windowWrite k off bytes) s = refused .parity)) ∧
  (∀ (s : State) (c : Instr) (off : Nat) (w : WordWrite), c.wordAt = some (off, w) →
      off < 4096 ∧ off % 4 = 0 ∧ exec c s = exec (.windowWrite w.requester (BitVec.ofNat 12 off) (wordBytes w)) s) ∧
  (∀ (s : State) (w : WordWrite), s.judgesWord w → s.Settled →
      let v := w.value.toNat
      let refused (f : FaultReason) : Host.Outcome State Fault Refusal := .next (giveAnswer w.requester (.fault f) s)
      let again : Host.Outcome State Fault Refusal := .next (giveAnswer w.requester .retry s)
      let full := s.queue.entries.length = 16
      let locked := (∃ k : Fin 4, s.contexts[k].state ≠ .closed) ∨ s.journal.state = .formatting
      let checked (c : Instr) (bad : Prop) : Prop :=
        (bad → exec c s = refused .malformed) ∧ (¬ bad → full → exec c s = again)
      checked (.stagedBaseWrite w) False ∧ checked (.stagedSlotCountWrite w) False ∧
      checked (.parityCheckWrite w) (1 < v) ∧ checked (.discardIntervalWrite w) (v = 0 ∨ 255 < v) ∧
      checked (.patrolIntervalWrite w) (65535 < v) ∧ checked (.lowMarkWrite w) (65535 < v) ∧
      checked (.interruptMaskWrite w) (255 < v) ∧ checked (.acknowledgeWrite w) (255 < v) ∧
      (∀ j : Fin 16,
        let base := s.regions[j].staged.toNat
        let spanEnd := v / 64 * 64 + 64
        let meets (low high : Nat) : Prop := base < high ∧ low < spanEnd
        (locked → exec (.regionWordAWrite j w) s = refused .regionLocked ∧
          exec (.regionWordBWrite j w) s = refused .regionLocked) ∧
        (¬ locked → checked (.regionWordAWrite j w) (v % 64 ≠ 0)) ∧
        (¬ locked → checked (.regionWordBWrite j w)
          (4 ≤ v % 64 ∨ v % 64 ≠ 0 ∧ (v / 64 * 64 < base ∨ meets s.windowBase (s.windowBase + 4096) ∨
            ∃ g, s.journal.geometry = some g ∧ meets g.base.toNat (g.base.toNat + 128 * g.slots))))))

/-! ## Window words (R52 to R55, R99, R100) -/

/-- A configuration word in range replaces the in-force value at its acceptance, and is posted; the patrol interval starts,
restarts or stops the interval timer outside a step, the low mark makes the LOW test with the old and the new mark (R16,
R99, R148, R151). An accepted acknowledge write clears the pending causes whose mark is written 1, but STOPPED's, and sets
the status-dirty flag when that changes the pending set (R100, R173). WINDOW_WRITE of the same four bytes at the word's
offset (R182) completes with the same next state, and any four bytes are the bytes of such a word. -/
def Obligations.SettingsAndAcknowledgeActAtAcceptance : Prop :=
  (∀ (k : Requester) (bytes : List BusByte), bytes.length = 4 →
      ∃ w : WordWrite, w.requester = k ∧ wordBytes w = bytes) ∧
  (∀ (s : State) (w : WordWrite), s.takesWord w →
      let writes (c : Instr) (off : BitVec 12) (u : State) : Prop :=
        exec c s = .next (s.wordAccepted off.toNat w false u) ∧
        exec (.windowWrite w.requester off (wordBytes w)) s = .next (s.wordAccepted off.toNat w false u)
      let set (g : Settings) : State := { s with settings := g }
      writes (.stagedBaseWrite w) 0x00 (set { s.settings with stagedBase := w.value }) ∧
      writes (.stagedSlotCountWrite w) 0x04 (set { s.settings with stagedSlots := w.value }) ∧
      (w.value = 0 ∨ w.value = 1 →
        writes (.parityCheckWrite w) 0x08 (set { s.settings with parityCheck := decide (w.value = 1) })) ∧
      (1 ≤ w.value.toNat ∧ w.value.toNat ≤ 255 →
        writes (.discardIntervalWrite w) 0x0C (set { s.settings with discardInterval := w.value.toNat })) ∧
      (w.value.toNat ≤ 65535 →
        writes (.patrolIntervalWrite w) 0x10 { set { s.settings with patrolInterval := w.value.toNat } with
          patrol :=
            if s.patrol.state = .read ∨ s.patrol.state = .renew then s.patrol
            else if w.value ≠ 0 ∧ (∃ j : Fin 16, s.regions[j].mode ≠ .off) then
              { s.patrol with state := .wait, timer := some w.value.toNat }
            else { s.patrol with state := .off, timer := none } }) ∧
      (w.value.toNat ≤ 65535 →
        writes (.lowMarkWrite w) 0x14
          (if s.journal.state = .ready ∧ s.settings.lowMark ≤ s.free ∧ s.free < w.value.toNat
           then raiseCause .low (set { s.settings with lowMark := w.value.toNat })
           else set { s.settings with lowMark := w.value.toNat })) ∧
      (w.value.toNat ≤ 255 →
        writes (.interruptMaskWrite w) 0x18 (set { s.settings with interruptMask := w.value.setWidth 8 })) ∧
      (w.value.toNat ≤ 255 →
        ∃ u, writes (.acknowledgeWrite w) 0x80 u ∧
          (∀ n, u.status.causes.getLsbD n = (s.status.causes.getLsbD n && !(w.value.getLsbD n && decide (n < 7)))) ∧
          (u.status.causes = s.status.causes → u = s) ∧
          (u.status.causes ≠ s.status.causes →
            u = { setDirty s with status := { (setDirty s).status with causes := u.status.causes } })))

/-- Word A of a region entry replaces its staged base; word B installs base, limit and mode together, places the patrol
cursor at the base of the lowest-numbered active entry and starts, restarts or stops the interval timer outside a step
(R52, R53, R55, R147, R148, R151). WINDOW_WRITE of the same four bytes at the word's offset (R182) completes with the same
next state. -/
def Obligations.RegionWordsStageAndInstall : Prop :=
  ∀ (s : State) (j : Fin 16) (w : WordWrite), s.takesWord w →
    (∀ k : Fin 4, s.contexts[k].state = .closed) → s.journal.state ≠ .formatting →
    let writes (c : Instr) (off : Nat) (u : State) : Prop :=
      exec c s = .next (s.wordAccepted off w false u) ∧
      exec (.windowWrite w.requester (BitVec.ofNat 12 off) (wordBytes w)) s = .next (s.wordAccepted off w false u)
    (w.value.toNat % 64 = 0 → writes (.regionWordAWrite j w) (0x100 + 8 * j.val)
      { s with regions := s.regions.set j { s.regions[j] with staged := w.value } }) ∧
    (∀ mode : RegionMode, w.value.toNat % 64 = (match mode with
        | .off => 0
        | .logged => 1
        | .guarded => 2
        | .readonly => 3) →
      let base := s.regions[j].staged
      let limit : Addr := w.value &&& 0xFFFFFFC0#32
      let clear (low high : Nat) : Prop := high ≤ base.toNat ∨ limit.toNat + 64 ≤ low
      (mode ≠ .off → base ≤ limit ∧ clear s.windowBase (s.windowBase + 4096) ∧
        ∀ g, s.journal.geometry = some g → clear g.base.toNat (g.base.toNat + 128 * g.slots)) →
      let u : State := { s with regions := s.regions.set j ⟨base, limit, mode, base⟩ }
      writes (.regionWordBWrite j w) (0x104 + 8 * j.val) { u with
        patrol :=
          if s.patrol.state = .read ∨ s.patrol.state = .renew then
            { s.patrol with cursor := u.firstActive 0, placed := true }
          else if s.settings.patrolInterval ≠ 0 ∧ (u.firstActive 0).isSome then
            { s.patrol with state := .wait, cursor := u.firstActive 0, timer := some s.settings.patrolInterval }
          else { s.patrol with state := .off, cursor := u.firstActive 0, timer := none } })

/-! ## Command slots (R101 to R114) -/

/-- Word 0 stages opcode and tag and drops what was staged, counting it as abandoned; word 1 after a word 0 stages argument
A; either phase takes them (R102, R103). A word out of order in an IDLE slot is accepted and closes the command as a
sequence error, which touches nothing but the slot; its result will carry the staged opcode and tag, or 0 and 0 (R105).
WINDOW_WRITE of the same four bytes at the word's offset (R182) completes with the same next state. -/
def Obligations.CommandWordsStageOrMakeASequenceError : Prop :=
  ∀ (s : State) (k : Requester) (w : WordWrite), s.takesWord w → w.requester = k →
    let writes (i : Instr) (off : Nat) (close : Bool) (u : State) : Prop :=
      exec i s = .next (s.wordAccepted off w close u) ∧
      exec (.windowWrite k (BitVec.ofNat 12 off) (wordBytes w)) s = .next (s.wordAccepted off w close u)
    let c := s.slots[k]
    let staged (d : CommandSlot) : State := { s with slots := s.slots.set k d }
    let zero := staged { c with
      staging := .word0, argA := none
      word := some ⟨BitVec.ofNat 4 (w.value.toNat % 16), BitVec.ofNat 8 (w.value.toNat / 256 % 256)⟩ }
    (c.staging = .empty → writes (.commandWord0Write k w) (0x200 + 16 * k.val) false zero) ∧
    (c.staging ≠ .empty → writes (.commandWord0Write k w) (0x200 + 16 * k.val) false
      { zero with status := { s.status with counters := s.status.counters.raise .abandoned } }) ∧
    (c.staging = .word0 → writes (.commandWord1Write k w) (0x204 + 16 * k.val) false
      (staged { c with staging := .word1, argA := some w.value })) ∧
    (c.phase = .idle →
      let closed := staged { c with
        staging := .empty, word := none, argA := none, phase := .executing
        decision := some ⟨c.word.getD ⟨0, 0⟩, .refused .sequence⟩ }
      (c.staging ≠ .word0 → writes (.sequenceError k .word1 w) (0x204 + 16 * k.val) true closed) ∧
      (c.staging ≠ .word1 → writes (.sequenceError k .word2 w) (0x208 + 16 * k.val) true closed))

/-- A closing word, or a word 1 that would close, on an EXECUTING slot is answered FAULT BUSY, full queue or not, and a word
of another requester's slot FAULT PROTECTED; a word that passes its checks on a full queue is answered RETRY, and stages
and takes nothing. None changes anything but the answer (R57, R58, R101, R106, R107). -/
def Obligations.BusyAndForeignCommandWordsChangeNothing : Prop :=
  ∀ (s : State) (k : Requester) (w : WordWrite), s.judgesWord w → s.Settled →
    let refused (f : FaultReason) : Host.Outcome State Fault Refusal := .next (giveAnswer w.requester (.fault f) s)
    let closing : List Instr := [.openCommand k w, .commitCommand k w, .abortCommand k w, .drainCommand k w,
      .reportCommand k w, .clearCountersCommand k w, .reinitCommand k w, .unknownOpcode k w, .sequenceError k .word2 w]
    (w.requester = k → s.slots[k].phase = .executing →
      (∀ c ∈ closing, exec c s = refused .busy) ∧
      (s.slots[k].staging ≠ .word0 → exec (.commandWord1Write k w) s = refused .busy ∧
        exec (.sequenceError k .word1 w) s = refused .busy)) ∧
    (w.requester ≠ k →
      ∀ c ∈ closing ++ [.commandWord0Write k w, .commandWord1Write k w, .sequenceError k .word1 w],
        exec c s = refused .protectedWord) ∧
    (w.requester = k → s.queue.entries.length = 16 →
      let again (c : Instr) : Prop := exec c s = .next (giveAnswer k .retry s)
      again (.commandWord0Write k w) ∧
      (s.slots[k].staging = .word0 ∨ s.slots[k].phase = .idle →
        again (.commandWord1Write k w) ∧ again (.sequenceError k .word1 w)) ∧
      (s.slots[k].phase = .idle → ∀ c ∈ closing, again c))

/-- A closing word in order closes its slot with a decision: OPEN taken opens the context with its line limit and claims 2
slots with the LOW test, and a refused OPEN touches nothing but the slot; the reasons in the order of R108 (R24, R104,
R108). -/
def Obligations.OpenIsJudgedAndTaken : Prop :=
  ∀ (s : State) (k : Requester) (w : WordWrite) (tag : Byte) (a : Word), s.takesWord w → w.requester = k →
    s.slots[k].phase = .idle → s.slots[k].staging = .word1 → s.slots[k].word = some ⟨1, tag⟩ →
    s.slots[k].argA = some a →
    let closed (v : Verdict) (u : State) : State := { u with slots := s.slots.set k { s.slots[k] with
      staging := .empty, word := none, argA := none, phase := .executing, decision := some ⟨⟨1, tag⟩, v⟩ } }
    let answer (v : Verdict) (u : State) : Prop := exec (.openCommand k w) s =
      .next (s.wordAccepted (0x208 + 16 * k.val) w true (closed v u))
    (s.contexts[k].state ≠ .closed → answer (.refused .state) s) ∧
    (s.contexts[k].state = .closed → 512 < a.toNat → answer (.refused .limit) s) ∧
    (s.contexts[k].state = .closed → a.toNat ≤ 512 → s.journal.state ≠ .ready → answer (.refused .noJournal) s) ∧
    (s.contexts[k].state = .closed → a.toNat ≤ 512 → s.journal.state = .ready → s.free < 2 →
      answer (.refused .journalFull) s) ∧
    (s.contexts[k].state = .closed → a.toNat ≤ 512 → s.journal.state = .ready → 2 ≤ s.free →
      answer .taken (lowTest s.free s.settings.lowMark { s with
        contexts := s.contexts.set k ⟨.opened, none, false, true, if a = 0 then 512 else a.toNat, 0, 0⟩
        journal := { s.journal with reserved := s.journal.reserved.set k (s.journal.reserved[k] + 2) } }))

/-- COMMIT taken makes the context CLOSING and nothing else; ABORT taken makes it ABORTING with both counts 0 and takes back
the deferred reads of its lines; either is refused STATE unless the context is OPEN (R27, R29, R93, R109). DRAIN, REPORT
and CLEAR_COUNTERS are always taken and do nothing at their taking; an opcode that names no command is refused OPCODE
(R110, R111, R112, R114). -/
def Obligations.OtherCommandsAreJudgedAndTaken : Prop :=
  (∀ (s : State) (k : Requester) (w : WordWrite) (tag : Byte) (opcode : BitVec 4), s.takesWord w → w.requester = k →
      s.slots[k].phase = .idle → s.slots[k].staging = .word1 → s.slots[k].word = some ⟨opcode, tag⟩ →
      let accepted (v : Verdict) (u : State) : Host.Outcome State Fault Refusal :=
        .next (s.wordAccepted (0x208 + 16 * k.val) w true { u with slots := s.slots.set k { s.slots[k] with
          staging := .empty, word := none, argA := none, phase := .executing, decision := some ⟨⟨opcode, tag⟩, v⟩ } })
      let context (d : Context) : State := { s with contexts := s.contexts.set k d }
      (opcode = 2 → exec (.commitCommand k w) s =
        if s.contexts[k].state = .opened then accepted .taken (context { s.contexts[k] with state := .closing })
        else accepted (.refused .state) s) ∧
      (opcode = 3 → exec (.abortCommand k w) s =
        if s.contexts[k].state = .opened then
          accepted .taken (takeBackReads k (context { s.contexts[k] with state := .aborting, restored := 0, failed := 0 }))
        else accepted (.refused .state) s)) ∧
  (∀ (s : State) (k : Requester) (w : WordWrite) (tag : Byte) (opcode : BitVec 4), s.takesWord w → w.requester = k →
      s.slots[k].phase = .idle → s.slots[k].staging = .word1 → s.slots[k].word = some ⟨opcode, tag⟩ →
      let accepted (v : Verdict) : Host.Outcome State Fault Refusal :=
        .next (s.wordAccepted (0x208 + 16 * k.val) w true { s with slots := s.slots.set k { s.slots[k] with
          staging := .empty, word := none, argA := none, phase := .executing, decision := some ⟨⟨opcode, tag⟩, v⟩ } })
      (opcode = 4 → exec (.drainCommand k w) s = accepted .taken) ∧
      (opcode = 5 → exec (.reportCommand k w) s = accepted .taken) ∧
      (opcode = 6 → exec (.clearCountersCommand k w) s = accepted .taken) ∧
      (opcode = 0 ∨ 8 ≤ opcode.toNat → exec (.unknownOpcode k w) s = accepted (.refused .opcode)))

/-- REINIT is refused STATE while a context is not CLOSED or the journal is FORMATTING, then GEOMETRY while the staged
geometry is not valid by R18; taken, it makes the journal FORMATTING with the staged geometry and keeps head, tail and
reserved counts (R18, R113). That no LOW test is made at the taking, though free may then lie below the mark, is the
model's reading of R16 (log 15). -/
def Obligations.ReinitIsJudgedAndTaken : Prop :=
  ∀ (s : State) (k : Requester) (w : WordWrite) (tag : Byte), s.takesWord w → w.requester = k →
    s.slots[k].phase = .idle → s.slots[k].staging = .word1 → s.slots[k].word = some ⟨7, tag⟩ →
    let accepted (v : Verdict) (u : State) : Prop := exec (.reinitCommand k w) s =
      .next (s.wordAccepted (0x208 + 16 * k.val) w true { u with slots := s.slots.set k { s.slots[k] with
        staging := .empty, word := none, argA := none, phase := .executing, decision := some ⟨⟨7, tag⟩, v⟩ } })
    let base := s.settings.stagedBase.toNat
    let S := s.settings.stagedSlots.toNat
    let apart (low high : Nat) : Prop := base + 128 * S ≤ low ∨ high ≤ base
    let busy := (∃ j : Fin 4, s.contexts[j].state ≠ .closed) ∨ s.journal.state = .formatting
    let valid := base % 128 = 0 ∧ 64 ≤ S ∧ S ≤ 65536 ∧ base + 128 * S ≤ 2 ^ 32 ∧
      apart s.windowBase (s.windowBase + 4096) ∧
      ∀ j : Fin 16, s.regions[j].mode ≠ .off →
        apart s.regions[j].base.toNat (max s.regions[j].base.toNat (s.regions[j].limit.toNat + 64))
    (busy → accepted (.refused .state) s) ∧
    (¬ busy → ¬ valid → accepted (.refused .geometry) s) ∧
    (¬ busy → valid → accepted .taken { s with
      journal := { s.journal with state := .formatting, geometry := some ⟨s.settings.stagedBase, S⟩ } })

/-! ## Reads (R82 to R94) -/

/-- A new read: FAULT MALFORMED by its shape; deferred, with an entry and its wait mark or, when the table is full, a count
in FULL_RETRIES, when a posted entry names its line or an ABORTING context holds it; else straight, holding the U-port
and joining the Read List (R62, R82, R83, R86, R87). -/
def Obligations.NewReadIsMalformedDeferredOrStraight : Prop :=
  ∀ (s : State) (r : ReadRequest), s.device = .run → s.uport.inProgress = none → (∀ d ∈ s.reads, d.key ≠ r) →
    let line := r.address &&& 0xFFFFFFC0#32
    let wellShaped := r.size ∈ [1, 2, 4, 8, 16, 32, 64] ∧ r.address.toNat % r.size = 0
    let owed := (∃ e ∈ s.queue.entries, e.line = line) ∨
      ∃ h, s.lookupHeld line = some h ∧ s.contexts[h.holder].state = .aborting
    (¬ wellShaped → exec (.readRequest r) s = .next (settle (giveAnswer r.requester (.fault .malformed) s))) ∧
    (wellShaped → owed → 8 ≤ s.reads.length → exec (.readRequest r) s = .next (settle (giveAnswer r.requester .retry
      { s with status := { s.status with counters := s.status.counters.raise .fullRetries } }))) ∧
    (wellShaped → owed → s.reads.length < 8 →
      ∃ mark, exec (.readRequest r) s = .next (settle (giveAnswer r.requester .retry
          { s with reads := s.reads ++ [⟨r, .waiting, false, mark, [], [], false, none⟩] })) ∧
        ((∀ e ∈ s.queue.entries, e.line ≠ line) → mark = none) ∧
        (∀ before e after, s.queue.entries = before ++ e :: after → e.line = line → (∀ x ∈ after, x.line ≠ line) →
          mark = some e.number)) ∧
    (wellShaped → ¬ owed → exec (.readRequest r) s = .next (settle { s with
      uport := { s.uport with inProgress := some r }
      dport := { s.dport with readList := s.dport.readList ++ [.straight] } }))

/-- A repeat is answered from its entry: RETRY while it is WAITING or ISSUED, changing nothing; READY, its data with parity
and poison flags, or FAULT MEMORY when the fetch failed, and the entry is freed; POISON_READS rises with a set flag (R84,
R91). -/
def Obligations.RepeatIsAnsweredFromItsEntry : Prop :=
  ∀ (s : State) (r : ReadRequest) (d : DeferredRead), s.device = .run → s.uport.inProgress = none →
    r.size ∈ [1, 2, 4, 8, 16, 32, 64] → r.address.toNat % r.size = 0 → s.reads.find? (·.key == r) = some d →
    let freed : State := { s with reads := s.reads.filter fun e => e.key != r }
    (d.state ≠ .ready → exec (.readRequest r) s = .next (settle (giveAnswer r.requester .retry s))) ∧
    (d.state = .ready → d.failed = true →
      exec (.readRequest r) s = .next (settle (giveAnswer r.requester (.fault .memory) freed))) ∧
    (d.state = .ready → d.failed = false →
      let answered := giveAnswer r.requester (.read (d.data.map fun b => ⟨b, parityBit b⟩) d.poison) freed
      exec (.readRequest r) s = .next (settle
        (if d.poison.any id then { answered with
           status := { s.status with counters := s.status.counters.raise .poisonReads } }
         else answered)))

/-- A straight read's response answers it and frees the U-port: the bytes from its address with generated parity and one
flag per word touched, set for a word reported UNCORRECTABLE; or FAULT MEMORY, counted nowhere (R83, R84). A request
presented while a straight read holds the U-port changes nothing; the model keeps it waiting (R45, log 3). An event that
leaves the U-port free has it take the waiting requests, oldest first, each answered before the next is taken, until none
waits or a read holds the port again (R45; the order is log 3). -/
def Obligations.StraightReadResponseAnswersTheRead : Prop :=
  (∀ (s : State) (c : Instr) (q : UportRequest) (r : ReadRequest), c.request s = some q → s.uport.inProgress = some r →
    exec c s = .next { s with uport := { s.uport with waiting := s.uport.waiting ++ [q] } }) ∧
  (∀ s : State, ∃ taken rest u, s.uport.waiting = taken ++ rest ∧ takesInOrder taken s u ∧
    (rest = [] ∨ u.uport.inProgress.isSome = true) ∧
    portFreed s = { u with uport := { u.uport with waiting := rest } }) ∧
  ∀ (s : State) (issue : Byte) (line : Addr) (r : ReadRequest), s.carries issue .straightRead (.read line) →
    s.uport.inProgress = some r → r.size ∈ [1, 2, 4, 8, 16, 32, 64] → r.address.toNat % r.size = 0 →
    let off := r.address.toNat % 64
    let freed : State := { releasePort s with uport := { s.uport with inProgress := none } }
    (∀ bytes st, statusesNamed st = true →
      let data : List Byte := (List.range r.size).map fun i => bytes.extractLsb' (8 * (off + i)) 8
      let flags : List Bool := (List.range (max 1 (r.size / 4))).map fun i => st[off / 4 + i]? == some .uncorrectable
      let answered := giveAnswer r.requester (.read (data.map fun b => ⟨b, parityBit b⟩) flags) freed
      exec (.straightReadResponse issue (.data bytes st)) s = .next (afterEvent
        (if flags.any id then { answered with
           status := { s.status with counters := s.status.counters.raise .poisonReads } }
         else answered))) ∧
    (∀ resp : MemResponse, resp.failsRead = true →
      exec (.straightReadResponse issue resp) s =
        .next (afterEvent (giveAnswer r.requester (.fault .memory) freed)))

/-- A deferred fetch's response: thrown away when the entry is stale, which then waits again with a new wait mark and joins
the Read List when nothing is owed to its line; else the entry is READY with its data and flags, or failed, and its
discard timer runs (R87, R88, R90, R94). The entries that join are those WAITING with no wait mark whose line no ABORTING
context holds and that are not in the list; they join at its tail, oldest entry first (R88, R140). -/
def Obligations.DeferredFetchResponseMakesReadyOrStale : Prop :=
  (∀ s : State, ∃ joining : List ReadRequest,
    joinIssuable s = { s with dport := { s.dport with readList := s.dport.readList ++ joining.map .deferred } } ∧
    joining.Sublist (s.reads.map (·.key)) ∧
    ∀ key, key ∈ joining ↔ ReadMember.deferred key ∉ s.dport.readList ∧
      ∃ d ∈ s.reads, d.key = key ∧ d.state = .waiting ∧ d.waitMark = none ∧
        ∀ h, s.lookupHeld (key.address &&& 0xFFFFFFC0#32) = some h → s.contexts[h.holder].state ≠ .aborting) ∧
  ∀ (s : State) (issue : Byte) (line : Addr) (key : ReadRequest) (d : DeferredRead),
    s.carries issue (.deferredRead key) (.read line) → s.reads.find? (·.key == key) = some d →
    key.size ∈ [1, 2, 4, 8, 16, 32, 64] → key.address.toNat % key.size = 0 →
    let off := key.address.toNat % 64
    let changed (f : DeferredRead → DeferredRead) : State :=
      { releasePort s with reads := s.reads.map fun e => if e.key = key then f e else e }
    let ready (data : List Byte) (flags : List Bool) (failed : Bool) : State := changed fun e => { e with
      state := .ready, data := data, poison := flags, failed := failed
      timer := some (s.settings.discardInterval * 16) }
    (d.stale = true → ∀ resp, exec (.deferredFetchResponse issue resp) s = .next (afterEvent (joinIssuable
      (changed fun e => { e with
        state := .waiting, stale := false, waitMark := s.newestNumber (key.address &&& 0xFFFFFFC0#32) })))) ∧
    (d.stale = false → ∀ bytes st, statusesNamed st = true →
      exec (.deferredFetchResponse issue (.data bytes st)) s = .next (afterEvent
        (ready ((List.range key.size).map fun i => bytes.extractLsb' (8 * (off + i)) 8)
          ((List.range (max 1 (key.size / 4))).map fun i => st[off / 4 + i]? == some .uncorrectable) false))) ∧
    (d.stale = false → ∀ resp : MemResponse, resp.failsRead = true →
      exec (.deferredFetchResponse issue resp) s = .next (afterEvent (ready [] [] true)))

/-- The discard timer of a READY entry expires: the entry is freed and DISCARDS rises. A timer that does not run, or is
halted in STOPPED, does not expire (R94, R96; the command without its timer is the model's, log 9). -/
def Obligations.DiscardTimerExpiryFreesTheEntry : Prop :=
  ∀ (s : State) (r : ReadRequest),
    (∀ d, s.reads.find? (·.key == r) = some d → s.device ≠ .stopped → d.state = .ready → d.timer.isSome = true →
      exec (.discardTimerExpiry r) s = .next { s with
        reads := s.reads.filter fun e => e.key != r
        status := { s.status with counters := s.status.counters.raise .discards } }) ∧
    ((s.device = .stopped ∨ ∀ d ∈ s.reads, d.key = r → d.timer = none) →
      exec (.discardTimerExpiry r) s = .next s)

/-- An accepted write overtakes every deferred read of its line, and a taken ABORT takes back every one of a line the
context holds, by the state of the entry; the members withdrawn leave the Read List, the others keep their order, and
REQUEUES rises once for each READY entry (R92, R93). -/
def Obligations.WritesAndAbortsSendDeferredReadsBack : Prop :=
  (∀ (s : State) (line : Addr) (n : BitVec 32), s.Coherent →
    let hit (d : DeferredRead) : Prop := d.key.address &&& 0xFFFFFFC0#32 = line
    let t := overtakeReads line n s
    t = { s with reads := t.reads, dport := { s.dport with readList := t.dport.readList }, status := t.status } ∧
    t.status = { s.status with counters := { s.status.counters with requeues := t.status.counters.requeues } } ∧
    t.reads.length = s.reads.length ∧
    (∀ (i : Nat) (d : DeferredRead), s.reads[i]? = some d →
      (¬ hit d → t.reads[i]? = some d) ∧
      (hit d → d.state = .waiting → t.reads[i]? = some { d with waitMark := some n }) ∧
      (hit d → d.state = .issued → t.reads[i]? = some { d with stale := true }) ∧
      (hit d → d.state = .ready → t.reads[i]? = some { d with
        state := .waiting, waitMark := some n, data := [], poison := [], failed := false, timer := none })) ∧
    t.dport.readList = s.dport.readList.filter (fun m => match m with
      | .straight => true
      | .deferred key => key.address &&& 0xFFFFFFC0#32 != line) ∧
    t.status.counters.requeues.toNat = min 65535
      (s.status.counters.requeues.toNat +
        (s.reads.filter fun d => decide (d.key.address &&& 0xFFFFFFC0#32 = line) && d.state == .ready).length)) ∧
  (∀ (s : State) (k : Requester), s.Coherent →
    let held (line : Addr) : Bool := s.held.any fun e => e.line == line && e.holder == k
    let hit (d : DeferredRead) : Bool := held (d.key.address &&& 0xFFFFFFC0#32)
    let t := takeBackReads k s
    t = { s with reads := t.reads, dport := { s.dport with readList := t.dport.readList }, status := t.status } ∧
    t.status = { s.status with counters := { s.status.counters with requeues := t.status.counters.requeues } } ∧
    t.reads.length = s.reads.length ∧
    (∀ (i : Nat) (d : DeferredRead), s.reads[i]? = some d →
      (hit d = false ∨ d.state = .waiting → t.reads[i]? = some d) ∧
      (hit d = true → d.state = .issued → t.reads[i]? = some { d with stale := true }) ∧
      (hit d = true → d.state = .ready → t.reads[i]? = some { d with
        state := .waiting, waitMark := s.newestNumber (d.key.address &&& 0xFFFFFFC0#32)
        data := [], poison := [], failed := false, timer := none })) ∧
    t.dport.readList = s.dport.readList.filter (fun m => match m with
      | .straight => true
      | .deferred key => !held (key.address &&& 0xFFFFFFC0#32)) ∧
    t.status.counters.requeues.toNat = min 65535
      (s.status.counters.requeues.toNat + (s.reads.filter fun d => hit d && d.state == .ready).length))

/-! ## The posted entry at the head (R65 to R73, R79, R80, R126) -/

/-- OLD_READ answered: the capture buffer holds what came back, RECORD_DATA is next, and damage is reported once, before it
is issued (R69, R126). The data line durable leads to the header line; the header line durable makes the held entry HELD,
raises CAPTURES, and leads to the data write (R36, R71, R72). -/
def Obligations.CaptureStepsLeadOn : Prop :=
  (∀ (s : State) (issue : Byte) (line : Addr) (e : PostedEntry) (rest : List PostedEntry),
      s.carries issue .writeEngine (.read line) → s.engine.work = some (.entry .oldRead) →
      s.queue.entries = e :: rest →
      let kept (b : CaptureBuffer) : State := { releasePort s with
        engine := { s.engine with buffer := some b, work := some (.entry (.recordData none)) } }
      (∀ bytes st, (∀ i : Fin 16, st[i] = .clean ∨ st[i] = .corrected) →
        exec (.oldReadResponse issue (.data bytes st)) s = .next (afterEvent (kept ⟨bytes, st, false⟩))) ∧
      (∀ bytes st, statusesNamed st = true → (∃ i : Fin 16, st[i] = .uncorrectable) →
        exec (.oldReadResponse issue (.data bytes st)) s =
          .next (afterEvent (raiseError .capturePoison e.line (kept ⟨bytes, st, false⟩)))) ∧
      (∀ resp : MemResponse, resp.failsRead = true → ∃ b : CaptureBuffer, b.failed = true ∧
        exec (.oldReadResponse issue resp) s = .next (afterEvent (raiseError .captureFail e.line (kept b))))) ∧
  (∀ (s : State) (issue : Byte) (r : DportRequest) (e : PostedEntry) (rest : List PostedEntry) (k : Requester) (q : Seq),
      s.carries issue .writeEngine r → r.isWrite = true → s.queue.entries = e :: rest → e.context = some k →
      (s.engine.work = some (.entry (.recordData (some q))) →
        exec (.recordDataDurable issue .done) s = .next (afterEvent { releasePort s with
          engine := { s.engine with work := some (.entry (.recordHeader q)) } })) ∧
      (s.engine.work = some (.entry (.recordHeader q)) →
        exec (.recordHeaderDurable issue .done) s = .next (afterEvent { releasePort s with
          engine := { s.engine with work := some (.entry .dataWrite) }
          held := s.held.map fun h => if h.line = e.line ∧ h.holder = k then { h with state := .held } else h
          status := { s.status with counters := s.status.counters.raise .captures } })))

/-- The landing of an entry: it leaves the queue, the wait marks that name it are cleared, and the entries this makes
issuable join the Read List. A command close entry then places its slot's job, the first step of Table 4-3 or a refused
command's result step, after the counters are cleared for a taken CLEAR_COUNTERS. UNBACKED lands it the same way and
raises ERROR last; FAIL stops the device with the entry at the head (R65, R73, R76, R79, R80, R87, R112, R179). -/
def Obligations.LandingDropsTheEntryAndPlacesItsJob : Prop :=
  (∀ (s : State) (issue : Byte) (r : DportRequest) (e : PostedEntry) (rest : List PostedEntry),
      s.carries issue .writeEngine r → r.isWrite = true → s.engine.work = some (.entry .dataWrite) →
      s.queue.entries = e :: rest →
      let landed : State := joinIssuable { releasePort s with
        engine := { s.engine with work := none }
        queue := { s.queue with entries := rest }
        reads := s.reads.map fun d => if d.waitMark = some e.number then { d with waitMark := none } else d }
      let ends (u : State) : Prop := exec (.landing issue) s = .next (afterEvent u) ∧
        exec (.unbackedWrite issue) s = .next (afterEvent (raiseError .unbackedWrite e.line u))
      (e.commandClose = false → ends landed) ∧
      (e.commandClose = true → ∀ d, s.slots[e.requester].decision = some d →
        let placed (u : State) : State := { u with jobs := s.jobs ++ [d.job e.requester] }
        (¬ (d.verdict = .taken ∧ d.word.opcode = 6) → ends (placed landed)) ∧
        (d.verdict = .taken → d.word.opcode = 6 → ends (placed { landed with
          status := { s.status with counters := ⟨0, 0, 0, 0, 0, 0, 0, 0, 0, 0, 0, 0⟩ } }))) ∧
      (∀ resp, failsDataWrite resp = true →
        exec (.dataWriteFailed issue resp) s = .next (afterEvent (stopDevice (releasePort s))))) ∧
  (∀ (k : Requester) (tag : Byte),
      let job (opcode : BitVec 4) : Job := Decision.job k ⟨⟨opcode, tag⟩, .taken⟩
      let complete (kind : JobKind) (next : JobStep) : Job := ⟨.slot k, kind, next, .complete, .noReason, 0, 0⟩
      job 1 = complete .openEpoch .openRecord ∧ job 2 = complete .commit .commitMarker ∧
      job 3 = complete .abort .restore ∧ job 4 = complete .drain .result ∧ job 5 = complete .report .statusRecord ∧
      job 6 = complete .clearCounters .result ∧ job 7 = complete .reinit .descriptorInvalidate ∧
      ∀ word reason, Decision.job k ⟨word, .refused reason⟩ = ⟨.slot k, .refused, .result, .refused, reason, 0, 0⟩)

/-- The requests of a posted entry and what their issue does: the data write of an entry of any class and the old-line read,
in any state of the journal; the data line, with the record allocated and its sequence in the held entry; the header line
with the fields of R71 (R5, R13, R67, R69, R70, R71). -/
def Obligations.EntryRequestsCarryTheirFields : Prop :=
  (∀ (s : State) (e : PostedEntry) (rest : List PostedEntry), s.queue.entries = e :: rest →
    (s.engine.work = some (.entry .dataWrite) → engineIssue s = some (s, .write e.line e.byteMask e.data e.poison)) ∧
    (s.engine.work = some (.entry .oldRead) → engineIssue s = some (s, .read e.line))) ∧
  ∀ (s : State) (e : PostedEntry) (rest : List PostedEntry) (g : Geometry) (b : CaptureBuffer),
    s.queue.entries = e :: rest → s.journal.geometry = some g → s.engine.buffer = some b →
    let untrusted (n : Nat) : Bool := b.failed || (b.statuses[n]? == some .uncorrectable)
    let slotLine (q : Seq) (at_ : Nat) : Addr := g.base + BitVec.ofNat 32 (128 * (q.toNat % g.slots) + at_)
    let full (line : Addr) (data : Line) : DportRequest := .write line 0xFFFFFFFFFFFFFFFF#64 data 0
    ∀ k, e.context = some k → ∃ data : Line, ∃ mask : WordMask,
      (∀ n : Fin 16, lineWord data n = if untrusted n then 0 else lineWord b.bytes n) ∧
      (∀ n : Fin 16, mask.getLsbD n = untrusted n) ∧
      (∀ x, s.engine.work = some (.entry (.recordData x)) → s.journal.head ≠ 0xFFFFFFFFFFFFFFFF#64 →
        let q := s.journal.head
        engineIssue s = some ({ s with
          engine := { s.engine with work := some (.entry (.recordData (some q))) }
          journal := { s.journal with head := q + 1, reserved := s.journal.reserved.set k (s.journal.reserved[k] - 1) }
          held := s.held.map fun h => if h.line = e.line ∧ h.holder = k then { h with record := some q } else h },
          full (slotLine q 64) data)) ∧
      (∀ q, s.engine.work = some (.entry (.recordHeader q)) → ∀ epoch, s.contexts[k].epoch = some epoch →
        engineIssue s = some (s, full (slotLine q 0)
          (⟨q, .capture, BitVec.ofNat 8 k.val, 0, e.line, epoch, mask, crc32 data, 0, 0⟩ : Header).encode))

/-! ## Jobs (R19, R20, R25, R28, R30, R39 to R41, R76, R77, R117) -/

/-- The requests of the job steps of one WRITE, and what their issue does: markers are allocated at the head and the OPEN
record sets its context's epoch ID; format and descriptor lines; and, in any state of the journal, the descriptor
invalidated and the result record's 16 bytes with the result counter raised (R13, R19, R25, R76, R117). The result record's
values: the count after the raise, the decision's opcode and tag, the job's termination, reason and counts, the context's
epoch ID for an OPEN, COMMIT or ABORT that was not refused and none otherwise, and free (R116). -/
def Obligations.JobRequestsCarryTheirFields : Prop :=
  let full (line : Addr) (data : Line) : DportRequest := .write line 0xFFFFFFFFFFFFFFFF#64 data 0
  (∀ (s : State) (k : Requester) (j : Job) (rest : List Job), s.jobs = j :: rest → j.owner = .slot k →
    (s.engine.work = some (.write .descriptorInvalidate) →
      engineIssue s = some (s, full (s.windowAddr 0x40) 0)) ∧
    (s.engine.work = some (.write .result) → ∃ d : BitVec 128,
      d = (s.resultFields j k).encode ∧
      engineIssue s = some ({ s with
          slots := s.slots.set k { s.slots[k] with resultCount := s.slots[k].resultCount + 1 } },
        .write (s.windowAddr 0x240) (0xFFFF#64 <<< (16 * k.val)) (d.setWidth 512 <<< (128 * k.val)) 0)) ∧
    (∀ d, s.slots[k].decision = some d →
      s.resultFields j k = ⟨s.slots[k].resultCount + 1, d.word, j.termination, j.reason,
        if j.kind = .openEpoch ∨ j.kind = .commit ∨ j.kind = .abort then s.contexts[k].epoch else none,
        j.lineCount, j.failedCount, s.free⟩)) ∧
  ∀ (s : State) (k : Requester) (j : Job) (rest : List Job) (g : Geometry),
    s.jobs = j :: rest → j.owner = .slot k → s.journal.geometry = some g →
    let slotLine (i : Nat) : Addr := g.base + BitVec.ofNat 32 (128 * i)
    let q := s.journal.head
    let allocated : Journal :=
      { s.journal with head := q + 1, reserved := s.journal.reserved.set k (s.journal.reserved[k] - 1) }
    let marker (h : Header) : DportRequest := full (slotLine (q.toNat % g.slots)) h.encode
    let c := s.contexts[k]
    let context : Byte := BitVec.ofNat 8 k.val
    (q ≠ 0xFFFFFFFFFFFFFFFF#64 →
      (s.engine.work = some (.write .openRecord) → engineIssue s = some ({ s with
          journal := allocated
          contexts := s.contexts.set k { c with epoch := some q, openWritten := true } },
        marker ⟨q, .openRecord, context, 0, 0, q, 0, 0, 0, 0⟩)) ∧
      (s.engine.work = some (.write .commitMarker) → engineIssue s = some ({ s with journal := allocated },
        marker ⟨q, .commit, context, 0, 0, c.epoch.getD 0, 0, 0, 0, 0⟩)) ∧
      (s.engine.work = some (.write .abortedMarker) → engineIssue s = some ({ s with journal := allocated },
        marker ⟨q, .aborted, context, 1, 0, c.epoch.getD 0, 0, 0, BitVec.ofNat 16 c.restored,
          BitVec.ofNat 16 c.failed⟩))) ∧
    (∀ i, s.engine.work = some (.write (.formatSlot i)) → engineIssue s = some (s, full (slotLine i) 0)) ∧
    (s.engine.work = some (.write .descriptorWrite) → ∃ line : Line,
      engineIssue s = some (s, full (s.windowAddr 0x40) line) ∧
      lineWord line 0 = 0x0001B416#32 ∧ lineWord line 1 = g.base ∧ lineWord line 2 = BitVec.ofNat 32 g.slots ∧
      lineWord line 15 = crc32 (line.setWidth 480) ∧ (line >>> 96).setWidth 384 = 0#384)

/-- The result record's fields stand where Table 12-6 places them, at every value of their ranges (R184), and those of the
two status lines where Tables 12-8 and 12-9 place them, with a geometry and with none (R185). -/
def Obligations.ReportLayouts : Prop :=
  (∀ r : ResultFields, r.lineCount ≤ 512 → r.failedCount ≤ 512 → r.free ≤ 65536 →
      let field (low width : Nat) : Nat := (r.encode >>> low).toNat % 2 ^ width
      field 0 8 = r.resultCount.toNat ∧ field 8 8 = r.word.tag.toNat ∧ field 16 4 = r.word.opcode.toNat ∧
      field 20 2 = (match r.termination with
        | .complete => 0
        | .partly => 1
        | .refused => 2) ∧
      field 22 1 = (if r.epoch.isSome then 1 else 0) ∧
      field 24 4 = (match r.reason with
        | .noReason => 0
        | .state => 1
        | .limit => 2
        | .noJournal => 3
        | .journalFull => 4
        | .geometry => 5
        | .opcode => 6
        | .sequence => 7
        | .restoreFailed => 8) ∧
      field 32 8 + 256 * field 28 2 = r.lineCount ∧ field 40 8 + 256 * field 30 2 = r.failedCount ∧
      field 48 16 + 65536 * field 23 1 = r.free ∧ field 64 64 = (r.epoch.getD 0).toNat) ∧
  (∀ (s : State) (n : BitVec 32), (∀ g, s.journal.geometry = some g → g.slots ≤ 65536) →
      s.queue.entries.length ≤ 16 → s.reads.length ≤ 8 → s.held.length ≤ 512 → s.totalReserved ≤ 2056 →
      let field (byte bytes : Nat) : Nat := ((s.statusFirstLine n) >>> (8 * byte)).toNat % 2 ^ (8 * bytes)
      field 0 4 = n.toNat ∧
      field 4 1 = (match s.device with
        | .start => 0
        | .load => 1
        | .scan => 2
        | .playback => 3
        | .run => 4
        | .stopped => 5) ∧
      field 5 1 = (match s.journal.state with
        | .recovering => 0
        | .absent .descriptorInvalid => 1 + 16
        | .absent .scanFailed => 1 + 32
        | .formatting => 2
        | .ready => 3) ∧
      field 6 1 = s.status.causes.toNat ∧ field 7 1 = s.settings.interruptMask.toNat ∧
      field 8 1 = (match s.status.lastError.kind with
        | none => 0
        | some .writeParity => 1
        | some .capturePoison => 2
        | some .captureFail => 3
        | some .unbackedWrite => 4
        | some .patrolUncorrectable => 5
        | some .loadInvalid => 6
        | some .scanFailed => 7) ∧
      field 9 1 = s.queue.entries.length ∧ field 10 1 = s.reads.length ∧ field 11 1 = 0 ∧
      field 12 2 = s.held.length ∧ field 14 2 = s.totalReserved ∧ field 16 4 = s.status.lastError.address.toNat ∧
      (∀ g, s.journal.geometry = some g → field 20 4 = g.base.toNat ∧ field 24 4 = g.slots) ∧
      (s.journal.geometry = none → field 20 4 = 0 ∧ field 24 4 = 0) ∧
      field 28 4 = s.free ∧ field 32 8 = s.journal.head.toNat ∧ field 40 8 = s.journal.tail.toNat ∧
      field 48 2 = s.startup.rolledBack.toNat ∧ field 50 2 = s.startup.linesRestored.toNat ∧
      field 52 2 = s.startup.linesFailed.toNat ∧ field 54 2 = s.status.counters.captures.toNat ∧
      field 56 2 = s.status.counters.conflicts.toNat ∧ field 58 2 = s.status.counters.spaceFaults.toNat ∧
      field 60 2 = s.status.counters.fullRetries.toNat ∧ field 62 2 = 0) ∧
  (∀ (s : State) (n : BitVec 32), s.held.length ≤ 512 →
      let field (byte bytes : Nat) : Nat := ((s.statusSecondLine n) >>> (8 * byte)).toNat % 2 ^ (8 * bytes)
      field 0 4 = n.toNat ∧
      (∀ k : Fin 4,
        field (4 + k.val) 1 = (match s.contexts[k].state with
          | .closed => 0
          | .opened => 1
          | .closing => 2
          | .aborting => 3) + (if s.contexts[k].epoch.isSome then 128 else 0) ∧
        field (8 + 8 * k.val) 8 = (match s.contexts[k].epoch with
          | some q => q.toNat
          | none => 0) ∧
        field (40 + 2 * k.val) 2 = (s.held.filter fun e => e.holder == k).length) ∧
      field 48 2 = s.status.counters.discards.toNat ∧ field 50 2 = s.status.counters.requeues.toNat ∧
      field 52 2 = s.status.counters.parityErrors.toNat ∧ field 54 2 = s.status.counters.poisonReads.toNat ∧
      field 56 2 = s.status.counters.patrolRenews.toNat ∧ field 58 2 = s.status.counters.patrolBad.toNat ∧
      field 60 2 = s.status.counters.restoreFails.toNat ∧ field 62 2 = s.status.counters.abandoned.toNat)

/-- The OPEN record durable ends the hold on its context's entries, and the result is next (R25, R68). The COMMIT marker
durable releases the context's held lines and counts them for the result; it and the ABORTED marker durable close the
context and recompute the live tail with the LOW test; the ABORT's result carries the context's counts, PARTIAL when a
line failed (R14, R28, R30, R42). -/
def Obligations.MarkersDurableMoveTheirContext : Prop :=
  (∀ (s : State) (issue : Byte) (r : DportRequest) (j : Job) (rest : List Job) (k : Requester),
      s.carries issue .writeEngine r → r.isWrite = true → s.jobs = j :: rest → j.owner = .slot k →
      s.engine.work = some (.write .openRecord) →
      exec (.openRecordDurable issue .done) s = .next (afterEvent { releasePort s with
        engine := { s.engine with work := none }
        contexts := s.contexts.set k { s.contexts[k] with openOwed := false }
        jobs := { j with next := .result } :: rest })) ∧
  (∀ (s : State) (issue : Byte) (r : DportRequest) (j : Job) (rest : List Job) (k : Requester),
      s.carries issue .writeEngine r → r.isWrite = true → s.jobs = j :: rest → j.owner = .slot k →
      let c := s.contexts[k]
      let closed (held : List HeldEntry) (job : Job) : State :=
        let u : State := { releasePort s with
          engine := { s.engine with work := none }
          held := held
          contexts := s.contexts.set k { c with state := .closed }
          jobs := job :: rest }
        lowTest s.free s.settings.lowMark { u with journal := { s.journal with tail := u.liveTail } }
      (s.engine.work = some (.write .commitMarker) →
        exec (.commitMarkerDurable issue .done) s = .next (afterEvent
          (closed (s.held.filter fun h => h.holder != k)
            { j with next := .result, lineCount := (s.held.filter fun h => h.holder == k).length }))) ∧
      (s.engine.work = some (.write .abortedMarker) →
        exec (.abortedMarkerDurable issue .done) s = .next (afterEvent
          (closed s.held { j with
            next := .result
            termination := if c.failed = 0 then .complete else .partly
            reason := if c.failed = 0 then .noReason else .restoreFailed
            lineCount := c.restored
            failedCount := c.failed }))))

/-- An abort's restore step: its requests are the header READ of its record's slot, at whose issue the held entry becomes
RESTORING, the data READ of that slot, and the restore WRITE of the held line with all 64 bytes enabled and the mask formed
(R39, R41). After the header read, whatever it returned, the data read; after that the restore write of the held line, with
the data of a good record or with zeros and every word poisoned, counted in RESTORE_FAILS (R39, R40; the moment of the count
is the model's, log 10). The write durable removes the held line, counts it, goes on to the next
restore or to the marker, and lets the reads that waited for it join the Read List (R30, R41, R88). -/
def Obligations.AbortRestoresItsHeldLines : Prop :=
  (∀ (s : State) (j : Job) (rest : List Job) (k : Requester) (line : Addr) (q : Seq) (g : Geometry),
      s.jobs = j :: rest → j.owner = .slot k → s.journal.geometry = some g →
      let slotLine (at_ : Nat) : Addr := g.base + BitVec.ofNat 32 (128 * (q.toNat % g.slots) + at_)
      (s.engine.work = some (.restore line q .header) → engineIssue s = some ({ s with
        held := s.held.map fun h => if h.line = line ∧ h.holder = k then { h with state := .restoring } else h },
        .read (slotLine 0))) ∧
      (∀ header, s.engine.work = some (.restore line q (.data header)) →
        engineIssue s = some (s, .read (slotLine 64))) ∧
      (∀ image poison good, s.engine.work = some (.restore line q (.write image poison good)) →
        engineIssue s = some (s, .write line 0xFFFFFFFFFFFFFFFF#64 image poison))) ∧
  (∀ (s : State) (issue : Byte) (address line : Addr) (q : Seq) (j : Job) (rest : List Job) (k : Requester),
      s.carries issue .writeEngine (.read address) → s.jobs = j :: rest → j.owner = .slot k →
      let at_ (phase : RestorePhase) : State :=
        { releasePort s with engine := { s.engine with work := some (.restore line q phase) } }
      (s.engine.work = some (.restore line q .header) → ∀ resp,
        exec (.restoreHeaderReadResponse issue resp) s = .next (afterEvent (at_ (.data (match resp with
          | .data bytes st => if statusesNamed st = true ∧ uncorrectable st = 0 then some bytes else none
          | _ => none))))) ∧
      (∀ header resp, s.engine.work = some (.restore line q (.data header)) →
        let sound (h : Header) : Prop := header.bind decodeHeader = some h ∧ h.sequence = q ∧ h.kind = .capture ∧
          h.context = BitVec.ofNat 8 k.val ∧ h.epoch = s.contexts[k].epoch.getD 0 ∧ h.line = line
        let good (h : Header) (bytes : Line) (st : Vector WordStatus 16) : Prop :=
          sound h ∧ resp = .data bytes st ∧ statusesNamed st = true ∧ crc32 bytes = h.dataCheck
        (∀ h bytes st, good h bytes st →
          exec (.restoreDataReadResponse issue resp) s =
            .next (afterEvent (at_ (.write bytes (h.poison ||| uncorrectable st) true)))) ∧
        ((¬ ∃ h bytes st, good h bytes st) →
          exec (.restoreDataReadResponse issue resp) s = .next (afterEvent { at_ (.write 0 0xFFFF#16 false) with
            status := { s.status with counters := s.status.counters.raise .restoreFails } })))) ∧
  (∀ (s : State) (issue : Byte) (r : DportRequest) (j : Job) (rest : List Job) (k : Requester) (line : Addr) (q : Seq)
      (image : Line) (poison : WordMask) (good : Bool),
      s.carries issue .writeEngine r → r.isWrite = true → s.jobs = j :: rest → j.owner = .slot k →
      s.engine.work = some (.restore line q (.write image poison good)) →
      let c := s.contexts[k]
      let held := s.held.filter fun h => h.line != line
      exec (.restoreWriteDurable issue .done) s = .next (afterEvent (joinIssuable { releasePort s with
        engine := { s.engine with work := none }
        held := held
        contexts := s.contexts.set k
          (if good then { c with restored := c.restored + 1 } else { c with failed := c.failed + 1 })
        jobs := { j with next := if (newestHeld k held).isSome then .restore else .abortedMarker } :: rest })))

/-- The steps of REINIT: the descriptor invalidated, the slots formatted in ascending order, the descriptor written; at its
durable event the journal is READY with head and live tail 0 and the LOW test is made (R19, R20, R76). The result record
durable ends a job, frees its slot and raises RESULTk (R77, R117). -/
def Obligations.ReinitStepsAndResultRecord : Prop :=
  (∀ (s : State) (issue : Byte) (r : DportRequest) (j : Job) (rest : List Job) (k : Requester) (g : Geometry),
      s.carries issue .writeEngine r → r.isWrite = true → s.jobs = j :: rest → j.owner = .slot k →
      s.journal.geometry = some g →
      let ended (next : JobStep) : State := { releasePort s with
        engine := { s.engine with work := none }, jobs := { j with next := next } :: rest }
      (s.engine.work = some (.write .descriptorInvalidate) →
        exec (.descriptorInvalidateDurable issue .done) s = .next (afterEvent (ended (.formatSlot 0)))) ∧
      (∀ i, s.engine.work = some (.write (.formatSlot i)) →
        exec (.formatLineDurable issue .done) s = .next (afterEvent
          (ended (if i + 1 < g.slots then .formatSlot (i + 1) else .descriptorWrite)))) ∧
      (s.engine.work = some (.write .descriptorWrite) →
        exec (.descriptorWriteDurable issue .done) s = .next (afterEvent (lowTestAtReady { ended .result with
          journal := { s.journal with state := .ready, head := 0, tail := 0 } })))) ∧
  (∀ (s : State) (issue : Byte) (r : DportRequest) (j : Job) (rest : List Job) (k : Requester),
      s.carries issue .writeEngine r → r.isWrite = true → s.jobs = j :: rest → j.owner = .slot k →
      s.engine.work = some (.write .result) →
      exec (.resultRecordDurable issue .done) s = .next (afterEvent (raiseCause (.result k) { releasePort s with
        engine := { s.engine with work := none }
        jobs := rest
        slots := s.slots.set k { s.slots[k] with phase := .idle, decision := none } })))

/-- A status record: its first line's issue raises the status count, clears the flag and fixes the second line; the first
line durable leads to the second; the second durable ends a status job, with a new one placed when the flag is set, or
leads a REPORT to its result (R111, R173, R174, R175). -/
def Obligations.StatusRecordIsWrittenInTwoLines : Prop :=
  ∀ (s : State) (j : Job) (rest : List Job), s.jobs = j :: rest →
    (∀ x, s.engine.work = some (.statusFirst x) →
      let n := s.status.count + 1
      engineIssue s = some ({ s with
          engine := { s.engine with work := some (.statusFirst (some (s.statusSecondLine n))) }
          status := { s.status with count := n, dirty := false } },
        .write (s.windowAddr 0x300) 0xFFFFFFFFFFFFFFFF#64 (s.statusFirstLine n) 0)) ∧
    (∀ second, s.engine.work = some (.statusSecond second) →
      engineIssue s = some (s, .write (s.windowAddr 0x340) 0xFFFFFFFFFFFFFFFF#64 second 0)) ∧
    (∀ issue r, s.carries issue .writeEngine r → r.isWrite = true →
      (∀ second, s.engine.work = some (.statusFirst (some second)) →
        exec (.statusFirstLineDurable issue .done) s = .next (afterEvent { releasePort s with
          engine := { s.engine with work := some (.statusSecond second) } })) ∧
      (∀ second, s.engine.work = some (.statusSecond second) →
        let ended (jobs : List Job) : State :=
          { releasePort s with engine := { s.engine with work := none }, jobs := jobs }
        (∀ k, j.owner = .slot k →
          exec (.statusRecordDurable issue .done) s = .next (afterEvent (ended ({ j with next := .result } :: rest)))) ∧
        (j.owner = .statusUnit → s.status.dirty = false →
          exec (.statusRecordDurable issue .done) s = .next (afterEvent (ended rest))) ∧
        (j.owner = .statusUnit → s.status.dirty = true →
          exec (.statusRecordDurable issue .done) s = .next (afterEvent
            (ended (rest ++ [⟨.statusUnit, .status, .statusRecord, .complete, .noReason, 0, 0⟩]))))))

/-! ## Failures (R79, R129, R130, R137) -/

/-- A failure of a write that the part issues for the journal, for a restore or for its own reports makes the device
STOPPED: STOPPED is raised, a straight read that waits is answered FAULT STOPPED and leaves the list, and every other block
keeps its state (R79, R129, R130, R131). -/
def Obligations.FailedOwnWriteStopsTheDevice : Prop :=
  ∀ (s : State) (issue : Byte) (r : DportRequest) (resp : MemResponse), s.carries issue .writeEngine r →
    r.isWrite = true → resp.failsWrite = true →
    let raised : State := raiseCause .stopped { s with
      device := .stopped, dport := { s.dport with outstanding := none, timer := none } }
    let stopped : State := match s.uport.inProgress with
      | none => raised
      | some q => { raised with
        uport := { s.uport with
          inProgress := none, answers := s.uport.answers ++ [(q.requester, .fault .stopped)] }
        dport := { raised.dport with readList := s.dport.readList.filter (· != .straight) } }
    let stops (c : Instr) : Prop := exec c s = .next (portFreed stopped)
    (∀ (e : PostedEntry) (rest : List PostedEntry), s.queue.entries = e :: rest →
      (∀ q, s.engine.work = some (.entry (.recordData q)) → stops (.recordDataDurable issue resp)) ∧
      (∀ q, s.engine.work = some (.entry (.recordHeader q)) → stops (.recordHeaderDurable issue resp))) ∧
    (∀ (j : Job) (rest : List Job), s.jobs = j :: rest →
      (s.engine.work = some (.write .openRecord) → stops (.openRecordDurable issue resp)) ∧
      (s.engine.work = some (.write .commitMarker) → stops (.commitMarkerDurable issue resp)) ∧
      (s.engine.work = some (.write .abortedMarker) → stops (.abortedMarkerDurable issue resp)) ∧
      (∀ line q image poison good, s.engine.work = some (.restore line q (.write image poison good)) →
        stops (.restoreWriteDurable issue resp)) ∧
      (s.engine.work = some (.write .descriptorInvalidate) → stops (.descriptorInvalidateDurable issue resp)) ∧
      (∀ i, s.engine.work = some (.write (.formatSlot i)) → stops (.formatLineDurable issue resp)) ∧
      (s.engine.work = some (.write .descriptorWrite) → stops (.descriptorWriteDurable issue resp)) ∧
      (s.engine.work = some (.write .result) → stops (.resultRecordDurable issue resp)) ∧
      (∀ x, s.engine.work = some (.statusFirst x) → stops (.statusFirstLineDurable issue resp)) ∧
      (∀ x, s.engine.work = some (.statusSecond x) → stops (.statusRecordDurable issue resp)))

/-- STOPPED is kept against everything but a reset: a request on a free U-port, whichever row presents it, is answered
FAULT STOPPED to its own requester and changes nothing else (on a U-port that is held, which becoming STOPPED does not
leave, the model keeps it waiting, log 3); every other command, a response, an expiry or MEM_READY, changes nothing (R47,
R96, R130 to R133, R138, R153). -/
def Obligations.StoppedIsLeftByResetOnly : Prop :=
  ∀ (s : State) (c : Instr), s.device = .stopped → (∀ cwb ready, c ≠ .reset cwb ready) →
    (∀ q, c.request s = some q → s.uport.inProgress = none → exec c s = .next { s with
      uport := { s.uport with answers := s.uport.answers ++ [(q.requester, .fault .stopped)] } }) ∧
    (∀ q, c.request s = some q → s.uport.inProgress.isSome = true → exec c s = .next { s with
      uport := { s.uport with waiting := s.uport.waiting ++ [q] } }) ∧
    (c.request s = none → exec c s = .next s)

/-- The expiry of the response timer is taken as FAIL to the outstanding request, whichever client issued it (R137), and so
does what a FAIL from the memory does, whichever row brings it: that a response row is handed to the client of the
outstanding request, STRAIGHT_READ_RESPONSE here, is the model's reading (log 1). With nothing outstanding the timer does
not run (log 9). A response with another issue number than the outstanding request's,
one with nothing outstanding, and one in STOPPED is ignored and changes no state (R130, R136). -/
def Obligations.TimeoutsFailAndStrayResponsesAreIgnored : Prop :=
  (∀ s : State,
      (∀ issue client q, s.carries issue client q →
        exec .responseTimerExpiry s = .next (afterEvent (handToClient client .fail (releasePort s))) ∧
        exec .responseTimerExpiry s = exec (.straightReadResponse issue .fail) s) ∧
      (s.dport.outstanding = none → exec .responseTimerExpiry s = .next s)) ∧
  (∀ (s : State) (issue : Byte) (resp : MemResponse),
      (s.device = .stopped ∨ s.dport.outstanding = none ∨ ∃ o, s.dport.outstanding = some o ∧ o.issue ≠ issue) →
      exec (.ignoredResponse issue resp) s = .next s ∧ exec (.straightReadResponse issue resp) s = .next s ∧
        exec (.landing issue) s = .next s)

/-! ## Patrol (R146 to R151) -/

/-- The interval timer's expiry in WAIT begins a step at the cursor's line and makes P wait anew; the response to its READ
ends the step, reports an unreadable line, or goes on to RENEW; RENEW answered DONE counts and ends the step, and anything
else stops the device (R142, R149, R150). At the end the cursor moves to the next line of the patrol order, or stays where
it was placed during the step; then WAIT with the timer started when patrol is enabled, else OFF (R146, R147, R149). -/
def Obligations.PatrolStepRunsAndMovesTheCursor : Prop :=
  (∀ s : State, s.device = .run →
      (∀ j line interval, s.patrol.state = .wait → s.patrol.timer = some interval → s.patrol.cursor = some (j, line) →
        exec .patrolIntervalExpiry s = .next (settle { s with
          patrol := { s.patrol with state := .read, stepLine := some line, timer := none }
          dport := { s.dport with patrolWait := 0 } })) ∧
      (∀ issue r line, s.carries issue .patrol r → s.patrol.stepLine = some line →
        let bad (u : State) : State := raiseError .patrolUncorrectable line (count .patrolBad u)
        (s.patrol.state = .read → r.isRead = true →
          (∀ bytes st, (∀ i : Fin 16, st[i] = .clean) →
            exec (.patrolReadResponse issue (.data bytes st)) s = .next (afterEvent (patrolStepEnds (releasePort s)))) ∧
          (∀ bytes st, (∀ i : Fin 16, st[i] = .clean ∨ st[i] = .corrected) → (∃ i : Fin 16, st[i] = .corrected) →
            exec (.patrolReadResponse issue (.data bytes st)) s = .next (afterEvent { s with
              patrol := { s.patrol with state := .renew }
              dport := { s.dport with outstanding := none, timer := none, patrolWait := 0 } })) ∧
          (∀ resp : MemResponse, (resp.failsRead = true ∨
              ∃ bytes st, resp = .data bytes st ∧ ∃ i : Fin 16, st[i] = .uncorrectable) →
            exec (.patrolReadResponse issue resp) s =
              .next (afterEvent (patrolStepEnds (bad (releasePort s)))))) ∧
        (s.patrol.state = .renew → r.isRenew = true →
          exec (.patrolRenewResponse issue .done) s =
            .next (afterEvent (patrolStepEnds (count .patrolRenews (releasePort s)))) ∧
          (∀ resp : MemResponse, resp.failsWrite = true →
            exec (.patrolRenewResponse issue resp) s = .next (afterEvent (stopDevice (releasePort s))))))) ∧
  (∀ (s : State) (j : Fin 16) (at_ line : Addr), s.device = .run → s.patrol.cursor = some (j, at_) →
      s.patrol.stepLine = some line →
      let active (i : Fin 16) : Prop := s.regions[i].mode ≠ .off
      let t := patrolStepEnds s
      t = { s with patrol := t.patrol } ∧ t.patrol.stepLine = none ∧ t.patrol.placed = false ∧
      (s.patrol.placed = true → t.patrol.cursor = some (j, at_)) ∧
      (s.patrol.placed = false →
        (active j → line < s.regions[j].limit → t.patrol.cursor = some (j, line + 64)) ∧
        (¬ (active j ∧ line < s.regions[j].limit) → ∀ i : Fin 16, active i →
          ((j < i ∧ ∀ x : Fin 16, j < x → x < i → ¬ active x) ∨
            ((∀ x : Fin 16, j < x → ¬ active x) ∧ ∀ x : Fin 16, x < i → ¬ active x)) →
          t.patrol.cursor = some (i, s.regions[i].base))) ∧
      ((s.settings.patrolInterval ≠ 0 ∧ ∃ i, active i) →
        t.patrol.state = .wait ∧ t.patrol.timer = some s.settings.patrolInterval) ∧
      (¬ (s.settings.patrolInterval ≠ 0 ∧ ∃ i, active i) → t.patrol.state = .off ∧ t.patrol.timer = none))

/-! ## The choices after an event (R68, R78, R139 to R143) -/

/-- The free Write Engine takes the entry or the job step that waits alone, and of both the kind it did not take last; it
begins nothing outside RUN (R68, R78). An abort's next restore takes the context's HELD entry with the highest record
sequence, and when none is left the ABORTED marker is next (R30). -/
def Obligations.FreeWriteEngineChoosesItsUnit : Prop :=
  (∀ s : State,
      let begun (u : WorkUnit) (kind : UnitKind) : State :=
        { s with engine := { s.engine with work := some u, lastUnit := kind } }
      let free := s.device = .run ∧ s.engine.work = none
      let entryWaits (e : PostedEntry) : Prop := (∃ rest, s.queue.entries = e :: rest) ∧
        ∀ k, e.context = some k → s.contexts[k].openOwed = false
      let first (e : PostedEntry) : EntryStep := if e.cls = .capture then .oldRead else .dataWrite
      (¬ free → chooseUnit s = s) ∧
      (free → (∀ e, ¬ entryWaits e) → s.jobs = [] → chooseUnit s = s) ∧
      (free → ∀ e, entryWaits e → (s.jobs = [] ∨ s.engine.lastUnit = .job) →
        chooseUnit s = begun (.entry (first e)) .entry) ∧
      (free → ∀ j rest, s.jobs = j :: rest → ((∀ e, ¬ entryWaits e) ∨ s.engine.lastUnit = .entry) →
        chooseUnit s = begun (s.jobUnit j) .job)) ∧
  (∀ (s : State) (j : Job) (k : Requester), j.owner = .slot k → j.next = .restore →
      (∀ e ∈ s.held, e.holder = k → e.state = .held → e.record.isSome = true) →
      (∀ line q, s.jobUnit j = .restore line q .header →
        (∃ e ∈ s.held, e.line = line ∧ e.holder = k ∧ e.state = .held ∧ e.record = some q) ∧
        ∀ e ∈ s.held, e.holder = k → e.state = .held → ∀ p, e.record = some p → p ≤ q) ∧
      ((∃ e ∈ s.held, e.holder = k ∧ e.state = .held) → ∃ line q, s.jobUnit j = .restore line q .header) ∧
      ((∀ e ∈ s.held, e.holder = k → e.state ≠ .held) → s.jobUnit j = .write .abortedMarker))

/-- The grant of a free D-port: P when it has waited for 16 grants; else of W and R the one the mark does not name when both
wait, the one that waits alone, and P when neither waits; the Start-up Controller alone before RUN; none in START and
STOPPED. The issue number is raised and carried (R136, R137, R139 to R143; which of the two comes first is log 5). The
Start-up Controller's requests: the configuration line, the two region lines, the descriptor; each slot's header line; of
each record played back the header line, the data line, and the restore WRITE with all 64 bytes enabled; and for each
unfinished epoch the RECOVERY marker at the head sequence, which its issue raises with no reservation drawn on (R157, R158,
R159, R160, R166, R167). -/
def Obligations.FreePortIsGrantedByTheRules : Prop :=
  (∀ s : State,
      let asks (step : StartupStep) (q : DportRequest) : Prop := s.startup.step = step → startupIssue s = some (s, q)
      (s.startup.step = .idle → startupIssue s = none) ∧
      asks .readConfiguration (.read (s.windowAddr 0x000)) ∧
      asks (.readRegions false) (.read (s.windowAddr 0x100)) ∧ asks (.readRegions true) (.read (s.windowAddr 0x140)) ∧
      asks .readDescriptor (.read (s.windowAddr 0x040)) ∧
      (∀ line image poison good, asks (.playWrite line image poison good)
        (.write line 0xFFFFFFFFFFFFFFFF#64 image poison)) ∧
      ∀ g, s.journal.geometry = some g →
        let slotLine (q : Seq) (at_ : Nat) : Addr := g.base + BitVec.ofNat 32 (128 * (q.toNat % g.slots) + at_)
        asks .readSlot (.read (g.base + BitVec.ofNat 32 (128 * s.startup.nextSlot))) ∧
        (∀ q, s.startup.playback[s.startup.position]? = some q →
          asks .playHeader (.read (slotLine q 0)) ∧ ∀ header, asks (.playData header) (.read (slotLine q 64))) ∧
        (∀ i u, s.startup.step = .marker i → s.startup.unfinished[i]? = some u →
          s.journal.head ≠ 0xFFFFFFFFFFFFFFFF#64 →
          let q := s.journal.head
          startupIssue s = some ({ s with journal := { s.journal with head := q + 1 } },
            .write (slotLine q 0) 0xFFFFFFFFFFFFFFFF#64
              (⟨q, .aborted, u.context, 2, 0, u.epoch, 0, 0, BitVec.ofNat 16 u.restored,
                BitVec.ofNat 16 u.failed⟩ : Header).encode 0))) ∧
  ∀ s : State, s.dport.outstanding = none →
    let issued (client : Client) (q : DportRequest) (u : State) : State := { u with dport := { u.dport with
      outstanding := some ⟨client, q, u.dport.issueNumber + 1⟩
      issueNumber := u.dport.issueNumber + 1, timer := some 256 } }
    let marked (m : GrantMark) (u : State) : State := { u with dport := { u.dport with
      lastGrant := m
      patrolWait := if s.patrolRequest.isSome then s.dport.patrolWait + 1 else s.dport.patrolWait } }
    let toW (t : State) : Prop := ∀ u q, engineIssue s = some (u, q) → t = issued .writeEngine q (marked .w u)
    let toR (t : State) : Prop := ∀ m rest, s.dport.readList = m :: rest →
      let u := marked .r { s with dport := { s.dport with readList := rest } }
      (∀ r, m = .straight → s.uport.inProgress = some r →
        t = issued .straightRead (.read (r.address &&& 0xFFFFFFC0#32)) u) ∧
      (∀ key, m = .deferred key → t = issued (.deferredRead key) (.read (key.address &&& 0xFFFFFFC0#32)) { u with
        reads := s.reads.map fun d => if d.key = key then { d with state := .issued, stale := false } else d })
    let toP (t : State) : Prop := ∀ q, s.patrolRequest = some q → t = issued .patrol q s
    let wWaits := s.engine.work.isSome
    let rWaits := s.dport.readList ≠ []
    let pDue := s.patrolRequest.isSome ∧ s.dport.patrolWait = 16
    (s.device = .start ∨ s.device = .stopped → grant s = s) ∧
    (s.device = .load ∨ s.device = .scan ∨ s.device = .playback →
      ∀ u q, startupIssue s = some (u, q) → grant s = issued .startup q u) ∧
    (s.device = .run →
      (pDue → toP (grant s)) ∧
      (¬ pDue → wWaits ∧ rWaits → (s.dport.lastGrant = .r → toW (grant s)) ∧ (s.dport.lastGrant = .w → toR (grant s))) ∧
      (¬ pDue → wWaits ∧ ¬ rWaits → toW (grant s)) ∧
      (¬ pDue → ¬ wWaits ∧ rWaits → toR (grant s)) ∧
      (¬ wWaits ∧ ¬ rWaits → toP (grant s)) ∧
      (¬ wWaits ∧ ¬ rWaits → s.patrolRequest = none → grant s = s))

/-! ## Journal accounting, causes and counters (R9, R11 to R16, R128, R171 to R174, R178) -/

/-- Used and free as R9 gives them; a claim as R12 judges it, raising the context's reserved count by n and lowering free by
n (R11); and the live tail of R14: the lowest OPEN-record sequence among the contexts that are not CLOSED and whose OPEN
record is written, or the head sequence when there is none. -/
def Obligations.SpaceAccountingAndLiveTail : Prop :=
  (∀ (s : State) (g : Geometry) (k : Requester) (n : Nat), s.journal.geometry = some g → s.journal.tail ≤ s.journal.head →
      let counting := s.journal.state = .ready ∨ s.journal.state = .formatting
      let reserved := s.journal.reserved[0] + s.journal.reserved[1] + s.journal.reserved[2] + s.journal.reserved[3]
      (counting → s.used = s.journal.head.toNat - s.journal.tail.toNat ∧ s.free = g.slots - s.used - reserved) ∧
      (¬ counting → s.used = 0 ∧ s.free = 0) ∧
      (s.canClaim n = true ↔ s.journal.state = .ready ∧ n ≤ s.free) ∧
      (s.canClaim n = true → (claim k n s).journal = { s.journal with
          reserved := s.journal.reserved.set k (s.journal.reserved[k] + n) } ∧
        (claim k n s).used = s.used ∧ (claim k n s).free = s.free - n)) ∧
  (∀ s : State,
      let live (k : Fin 4) (q : Seq) : Prop :=
        s.contexts[k].state ≠ .closed ∧ s.contexts[k].openWritten = true ∧ s.contexts[k].epoch = some q
      ((¬ ∃ k q, live k q) → s.liveTail = s.journal.head) ∧
      ((∃ k q, live k q) → (∃ k, live k s.liveTail) ∧ ∀ k q, live k q → s.liveTail ≤ q))

/-- The space law (R15) is kept, by its operations and by every step. A claim that succeeds keeps used plus reserved within
S, an allocation of a reserved slot leaves their sum as it was, and a recomputed live tail at or above the old one only
lowers used. Every step keeps `State.Accounted`: the space law itself, the live tail's place (R14), the reserved balance of
every context (R31), no line held and nothing reserved by a CLOSED context (R31, R34), the line limits (R33), and the
agreement of contexts, commands in flight, captures and held entries that these rest on; short of the last 64-bit sequence,
after which the head is a free value (log 6). -/
def Obligations.EventsKeepTheSpaceLaw : Prop :=
  (∀ (s : State) (g : Geometry) (k : Requester) (n : Nat), s.journal.geometry = some g → s.journal.state = .ready →
    s.journal.tail ≤ s.journal.head → s.used + s.totalReserved ≤ g.slots →
    (s.canClaim n = true → (claim k n s).used + (claim k n s).totalReserved ≤ g.slots) ∧
    (0 < s.journal.reserved[k] → s.journal.head ≠ 0xFFFFFFFFFFFFFFFF#64 →
      (allocate k s).used + (allocate k s).totalReserved = s.used + s.totalReserved ∧
      (allocate k s).free = s.free) ∧
    (s.journal.tail ≤ s.liveTail → s.liveTail ≤ s.journal.head →
      (recomputeTail s).journal.tail = s.liveTail ∧ (recomputeTail s).used ≤ s.used ∧
      (recomputeTail s).used + (recomputeTail s).totalReserved ≤ g.slots)) ∧
  (∀ s t : State, s.Coherent → s.StartupCoherent → s.JobsCoherent → s.Accounted →
    s.journal.head ≠ 0xFFFFFFFFFFFFFFFF#64 → step s = .next t → t.Accounted)

/-- The LOW test (R16): LOW is raised when the journal is READY and an event took free from at or above the low mark to
below it, never at a low mark of 0, and when the journal becomes READY with free below the mark; nothing else changes. -/
def Obligations.LowIsRaisedOnACrossing : Prop :=
  ∀ (s : State) (freeBefore markBefore : Nat),
    (s.journal.state = .ready → markBefore ≤ freeBefore → s.free < s.settings.lowMark →
      lowTest freeBefore markBefore s = raiseCause .low s) ∧
    (¬ (s.journal.state = .ready ∧ markBefore ≤ freeBefore ∧ s.free < s.settings.lowMark) →
      lowTest freeBefore markBefore s = s) ∧
    (s.settings.lowMark = 0 → lowTest freeBefore markBefore s = s ∧ lowTestAtReady s = s) ∧
    (s.free < s.settings.lowMark → lowTestAtReady s = raiseCause .low s) ∧
    (s.settings.lowMark ≤ s.free → lowTestAtReady s = s)

/-- A raise of a cause makes it pending and touches no other cause; a raise of ERROR also replaces the last-error record.
When the pending set changes, and at every raise of ERROR, the status-dirty flag is set, and a status job is placed at the
end when the flag was clear and none stood in the list (R128, R171, R173, R174). -/
def Obligations.RaisesSetTheFlagAndPlaceOneStatusJob : Prop :=
  ∀ s : State,
    let job : Job := ⟨.statusUnit, .status, .statusRecord, .complete, .noReason, 0, 0⟩
    let jobs := if s.status.dirty = false ∧ (∀ j ∈ s.jobs, j.owner ≠ .statusUnit) then s.jobs ++ [job] else s.jobs
    let bit (c : Cause) : Nat := match c with
      | .result k => k.val
      | .error => 4
      | .low => 5
      | .started => 6
      | .stopped => 7
    (∀ c : Cause,
      let causes := s.status.causes ||| (1#8 <<< bit c)
      (s.status.causes.getLsbD (bit c) = true → raiseCause c s = s) ∧
      (s.status.causes.getLsbD (bit c) = false →
        raiseCause c s = { s with status := { s.status with causes := causes, dirty := true }, jobs := jobs })) ∧
    (∀ kind address, raiseError kind address s = { s with
      status := { s.status with
        causes := s.status.causes ||| 0x10#8, dirty := true, lastError := ⟨some kind, address⟩ }
      jobs := jobs })

/-- INT_N is asserted exactly when STOPPED is pending or a pending cause is set whose mask bit is set (R172). -/
def Obligations.InterruptFollowsTheUnmaskedCauses : Prop :=
  ∀ s : State, s.interrupt = true ↔
    s.status.causes.getLsbD 7 = true ∨
      ∃ n : Fin 8, s.status.causes.getLsbD n = true ∧ s.settings.interruptMask.getLsbD n = true

/-- Each of the twelve counters rises by 1 at its event and stays at 65,535, and no other counter moves (R178). -/
def Obligations.CountersRiseAndSaturate : Prop :=
  ∀ (c d : Counter) (s : State),
    let before := (s.status.counters.get d).toNat
    let after := ((count c s).status.counters.get d).toNat
    (d ≠ c → after = before) ∧ (d = c → before < 65535 → after = before + 1) ∧ (d = c → before = 65535 → after = 65535) ∧
    count c s = { s with status := { s.status with counters := (count c s).status.counters } }

/-! ## Journal lines and memory words (R4, R6, R17, R122, R180) -/

/-- The CRC-32 of R6: the remainder starts at all ones, takes each bit from the first byte's least significant on through
the reflected generator 04C11DB7h, and is complemented; the check of "123456789" is CBF43926h. A header line has its fields
where Table 12-1 places them, zeros in the other bytes and the check over bytes 0 to 59 (R4, R180); a line is read as a
header exactly when its check matches and its kind byte holds a kind, with the fields at those places, whatever the bytes
marked zero hold (R6, R180). So every header line read back gives the fields it was written with, and every descriptor the
geometry it was written with, wherever R17 allows a ring (R17, R181). -/
def Obligations.JournalLinesReadBackAsWritten : Prop :=
  let field (l : Line) (byte bytes : Nat) : Nat := (l >>> (8 * byte)).toNat % 2 ^ (8 * bytes)
  let code (kind : RecordKind) : Nat := match kind with
    | .openRecord => 1
    | .capture => 2
    | .commit => 3
    | .aborted => 4
  let holds (l : Line) (h : Header) : Prop :=
    field l 0 8 = h.sequence.toNat ∧ field l 8 1 = code h.kind ∧ field l 9 1 = h.context.toNat ∧
    field l 10 1 = h.origin.toNat ∧ field l 12 4 = h.line.toNat ∧ field l 16 8 = h.epoch.toNat ∧
    field l 24 2 = h.poison.toNat ∧ field l 28 4 = h.dataCheck.toNat ∧ field l 32 2 = h.restored.toNat ∧
    field l 34 2 = h.failed.toNat ∧ field l 60 4 = (crc32 (l.setWidth 480)).toNat
  (∀ (w : Nat) (v : BitVec w), ∃ r : Nat → Word, r 0 = 0xFFFFFFFF#32 ∧ crc32 v = ~~~ r w ∧
    ∀ n < w, r (n + 1) = if (r n).getLsbD 0 = v.getLsbD n then r n >>> 1
      else (r n >>> 1) ^^^ (0x04C11DB7#32).reverse) ∧
  crc32 (0x393837363534333231#72) = 0xCBF43926#32 ∧
  (∀ h : Header, holds h.encode h ∧ field h.encode 11 1 = 0 ∧ field h.encode 26 2 = 0 ∧ field h.encode 36 24 = 0) ∧
  (∀ (l : Line) (h : Header), decodeHeader l = some h ↔ holds l h) ∧
  (∀ h : Header, decodeHeader h.encode = some h) ∧
  (∀ (g : Geometry) (window : Nat), g.base.toNat % 128 = 0 → 64 ≤ g.slots → g.slots ≤ 65536 →
      g.base.toNat + 128 * g.slots ≤ 2 ^ 32 → (g.base.toNat + 128 * g.slots ≤ window ∨ window + 4096 ≤ g.base.toNat) →
      decodeDescriptor window g.encode = some g)

/-- How the memory stores one word of a WRITE by its byte enables and its poison mark, each word of a line by its own, and
how a READ reports the word afterwards (R122). -/
def Obligations.MemoryStoresWordsByEnablesAndMark : Prop :=
  (∀ (enabled : BitVec 4) (value : Word) (mark : Bool) (old : StoredWord),
      let new := storeWord enabled value mark old
      (∀ i < 32, new.value.getLsbD i =
        if enabled.getLsbD (i / 8) then value.getLsbD i else old.value.getLsbD i) ∧
      (enabled ≠ 0 → mark = true → new.poisoned = true) ∧
      (enabled = 0xF#4 → mark = false → new.poisoned = false) ∧
      (enabled ≠ 0xF#4 → mark = false → new.poisoned = old.poisoned) ∧
      (enabled = 0 → new = old)) ∧
  (∀ (byteMask : ByteMask) (data : Line) (poison : WordMask) (old : StoredLine) (n : Fin 16),
      let stored := storeLine byteMask data poison old
      stored[n] = storeWord (byteMask.extractLsb' (4 * n.val) 4) (data.extractLsb' (32 * n.val) 32)
        (poison.getLsbD n.val) old[n] ∧
      ((storedStatuses stored)[n] = .uncorrectable ↔ stored[n].poisoned = true))

/-! ## Invariants -/

/-- The sizes and the agreements of `State.Coherent` are kept by every step: the queue within 16, the table within 8, the
held lines within 512 and no line twice, the Read List's members WAITING and none twice, the timer and the issue number
with the outstanding request, the patrol wait count within 16. And those of `State.JobsCoherent`: jobs of Table 4-3 only, at
most six places in use, one job or close entry for an EXECUTING slot and none for an IDLE one, at most one status job and
one while the status-dirty flag is set, format work in FORMATTING and of one slot only (R10, R73, R75, R76, R174). -/
def Obligations.EveryStepKeepsThePartCoherent : Prop :=
  (∀ s t : State, s.Coherent → step s = .next t → t.Coherent) ∧
  (∀ s t : State, s.StartupCoherent → s.JobsCoherent → step s = .next t → t.JobsCoherent)

/-- What holds before RUN, and of the Start-up Controller, is kept by every step. -/
def Obligations.EveryStepKeepsTheStartupCoherent : Prop :=
  ∀ s t : State, s.StartupCoherent → step s = .next t → t.StartupCoherent

/-- No client waits on a free D-port, and no unit waits for a free Write Engine, after any step (R78, R141). -/
def Obligations.EveryStepLeavesThePartSettled : Prop :=
  ∀ s t : State, s.Coherent → s.StartupCoherent → s.Settled → step s = .next t → t.Settled

/-- The part after reset is coherent, accounted and settled. -/
def Obligations.ResetStateIsCoherent : Prop :=
  State.reset.Coherent ∧ State.reset.StartupCoherent ∧ State.reset.Settled ∧ State.reset.JobsCoherent ∧
    State.reset.Accounted

/-- The device state moves by Table 10-1 only: a command other than a reset keeps it or makes one of the table's moves, and
a reset enters START, or LOAD at once (R154, R156). -/
def Obligations.DeviceStateMovesByItsTable : Prop :=
  ∀ (s t : State) (c : Instr), s.StartupCoherent → exec c s = .next t →
    ((∀ cwb ready, c ≠ .reset cwb ready) → s.device.mayBecome t.device = true) ∧
    (∀ cwb, c = .reset cwb false → t.device = .start) ∧ (∀ cwb, c = .reset cwb true → t.device = .load)
end

