-- ==== Sys2Proof/Laws/State.lean ====
section
/-! SUPPORT. For every operation on the state: the fields it leaves as they were. Each lemma is a conjunction, one equation
per field, which `simp` uses equation by equation. -/

namespace Sys2Proof.Machine

/-! ## Status Unit -/

/-- `placeJob` changes no other field of the state than: jobs. -/
@[simp] theorem placeJob_frame (j : Job) (s : State) :
    (placeJob j s).pending = s.pending ∧ (placeJob j s).device = s.device ∧
    (placeJob j s).cwb = s.cwb ∧ (placeJob j s).memReady = s.memReady ∧
    (placeJob j s).uport = s.uport ∧ (placeJob j s).regions = s.regions ∧
    (placeJob j s).settings = s.settings ∧ (placeJob j s).contexts = s.contexts ∧
    (placeJob j s).held = s.held ∧ (placeJob j s).journal = s.journal ∧
    (placeJob j s).queue = s.queue ∧ (placeJob j s).engine = s.engine ∧
    (placeJob j s).reads = s.reads ∧ (placeJob j s).slots = s.slots ∧
    (placeJob j s).patrol = s.patrol ∧ (placeJob j s).dport = s.dport ∧
    (placeJob j s).startup = s.startup ∧ (placeJob j s).status = s.status ∧
    (placeJob j s).freeDraws = s.freeDraws := by
  refine ⟨rfl, rfl, rfl, rfl, rfl, rfl, rfl, rfl, rfl, rfl, rfl, rfl, rfl, rfl, rfl, rfl, rfl, rfl, rfl⟩

/-- `setDirty` changes no other field of the state than: jobs, status. -/
@[simp] theorem setDirty_frame (s : State) :
    (setDirty s).pending = s.pending ∧ (setDirty s).device = s.device ∧
    (setDirty s).cwb = s.cwb ∧ (setDirty s).memReady = s.memReady ∧
    (setDirty s).uport = s.uport ∧ (setDirty s).regions = s.regions ∧
    (setDirty s).settings = s.settings ∧ (setDirty s).contexts = s.contexts ∧
    (setDirty s).held = s.held ∧ (setDirty s).journal = s.journal ∧
    (setDirty s).queue = s.queue ∧ (setDirty s).engine = s.engine ∧
    (setDirty s).reads = s.reads ∧ (setDirty s).slots = s.slots ∧
    (setDirty s).patrol = s.patrol ∧ (setDirty s).dport = s.dport ∧
    (setDirty s).startup = s.startup ∧ (setDirty s).freeDraws = s.freeDraws := by
  unfold setDirty; try dsimp only
  (repeat' split) <;> simp

/-- `setCauses` changes no other field of the state than: jobs, status. -/
@[simp] theorem setCauses_frame (c : Byte) (s : State) :
    (setCauses c s).pending = s.pending ∧ (setCauses c s).device = s.device ∧
    (setCauses c s).cwb = s.cwb ∧ (setCauses c s).memReady = s.memReady ∧
    (setCauses c s).uport = s.uport ∧ (setCauses c s).regions = s.regions ∧
    (setCauses c s).settings = s.settings ∧ (setCauses c s).contexts = s.contexts ∧
    (setCauses c s).held = s.held ∧ (setCauses c s).journal = s.journal ∧
    (setCauses c s).queue = s.queue ∧ (setCauses c s).engine = s.engine ∧
    (setCauses c s).reads = s.reads ∧ (setCauses c s).slots = s.slots ∧
    (setCauses c s).patrol = s.patrol ∧ (setCauses c s).dport = s.dport ∧
    (setCauses c s).startup = s.startup ∧ (setCauses c s).freeDraws = s.freeDraws := by
  unfold setCauses; try dsimp only
  (repeat' split) <;> simp

/-- `raiseCause` changes no other field of the state than: jobs, status. -/
@[simp] theorem raiseCause_frame (c : Cause) (s : State) :
    (raiseCause c s).pending = s.pending ∧ (raiseCause c s).device = s.device ∧
    (raiseCause c s).cwb = s.cwb ∧ (raiseCause c s).memReady = s.memReady ∧
    (raiseCause c s).uport = s.uport ∧ (raiseCause c s).regions = s.regions ∧
    (raiseCause c s).settings = s.settings ∧ (raiseCause c s).contexts = s.contexts ∧
    (raiseCause c s).held = s.held ∧ (raiseCause c s).journal = s.journal ∧
    (raiseCause c s).queue = s.queue ∧ (raiseCause c s).engine = s.engine ∧
    (raiseCause c s).reads = s.reads ∧ (raiseCause c s).slots = s.slots ∧
    (raiseCause c s).patrol = s.patrol ∧ (raiseCause c s).dport = s.dport ∧
    (raiseCause c s).startup = s.startup ∧ (raiseCause c s).freeDraws = s.freeDraws := by
  simp [raiseCause]

/-- `raiseError` changes no other field of the state than: jobs, status. -/
@[simp] theorem raiseError_frame (kind : ErrorKind) (addr : Addr) (s : State) :
    (raiseError kind addr s).pending = s.pending ∧ (raiseError kind addr s).device = s.device ∧
    (raiseError kind addr s).cwb = s.cwb ∧ (raiseError kind addr s).memReady = s.memReady ∧
    (raiseError kind addr s).uport = s.uport ∧ (raiseError kind addr s).regions = s.regions ∧
    (raiseError kind addr s).settings = s.settings ∧ (raiseError kind addr s).contexts = s.contexts ∧
    (raiseError kind addr s).held = s.held ∧ (raiseError kind addr s).journal = s.journal ∧
    (raiseError kind addr s).queue = s.queue ∧ (raiseError kind addr s).engine = s.engine ∧
    (raiseError kind addr s).reads = s.reads ∧ (raiseError kind addr s).slots = s.slots ∧
    (raiseError kind addr s).patrol = s.patrol ∧ (raiseError kind addr s).dport = s.dport ∧
    (raiseError kind addr s).startup = s.startup ∧ (raiseError kind addr s).freeDraws = s.freeDraws := by
  simp [raiseError]

/-- `acknowledge` changes no other field of the state than: jobs, status. -/
@[simp] theorem acknowledge_frame (ack : Byte) (s : State) :
    (acknowledge ack s).pending = s.pending ∧ (acknowledge ack s).device = s.device ∧
    (acknowledge ack s).cwb = s.cwb ∧ (acknowledge ack s).memReady = s.memReady ∧
    (acknowledge ack s).uport = s.uport ∧ (acknowledge ack s).regions = s.regions ∧
    (acknowledge ack s).settings = s.settings ∧ (acknowledge ack s).contexts = s.contexts ∧
    (acknowledge ack s).held = s.held ∧ (acknowledge ack s).journal = s.journal ∧
    (acknowledge ack s).queue = s.queue ∧ (acknowledge ack s).engine = s.engine ∧
    (acknowledge ack s).reads = s.reads ∧ (acknowledge ack s).slots = s.slots ∧
    (acknowledge ack s).patrol = s.patrol ∧ (acknowledge ack s).dport = s.dport ∧
    (acknowledge ack s).startup = s.startup ∧ (acknowledge ack s).freeDraws = s.freeDraws := by
  simp [acknowledge]

/-- `count` changes no other field of the state than: status. -/
@[simp] theorem count_frame (c : Counter) (s : State) :
    (count c s).pending = s.pending ∧ (count c s).device = s.device ∧
    (count c s).cwb = s.cwb ∧ (count c s).memReady = s.memReady ∧
    (count c s).uport = s.uport ∧ (count c s).regions = s.regions ∧
    (count c s).settings = s.settings ∧ (count c s).contexts = s.contexts ∧
    (count c s).held = s.held ∧ (count c s).journal = s.journal ∧
    (count c s).queue = s.queue ∧ (count c s).engine = s.engine ∧
    (count c s).jobs = s.jobs ∧ (count c s).reads = s.reads ∧
    (count c s).slots = s.slots ∧ (count c s).patrol = s.patrol ∧
    (count c s).dport = s.dport ∧ (count c s).startup = s.startup ∧
    (count c s).freeDraws = s.freeDraws := by
  refine ⟨rfl, rfl, rfl, rfl, rfl, rfl, rfl, rfl, rfl, rfl, rfl, rfl, rfl, rfl, rfl, rfl, rfl, rfl, rfl⟩

/-- `countIf` changes no other field of the state than: status. -/
@[simp] theorem countIf_frame (b : Bool) (c : Counter) (s : State) :
    (countIf b c s).pending = s.pending ∧ (countIf b c s).device = s.device ∧
    (countIf b c s).cwb = s.cwb ∧ (countIf b c s).memReady = s.memReady ∧
    (countIf b c s).uport = s.uport ∧ (countIf b c s).regions = s.regions ∧
    (countIf b c s).settings = s.settings ∧ (countIf b c s).contexts = s.contexts ∧
    (countIf b c s).held = s.held ∧ (countIf b c s).journal = s.journal ∧
    (countIf b c s).queue = s.queue ∧ (countIf b c s).engine = s.engine ∧
    (countIf b c s).jobs = s.jobs ∧ (countIf b c s).reads = s.reads ∧
    (countIf b c s).slots = s.slots ∧ (countIf b c s).patrol = s.patrol ∧
    (countIf b c s).dport = s.dport ∧ (countIf b c s).startup = s.startup ∧
    (countIf b c s).freeDraws = s.freeDraws := by
  unfold countIf; try dsimp only
  (repeat' split) <;> simp

/-- `countTimes` changes no other field of the state than: status. -/
@[simp] theorem countTimes_frame (c : Counter) (n : Nat) (s : State) :
    (countTimes c n s).pending = s.pending ∧ (countTimes c n s).device = s.device ∧
    (countTimes c n s).cwb = s.cwb ∧ (countTimes c n s).memReady = s.memReady ∧
    (countTimes c n s).uport = s.uport ∧ (countTimes c n s).regions = s.regions ∧
    (countTimes c n s).settings = s.settings ∧ (countTimes c n s).contexts = s.contexts ∧
    (countTimes c n s).held = s.held ∧ (countTimes c n s).journal = s.journal ∧
    (countTimes c n s).queue = s.queue ∧ (countTimes c n s).engine = s.engine ∧
    (countTimes c n s).jobs = s.jobs ∧ (countTimes c n s).reads = s.reads ∧
    (countTimes c n s).slots = s.slots ∧ (countTimes c n s).patrol = s.patrol ∧
    (countTimes c n s).dport = s.dport ∧ (countTimes c n s).startup = s.startup ∧
    (countTimes c n s).freeDraws = s.freeDraws := by
  induction n generalizing s with
  | zero => simp [countTimes]
  | succ n ih => simp [countTimes, ih]

/-- `clearCounters` changes no other field of the state than: status. -/
@[simp] theorem clearCounters_frame (s : State) :
    (clearCounters s).pending = s.pending ∧ (clearCounters s).device = s.device ∧
    (clearCounters s).cwb = s.cwb ∧ (clearCounters s).memReady = s.memReady ∧
    (clearCounters s).uport = s.uport ∧ (clearCounters s).regions = s.regions ∧
    (clearCounters s).settings = s.settings ∧ (clearCounters s).contexts = s.contexts ∧
    (clearCounters s).held = s.held ∧ (clearCounters s).journal = s.journal ∧
    (clearCounters s).queue = s.queue ∧ (clearCounters s).engine = s.engine ∧
    (clearCounters s).jobs = s.jobs ∧ (clearCounters s).reads = s.reads ∧
    (clearCounters s).slots = s.slots ∧ (clearCounters s).patrol = s.patrol ∧
    (clearCounters s).dport = s.dport ∧ (clearCounters s).startup = s.startup ∧
    (clearCounters s).freeDraws = s.freeDraws := by
  refine ⟨rfl, rfl, rfl, rfl, rfl, rfl, rfl, rfl, rfl, rfl, rfl, rfl, rfl, rfl, rfl, rfl, rfl, rfl, rfl⟩

/-- `takeSnapshot` changes no other field of the state than: status. -/
@[simp] theorem takeSnapshot_frame (s : State) :
    (takeSnapshot s).pending = s.pending ∧ (takeSnapshot s).device = s.device ∧
    (takeSnapshot s).cwb = s.cwb ∧ (takeSnapshot s).memReady = s.memReady ∧
    (takeSnapshot s).uport = s.uport ∧ (takeSnapshot s).regions = s.regions ∧
    (takeSnapshot s).settings = s.settings ∧ (takeSnapshot s).contexts = s.contexts ∧
    (takeSnapshot s).held = s.held ∧ (takeSnapshot s).journal = s.journal ∧
    (takeSnapshot s).queue = s.queue ∧ (takeSnapshot s).engine = s.engine ∧
    (takeSnapshot s).jobs = s.jobs ∧ (takeSnapshot s).reads = s.reads ∧
    (takeSnapshot s).slots = s.slots ∧ (takeSnapshot s).patrol = s.patrol ∧
    (takeSnapshot s).dport = s.dport ∧ (takeSnapshot s).startup = s.startup ∧
    (takeSnapshot s).freeDraws = s.freeDraws := by
  refine ⟨rfl, rfl, rfl, rfl, rfl, rfl, rfl, rfl, rfl, rfl, rfl, rfl, rfl, rfl, rfl, rfl, rfl, rfl, rfl⟩

/-! ## Contexts and held lines -/

/-- `updContext` changes no other field of the state than: contexts. -/
@[simp] theorem updContext_frame (k : Requester) (f : Context → Context) (s : State) :
    (updContext k f s).pending = s.pending ∧ (updContext k f s).device = s.device ∧
    (updContext k f s).cwb = s.cwb ∧ (updContext k f s).memReady = s.memReady ∧
    (updContext k f s).uport = s.uport ∧ (updContext k f s).regions = s.regions ∧
    (updContext k f s).settings = s.settings ∧ (updContext k f s).held = s.held ∧
    (updContext k f s).journal = s.journal ∧ (updContext k f s).queue = s.queue ∧
    (updContext k f s).engine = s.engine ∧ (updContext k f s).jobs = s.jobs ∧
    (updContext k f s).reads = s.reads ∧ (updContext k f s).slots = s.slots ∧
    (updContext k f s).patrol = s.patrol ∧ (updContext k f s).dport = s.dport ∧
    (updContext k f s).startup = s.startup ∧ (updContext k f s).status = s.status ∧
    (updContext k f s).freeDraws = s.freeDraws := by
  refine ⟨rfl, rfl, rfl, rfl, rfl, rfl, rfl, rfl, rfl, rfl, rfl, rfl, rfl, rfl, rfl, rfl, rfl, rfl, rfl⟩

/-- `insertHeld` changes no other field of the state than: held. -/
@[simp] theorem insertHeld_frame (line : Addr) (k : Requester) (s : State) :
    (insertHeld line k s).pending = s.pending ∧ (insertHeld line k s).device = s.device ∧
    (insertHeld line k s).cwb = s.cwb ∧ (insertHeld line k s).memReady = s.memReady ∧
    (insertHeld line k s).uport = s.uport ∧ (insertHeld line k s).regions = s.regions ∧
    (insertHeld line k s).settings = s.settings ∧ (insertHeld line k s).contexts = s.contexts ∧
    (insertHeld line k s).journal = s.journal ∧ (insertHeld line k s).queue = s.queue ∧
    (insertHeld line k s).engine = s.engine ∧ (insertHeld line k s).jobs = s.jobs ∧
    (insertHeld line k s).reads = s.reads ∧ (insertHeld line k s).slots = s.slots ∧
    (insertHeld line k s).patrol = s.patrol ∧ (insertHeld line k s).dport = s.dport ∧
    (insertHeld line k s).startup = s.startup ∧ (insertHeld line k s).status = s.status ∧
    (insertHeld line k s).freeDraws = s.freeDraws := by
  refine ⟨rfl, rfl, rfl, rfl, rfl, rfl, rfl, rfl, rfl, rfl, rfl, rfl, rfl, rfl, rfl, rfl, rfl, rfl, rfl⟩

/-- `updHeld` changes no other field of the state than: held. -/
@[simp] theorem updHeld_frame (line : Addr) (k : Requester) (f : HeldEntry → HeldEntry) (s : State) :
    (updHeld line k f s).pending = s.pending ∧ (updHeld line k f s).device = s.device ∧
    (updHeld line k f s).cwb = s.cwb ∧ (updHeld line k f s).memReady = s.memReady ∧
    (updHeld line k f s).uport = s.uport ∧ (updHeld line k f s).regions = s.regions ∧
    (updHeld line k f s).settings = s.settings ∧ (updHeld line k f s).contexts = s.contexts ∧
    (updHeld line k f s).journal = s.journal ∧ (updHeld line k f s).queue = s.queue ∧
    (updHeld line k f s).engine = s.engine ∧ (updHeld line k f s).jobs = s.jobs ∧
    (updHeld line k f s).reads = s.reads ∧ (updHeld line k f s).slots = s.slots ∧
    (updHeld line k f s).patrol = s.patrol ∧ (updHeld line k f s).dport = s.dport ∧
    (updHeld line k f s).startup = s.startup ∧ (updHeld line k f s).status = s.status ∧
    (updHeld line k f s).freeDraws = s.freeDraws := by
  refine ⟨rfl, rfl, rfl, rfl, rfl, rfl, rfl, rfl, rfl, rfl, rfl, rfl, rfl, rfl, rfl, rfl, rfl, rfl, rfl⟩

/-- `removeHeld` changes no other field of the state than: held. -/
@[simp] theorem removeHeld_frame (line : Addr) (s : State) :
    (removeHeld line s).pending = s.pending ∧ (removeHeld line s).device = s.device ∧
    (removeHeld line s).cwb = s.cwb ∧ (removeHeld line s).memReady = s.memReady ∧
    (removeHeld line s).uport = s.uport ∧ (removeHeld line s).regions = s.regions ∧
    (removeHeld line s).settings = s.settings ∧ (removeHeld line s).contexts = s.contexts ∧
    (removeHeld line s).journal = s.journal ∧ (removeHeld line s).queue = s.queue ∧
    (removeHeld line s).engine = s.engine ∧ (removeHeld line s).jobs = s.jobs ∧
    (removeHeld line s).reads = s.reads ∧ (removeHeld line s).slots = s.slots ∧
    (removeHeld line s).patrol = s.patrol ∧ (removeHeld line s).dport = s.dport ∧
    (removeHeld line s).startup = s.startup ∧ (removeHeld line s).status = s.status ∧
    (removeHeld line s).freeDraws = s.freeDraws := by
  refine ⟨rfl, rfl, rfl, rfl, rfl, rfl, rfl, rfl, rfl, rfl, rfl, rfl, rfl, rfl, rfl, rfl, rfl, rfl, rfl⟩

/-- `releaseHeld` changes no other field of the state than: held. -/
@[simp] theorem releaseHeld_frame (k : Requester) (s : State) :
    (releaseHeld k s).pending = s.pending ∧ (releaseHeld k s).device = s.device ∧
    (releaseHeld k s).cwb = s.cwb ∧ (releaseHeld k s).memReady = s.memReady ∧
    (releaseHeld k s).uport = s.uport ∧ (releaseHeld k s).regions = s.regions ∧
    (releaseHeld k s).settings = s.settings ∧ (releaseHeld k s).contexts = s.contexts ∧
    (releaseHeld k s).journal = s.journal ∧ (releaseHeld k s).queue = s.queue ∧
    (releaseHeld k s).engine = s.engine ∧ (releaseHeld k s).jobs = s.jobs ∧
    (releaseHeld k s).reads = s.reads ∧ (releaseHeld k s).slots = s.slots ∧
    (releaseHeld k s).patrol = s.patrol ∧ (releaseHeld k s).dport = s.dport ∧
    (releaseHeld k s).startup = s.startup ∧ (releaseHeld k s).status = s.status ∧
    (releaseHeld k s).freeDraws = s.freeDraws := by
  refine ⟨rfl, rfl, rfl, rfl, rfl, rfl, rfl, rfl, rfl, rfl, rfl, rfl, rfl, rfl, rfl, rfl, rfl, rfl, rfl⟩

/-! ## Journal -/

/-- `lowTest` changes no other field of the state than: jobs, status. -/
@[simp] theorem lowTest_frame (freeBefore markBefore : Nat) (s : State) :
    (lowTest freeBefore markBefore s).pending = s.pending ∧ (lowTest freeBefore markBefore s).device = s.device ∧
    (lowTest freeBefore markBefore s).cwb = s.cwb ∧ (lowTest freeBefore markBefore s).memReady = s.memReady ∧
    (lowTest freeBefore markBefore s).uport = s.uport ∧ (lowTest freeBefore markBefore s).regions = s.regions ∧
    (lowTest freeBefore markBefore s).settings = s.settings ∧ (lowTest freeBefore markBefore s).contexts = s.contexts ∧
    (lowTest freeBefore markBefore s).held = s.held ∧ (lowTest freeBefore markBefore s).journal = s.journal ∧
    (lowTest freeBefore markBefore s).queue = s.queue ∧ (lowTest freeBefore markBefore s).engine = s.engine ∧
    (lowTest freeBefore markBefore s).reads = s.reads ∧ (lowTest freeBefore markBefore s).slots = s.slots ∧
    (lowTest freeBefore markBefore s).patrol = s.patrol ∧ (lowTest freeBefore markBefore s).dport = s.dport ∧
    (lowTest freeBefore markBefore s).startup = s.startup ∧ (lowTest freeBefore markBefore s).freeDraws = s.freeDraws := by
  unfold lowTest; try dsimp only
  (repeat' split) <;> simp

/-- `lowTestAtReady` changes no other field of the state than: jobs, status. -/
@[simp] theorem lowTestAtReady_frame (s : State) :
    (lowTestAtReady s).pending = s.pending ∧ (lowTestAtReady s).device = s.device ∧
    (lowTestAtReady s).cwb = s.cwb ∧ (lowTestAtReady s).memReady = s.memReady ∧
    (lowTestAtReady s).uport = s.uport ∧ (lowTestAtReady s).regions = s.regions ∧
    (lowTestAtReady s).settings = s.settings ∧ (lowTestAtReady s).contexts = s.contexts ∧
    (lowTestAtReady s).held = s.held ∧ (lowTestAtReady s).journal = s.journal ∧
    (lowTestAtReady s).queue = s.queue ∧ (lowTestAtReady s).engine = s.engine ∧
    (lowTestAtReady s).reads = s.reads ∧ (lowTestAtReady s).slots = s.slots ∧
    (lowTestAtReady s).patrol = s.patrol ∧ (lowTestAtReady s).dport = s.dport ∧
    (lowTestAtReady s).startup = s.startup ∧ (lowTestAtReady s).freeDraws = s.freeDraws := by
  unfold lowTestAtReady; try dsimp only
  (repeat' split) <;> simp

/-- `updReserved` changes no other field of the state than: journal. -/
@[simp] theorem updReserved_frame (k : Requester) (f : Nat → Nat) (s : State) :
    (updReserved k f s).pending = s.pending ∧ (updReserved k f s).device = s.device ∧
    (updReserved k f s).cwb = s.cwb ∧ (updReserved k f s).memReady = s.memReady ∧
    (updReserved k f s).uport = s.uport ∧ (updReserved k f s).regions = s.regions ∧
    (updReserved k f s).settings = s.settings ∧ (updReserved k f s).contexts = s.contexts ∧
    (updReserved k f s).held = s.held ∧ (updReserved k f s).queue = s.queue ∧
    (updReserved k f s).engine = s.engine ∧ (updReserved k f s).jobs = s.jobs ∧
    (updReserved k f s).reads = s.reads ∧ (updReserved k f s).slots = s.slots ∧
    (updReserved k f s).patrol = s.patrol ∧ (updReserved k f s).dport = s.dport ∧
    (updReserved k f s).startup = s.startup ∧ (updReserved k f s).status = s.status ∧
    (updReserved k f s).freeDraws = s.freeDraws := by
  refine ⟨rfl, rfl, rfl, rfl, rfl, rfl, rfl, rfl, rfl, rfl, rfl, rfl, rfl, rfl, rfl, rfl, rfl, rfl, rfl⟩

/-- `claim` changes no other field of the state than: journal, jobs, status. -/
@[simp] theorem claim_frame (k : Requester) (n : Nat) (s : State) :
    (claim k n s).pending = s.pending ∧ (claim k n s).device = s.device ∧
    (claim k n s).cwb = s.cwb ∧ (claim k n s).memReady = s.memReady ∧
    (claim k n s).uport = s.uport ∧ (claim k n s).regions = s.regions ∧
    (claim k n s).settings = s.settings ∧ (claim k n s).contexts = s.contexts ∧
    (claim k n s).held = s.held ∧ (claim k n s).queue = s.queue ∧
    (claim k n s).engine = s.engine ∧ (claim k n s).reads = s.reads ∧
    (claim k n s).slots = s.slots ∧ (claim k n s).patrol = s.patrol ∧
    (claim k n s).dport = s.dport ∧ (claim k n s).startup = s.startup ∧
    (claim k n s).freeDraws = s.freeDraws := by
  simp [claim]

/-- `raiseHead` changes no other field of the state than: journal, freeDraws. -/
@[simp] theorem raiseHead_frame (s : State) :
    (raiseHead s).pending = s.pending ∧ (raiseHead s).device = s.device ∧
    (raiseHead s).cwb = s.cwb ∧ (raiseHead s).memReady = s.memReady ∧
    (raiseHead s).uport = s.uport ∧ (raiseHead s).regions = s.regions ∧
    (raiseHead s).settings = s.settings ∧ (raiseHead s).contexts = s.contexts ∧
    (raiseHead s).held = s.held ∧ (raiseHead s).queue = s.queue ∧
    (raiseHead s).engine = s.engine ∧ (raiseHead s).jobs = s.jobs ∧
    (raiseHead s).reads = s.reads ∧ (raiseHead s).slots = s.slots ∧
    (raiseHead s).patrol = s.patrol ∧ (raiseHead s).dport = s.dport ∧
    (raiseHead s).startup = s.startup ∧ (raiseHead s).status = s.status := by
  unfold raiseHead; try dsimp only
  (repeat' split) <;> simp

/-- `allocate` changes no other field of the state than: journal, freeDraws. -/
@[simp] theorem allocate_frame (k : Requester) (s : State) :
    (allocate k s).pending = s.pending ∧ (allocate k s).device = s.device ∧
    (allocate k s).cwb = s.cwb ∧ (allocate k s).memReady = s.memReady ∧
    (allocate k s).uport = s.uport ∧ (allocate k s).regions = s.regions ∧
    (allocate k s).settings = s.settings ∧ (allocate k s).contexts = s.contexts ∧
    (allocate k s).held = s.held ∧ (allocate k s).queue = s.queue ∧
    (allocate k s).engine = s.engine ∧ (allocate k s).jobs = s.jobs ∧
    (allocate k s).reads = s.reads ∧ (allocate k s).slots = s.slots ∧
    (allocate k s).patrol = s.patrol ∧ (allocate k s).dport = s.dport ∧
    (allocate k s).startup = s.startup ∧ (allocate k s).status = s.status := by
  simp [allocate]

/-- `recomputeTail` changes no other field of the state than: journal, jobs, status. -/
@[simp] theorem recomputeTail_frame (s : State) :
    (recomputeTail s).pending = s.pending ∧ (recomputeTail s).device = s.device ∧
    (recomputeTail s).cwb = s.cwb ∧ (recomputeTail s).memReady = s.memReady ∧
    (recomputeTail s).uport = s.uport ∧ (recomputeTail s).regions = s.regions ∧
    (recomputeTail s).settings = s.settings ∧ (recomputeTail s).contexts = s.contexts ∧
    (recomputeTail s).held = s.held ∧ (recomputeTail s).queue = s.queue ∧
    (recomputeTail s).engine = s.engine ∧ (recomputeTail s).reads = s.reads ∧
    (recomputeTail s).slots = s.slots ∧ (recomputeTail s).patrol = s.patrol ∧
    (recomputeTail s).dport = s.dport ∧ (recomputeTail s).startup = s.startup ∧
    (recomputeTail s).freeDraws = s.freeDraws := by
  simp [recomputeTail]

/-- `enterAbsent` changes no other field of the state than: journal. -/
@[simp] theorem enterAbsent_frame (reason : AbsentReason) (geometry : Option Geometry) (s : State) :
    (enterAbsent reason geometry s).pending = s.pending ∧ (enterAbsent reason geometry s).device = s.device ∧
    (enterAbsent reason geometry s).cwb = s.cwb ∧ (enterAbsent reason geometry s).memReady = s.memReady ∧
    (enterAbsent reason geometry s).uport = s.uport ∧ (enterAbsent reason geometry s).regions = s.regions ∧
    (enterAbsent reason geometry s).settings = s.settings ∧ (enterAbsent reason geometry s).contexts = s.contexts ∧
    (enterAbsent reason geometry s).held = s.held ∧ (enterAbsent reason geometry s).queue = s.queue ∧
    (enterAbsent reason geometry s).engine = s.engine ∧ (enterAbsent reason geometry s).jobs = s.jobs ∧
    (enterAbsent reason geometry s).reads = s.reads ∧ (enterAbsent reason geometry s).slots = s.slots ∧
    (enterAbsent reason geometry s).patrol = s.patrol ∧ (enterAbsent reason geometry s).dport = s.dport ∧
    (enterAbsent reason geometry s).startup = s.startup ∧ (enterAbsent reason geometry s).status = s.status ∧
    (enterAbsent reason geometry s).freeDraws = s.freeDraws := by
  refine ⟨rfl, rfl, rfl, rfl, rfl, rfl, rfl, rfl, rfl, rfl, rfl, rfl, rfl, rfl, rfl, rfl, rfl, rfl, rfl⟩

/-- `becomeReady` changes no other field of the state than: journal, jobs, status. -/
@[simp] theorem becomeReady_frame (s : State) :
    (becomeReady s).pending = s.pending ∧ (becomeReady s).device = s.device ∧
    (becomeReady s).cwb = s.cwb ∧ (becomeReady s).memReady = s.memReady ∧
    (becomeReady s).uport = s.uport ∧ (becomeReady s).regions = s.regions ∧
    (becomeReady s).settings = s.settings ∧ (becomeReady s).contexts = s.contexts ∧
    (becomeReady s).held = s.held ∧ (becomeReady s).queue = s.queue ∧
    (becomeReady s).engine = s.engine ∧ (becomeReady s).reads = s.reads ∧
    (becomeReady s).slots = s.slots ∧ (becomeReady s).patrol = s.patrol ∧
    (becomeReady s).dport = s.dport ∧ (becomeReady s).startup = s.startup ∧
    (becomeReady s).freeDraws = s.freeDraws := by
  simp [becomeReady]

/-! ## Queue, jobs, Read List, answers, slots -/

/-- `appendEntry` changes no other field of the state than: queue. -/
@[simp] theorem appendEntry_frame (e : PostedEntry) (s : State) :
    (appendEntry e s).pending = s.pending ∧ (appendEntry e s).device = s.device ∧
    (appendEntry e s).cwb = s.cwb ∧ (appendEntry e s).memReady = s.memReady ∧
    (appendEntry e s).uport = s.uport ∧ (appendEntry e s).regions = s.regions ∧
    (appendEntry e s).settings = s.settings ∧ (appendEntry e s).contexts = s.contexts ∧
    (appendEntry e s).held = s.held ∧ (appendEntry e s).journal = s.journal ∧
    (appendEntry e s).engine = s.engine ∧ (appendEntry e s).jobs = s.jobs ∧
    (appendEntry e s).reads = s.reads ∧ (appendEntry e s).slots = s.slots ∧
    (appendEntry e s).patrol = s.patrol ∧ (appendEntry e s).dport = s.dport ∧
    (appendEntry e s).startup = s.startup ∧ (appendEntry e s).status = s.status ∧
    (appendEntry e s).freeDraws = s.freeDraws := by
  refine ⟨rfl, rfl, rfl, rfl, rfl, rfl, rfl, rfl, rfl, rfl, rfl, rfl, rfl, rfl, rfl, rfl, rfl, rfl, rfl⟩

/-- `dropHead` changes no other field of the state than: queue. -/
@[simp] theorem dropHead_frame (s : State) :
    (dropHead s).pending = s.pending ∧ (dropHead s).device = s.device ∧
    (dropHead s).cwb = s.cwb ∧ (dropHead s).memReady = s.memReady ∧
    (dropHead s).uport = s.uport ∧ (dropHead s).regions = s.regions ∧
    (dropHead s).settings = s.settings ∧ (dropHead s).contexts = s.contexts ∧
    (dropHead s).held = s.held ∧ (dropHead s).journal = s.journal ∧
    (dropHead s).engine = s.engine ∧ (dropHead s).jobs = s.jobs ∧
    (dropHead s).reads = s.reads ∧ (dropHead s).slots = s.slots ∧
    (dropHead s).patrol = s.patrol ∧ (dropHead s).dport = s.dport ∧
    (dropHead s).startup = s.startup ∧ (dropHead s).status = s.status ∧
    (dropHead s).freeDraws = s.freeDraws := by
  refine ⟨rfl, rfl, rfl, rfl, rfl, rfl, rfl, rfl, rfl, rfl, rfl, rfl, rfl, rfl, rfl, rfl, rfl, rfl, rfl⟩

/-- `updHeadJob` changes no other field of the state than: jobs. -/
@[simp] theorem updHeadJob_frame (f : Job → Job) (s : State) :
    (updHeadJob f s).pending = s.pending ∧ (updHeadJob f s).device = s.device ∧
    (updHeadJob f s).cwb = s.cwb ∧ (updHeadJob f s).memReady = s.memReady ∧
    (updHeadJob f s).uport = s.uport ∧ (updHeadJob f s).regions = s.regions ∧
    (updHeadJob f s).settings = s.settings ∧ (updHeadJob f s).contexts = s.contexts ∧
    (updHeadJob f s).held = s.held ∧ (updHeadJob f s).journal = s.journal ∧
    (updHeadJob f s).queue = s.queue ∧ (updHeadJob f s).engine = s.engine ∧
    (updHeadJob f s).reads = s.reads ∧ (updHeadJob f s).slots = s.slots ∧
    (updHeadJob f s).patrol = s.patrol ∧ (updHeadJob f s).dport = s.dport ∧
    (updHeadJob f s).startup = s.startup ∧ (updHeadJob f s).status = s.status ∧
    (updHeadJob f s).freeDraws = s.freeDraws := by
  unfold updHeadJob; try dsimp only
  (repeat' split) <;> simp

/-- `nextStep` changes no other field of the state than: jobs. -/
@[simp] theorem nextStep_frame (step : JobStep) (s : State) :
    (nextStep step s).pending = s.pending ∧ (nextStep step s).device = s.device ∧
    (nextStep step s).cwb = s.cwb ∧ (nextStep step s).memReady = s.memReady ∧
    (nextStep step s).uport = s.uport ∧ (nextStep step s).regions = s.regions ∧
    (nextStep step s).settings = s.settings ∧ (nextStep step s).contexts = s.contexts ∧
    (nextStep step s).held = s.held ∧ (nextStep step s).journal = s.journal ∧
    (nextStep step s).queue = s.queue ∧ (nextStep step s).engine = s.engine ∧
    (nextStep step s).reads = s.reads ∧ (nextStep step s).slots = s.slots ∧
    (nextStep step s).patrol = s.patrol ∧ (nextStep step s).dport = s.dport ∧
    (nextStep step s).startup = s.startup ∧ (nextStep step s).status = s.status ∧
    (nextStep step s).freeDraws = s.freeDraws := by
  simp [nextStep]

/-- `dropJob` changes no other field of the state than: jobs. -/
@[simp] theorem dropJob_frame (s : State) :
    (dropJob s).pending = s.pending ∧ (dropJob s).device = s.device ∧
    (dropJob s).cwb = s.cwb ∧ (dropJob s).memReady = s.memReady ∧
    (dropJob s).uport = s.uport ∧ (dropJob s).regions = s.regions ∧
    (dropJob s).settings = s.settings ∧ (dropJob s).contexts = s.contexts ∧
    (dropJob s).held = s.held ∧ (dropJob s).journal = s.journal ∧
    (dropJob s).queue = s.queue ∧ (dropJob s).engine = s.engine ∧
    (dropJob s).reads = s.reads ∧ (dropJob s).slots = s.slots ∧
    (dropJob s).patrol = s.patrol ∧ (dropJob s).dport = s.dport ∧
    (dropJob s).startup = s.startup ∧ (dropJob s).status = s.status ∧
    (dropJob s).freeDraws = s.freeDraws := by
  refine ⟨rfl, rfl, rfl, rfl, rfl, rfl, rfl, rfl, rfl, rfl, rfl, rfl, rfl, rfl, rfl, rfl, rfl, rfl, rfl⟩

/-- `joinReadList` changes no other field of the state than: dport. -/
@[simp] theorem joinReadList_frame (m : ReadMember) (s : State) :
    (joinReadList m s).pending = s.pending ∧ (joinReadList m s).device = s.device ∧
    (joinReadList m s).cwb = s.cwb ∧ (joinReadList m s).memReady = s.memReady ∧
    (joinReadList m s).uport = s.uport ∧ (joinReadList m s).regions = s.regions ∧
    (joinReadList m s).settings = s.settings ∧ (joinReadList m s).contexts = s.contexts ∧
    (joinReadList m s).held = s.held ∧ (joinReadList m s).journal = s.journal ∧
    (joinReadList m s).queue = s.queue ∧ (joinReadList m s).engine = s.engine ∧
    (joinReadList m s).jobs = s.jobs ∧ (joinReadList m s).reads = s.reads ∧
    (joinReadList m s).slots = s.slots ∧ (joinReadList m s).patrol = s.patrol ∧
    (joinReadList m s).startup = s.startup ∧ (joinReadList m s).status = s.status ∧
    (joinReadList m s).freeDraws = s.freeDraws := by
  refine ⟨rfl, rfl, rfl, rfl, rfl, rfl, rfl, rfl, rfl, rfl, rfl, rfl, rfl, rfl, rfl, rfl, rfl, rfl, rfl⟩

/-- `leaveReadList` changes no other field of the state than: dport. -/
@[simp] theorem leaveReadList_frame (m : ReadMember) (s : State) :
    (leaveReadList m s).pending = s.pending ∧ (leaveReadList m s).device = s.device ∧
    (leaveReadList m s).cwb = s.cwb ∧ (leaveReadList m s).memReady = s.memReady ∧
    (leaveReadList m s).uport = s.uport ∧ (leaveReadList m s).regions = s.regions ∧
    (leaveReadList m s).settings = s.settings ∧ (leaveReadList m s).contexts = s.contexts ∧
    (leaveReadList m s).held = s.held ∧ (leaveReadList m s).journal = s.journal ∧
    (leaveReadList m s).queue = s.queue ∧ (leaveReadList m s).engine = s.engine ∧
    (leaveReadList m s).jobs = s.jobs ∧ (leaveReadList m s).reads = s.reads ∧
    (leaveReadList m s).slots = s.slots ∧ (leaveReadList m s).patrol = s.patrol ∧
    (leaveReadList m s).startup = s.startup ∧ (leaveReadList m s).status = s.status ∧
    (leaveReadList m s).freeDraws = s.freeDraws := by
  refine ⟨rfl, rfl, rfl, rfl, rfl, rfl, rfl, rfl, rfl, rfl, rfl, rfl, rfl, rfl, rfl, rfl, rfl, rfl, rfl⟩

/-- `joinIssuable` changes no other field of the state than: dport. -/
@[simp] theorem joinIssuable_frame (s : State) :
    (joinIssuable s).pending = s.pending ∧ (joinIssuable s).device = s.device ∧
    (joinIssuable s).cwb = s.cwb ∧ (joinIssuable s).memReady = s.memReady ∧
    (joinIssuable s).uport = s.uport ∧ (joinIssuable s).regions = s.regions ∧
    (joinIssuable s).settings = s.settings ∧ (joinIssuable s).contexts = s.contexts ∧
    (joinIssuable s).held = s.held ∧ (joinIssuable s).journal = s.journal ∧
    (joinIssuable s).queue = s.queue ∧ (joinIssuable s).engine = s.engine ∧
    (joinIssuable s).jobs = s.jobs ∧ (joinIssuable s).reads = s.reads ∧
    (joinIssuable s).slots = s.slots ∧ (joinIssuable s).patrol = s.patrol ∧
    (joinIssuable s).startup = s.startup ∧ (joinIssuable s).status = s.status ∧
    (joinIssuable s).freeDraws = s.freeDraws := by
  refine ⟨rfl, rfl, rfl, rfl, rfl, rfl, rfl, rfl, rfl, rfl, rfl, rfl, rfl, rfl, rfl, rfl, rfl, rfl, rfl⟩

/-- `giveAnswer` changes no other field of the state than: uport. -/
@[simp] theorem giveAnswer_frame (k : Requester) (a : Answer) (s : State) :
    (giveAnswer k a s).pending = s.pending ∧ (giveAnswer k a s).device = s.device ∧
    (giveAnswer k a s).cwb = s.cwb ∧ (giveAnswer k a s).memReady = s.memReady ∧
    (giveAnswer k a s).regions = s.regions ∧ (giveAnswer k a s).settings = s.settings ∧
    (giveAnswer k a s).contexts = s.contexts ∧ (giveAnswer k a s).held = s.held ∧
    (giveAnswer k a s).journal = s.journal ∧ (giveAnswer k a s).queue = s.queue ∧
    (giveAnswer k a s).engine = s.engine ∧ (giveAnswer k a s).jobs = s.jobs ∧
    (giveAnswer k a s).reads = s.reads ∧ (giveAnswer k a s).slots = s.slots ∧
    (giveAnswer k a s).patrol = s.patrol ∧ (giveAnswer k a s).dport = s.dport ∧
    (giveAnswer k a s).startup = s.startup ∧ (giveAnswer k a s).status = s.status ∧
    (giveAnswer k a s).freeDraws = s.freeDraws := by
  refine ⟨rfl, rfl, rfl, rfl, rfl, rfl, rfl, rfl, rfl, rfl, rfl, rfl, rfl, rfl, rfl, rfl, rfl, rfl, rfl⟩

/-- `updSlot` changes no other field of the state than: slots. -/
@[simp] theorem updSlot_frame (k : Requester) (f : CommandSlot → CommandSlot) (s : State) :
    (updSlot k f s).pending = s.pending ∧ (updSlot k f s).device = s.device ∧
    (updSlot k f s).cwb = s.cwb ∧ (updSlot k f s).memReady = s.memReady ∧
    (updSlot k f s).uport = s.uport ∧ (updSlot k f s).regions = s.regions ∧
    (updSlot k f s).settings = s.settings ∧ (updSlot k f s).contexts = s.contexts ∧
    (updSlot k f s).held = s.held ∧ (updSlot k f s).journal = s.journal ∧
    (updSlot k f s).queue = s.queue ∧ (updSlot k f s).engine = s.engine ∧
    (updSlot k f s).jobs = s.jobs ∧ (updSlot k f s).reads = s.reads ∧
    (updSlot k f s).patrol = s.patrol ∧ (updSlot k f s).dport = s.dport ∧
    (updSlot k f s).startup = s.startup ∧ (updSlot k f s).status = s.status ∧
    (updSlot k f s).freeDraws = s.freeDraws := by
  refine ⟨rfl, rfl, rfl, rfl, rfl, rfl, rfl, rfl, rfl, rfl, rfl, rfl, rfl, rfl, rfl, rfl, rfl, rfl, rfl⟩

/-- `stopDevice` changes no other field of the state than: device, uport, jobs, dport, status. -/
@[simp] theorem stopDevice_frame (s : State) :
    (stopDevice s).pending = s.pending ∧ (stopDevice s).cwb = s.cwb ∧
    (stopDevice s).memReady = s.memReady ∧ (stopDevice s).regions = s.regions ∧
    (stopDevice s).settings = s.settings ∧ (stopDevice s).contexts = s.contexts ∧
    (stopDevice s).held = s.held ∧ (stopDevice s).journal = s.journal ∧
    (stopDevice s).queue = s.queue ∧ (stopDevice s).engine = s.engine ∧
    (stopDevice s).reads = s.reads ∧ (stopDevice s).slots = s.slots ∧
    (stopDevice s).patrol = s.patrol ∧ (stopDevice s).startup = s.startup ∧
    (stopDevice s).freeDraws = s.freeDraws := by
  unfold stopDevice; try dsimp only
  (repeat' split) <;> simp

/-! ## The Write Engine's units -/

/-- `setUnit` changes no other field of the state than: engine. -/
@[simp] theorem setUnit_frame (u : Option WorkUnit) (s : State) :
    (setUnit u s).pending = s.pending ∧ (setUnit u s).device = s.device ∧
    (setUnit u s).cwb = s.cwb ∧ (setUnit u s).memReady = s.memReady ∧
    (setUnit u s).uport = s.uport ∧ (setUnit u s).regions = s.regions ∧
    (setUnit u s).settings = s.settings ∧ (setUnit u s).contexts = s.contexts ∧
    (setUnit u s).held = s.held ∧ (setUnit u s).journal = s.journal ∧
    (setUnit u s).queue = s.queue ∧ (setUnit u s).jobs = s.jobs ∧
    (setUnit u s).reads = s.reads ∧ (setUnit u s).slots = s.slots ∧
    (setUnit u s).patrol = s.patrol ∧ (setUnit u s).dport = s.dport ∧
    (setUnit u s).startup = s.startup ∧ (setUnit u s).status = s.status ∧
    (setUnit u s).freeDraws = s.freeDraws := by
  refine ⟨rfl, rfl, rfl, rfl, rfl, rfl, rfl, rfl, rfl, rfl, rfl, rfl, rfl, rfl, rfl, rfl, rfl, rfl, rfl⟩

/-- `beginUnit` changes no other field of the state than: engine. -/
@[simp] theorem beginUnit_frame (u : WorkUnit) (kind : UnitKind) (s : State) :
    (beginUnit u kind s).pending = s.pending ∧ (beginUnit u kind s).device = s.device ∧
    (beginUnit u kind s).cwb = s.cwb ∧ (beginUnit u kind s).memReady = s.memReady ∧
    (beginUnit u kind s).uport = s.uport ∧ (beginUnit u kind s).regions = s.regions ∧
    (beginUnit u kind s).settings = s.settings ∧ (beginUnit u kind s).contexts = s.contexts ∧
    (beginUnit u kind s).held = s.held ∧ (beginUnit u kind s).journal = s.journal ∧
    (beginUnit u kind s).queue = s.queue ∧ (beginUnit u kind s).jobs = s.jobs ∧
    (beginUnit u kind s).reads = s.reads ∧ (beginUnit u kind s).slots = s.slots ∧
    (beginUnit u kind s).patrol = s.patrol ∧ (beginUnit u kind s).dport = s.dport ∧
    (beginUnit u kind s).startup = s.startup ∧ (beginUnit u kind s).status = s.status ∧
    (beginUnit u kind s).freeDraws = s.freeDraws := by
  refine ⟨rfl, rfl, rfl, rfl, rfl, rfl, rfl, rfl, rfl, rfl, rfl, rfl, rfl, rfl, rfl, rfl, rfl, rfl, rfl⟩

/-- `chooseUnit` changes no other field of the state than: engine. -/
@[simp] theorem chooseUnit_frame (s : State) :
    (chooseUnit s).pending = s.pending ∧ (chooseUnit s).device = s.device ∧
    (chooseUnit s).cwb = s.cwb ∧ (chooseUnit s).memReady = s.memReady ∧
    (chooseUnit s).uport = s.uport ∧ (chooseUnit s).regions = s.regions ∧
    (chooseUnit s).settings = s.settings ∧ (chooseUnit s).contexts = s.contexts ∧
    (chooseUnit s).held = s.held ∧ (chooseUnit s).journal = s.journal ∧
    (chooseUnit s).queue = s.queue ∧ (chooseUnit s).jobs = s.jobs ∧
    (chooseUnit s).reads = s.reads ∧ (chooseUnit s).slots = s.slots ∧
    (chooseUnit s).patrol = s.patrol ∧ (chooseUnit s).dport = s.dport ∧
    (chooseUnit s).startup = s.startup ∧ (chooseUnit s).status = s.status ∧
    (chooseUnit s).freeDraws = s.freeDraws := by
  unfold chooseUnit; try dsimp only
  (repeat' split) <;> simp

/-- `clearWaitMarks` changes no other field of the state than: reads, dport. -/
@[simp] theorem clearWaitMarks_frame (n : BitVec 32) (s : State) :
    (clearWaitMarks n s).pending = s.pending ∧ (clearWaitMarks n s).device = s.device ∧
    (clearWaitMarks n s).cwb = s.cwb ∧ (clearWaitMarks n s).memReady = s.memReady ∧
    (clearWaitMarks n s).uport = s.uport ∧ (clearWaitMarks n s).regions = s.regions ∧
    (clearWaitMarks n s).settings = s.settings ∧ (clearWaitMarks n s).contexts = s.contexts ∧
    (clearWaitMarks n s).held = s.held ∧ (clearWaitMarks n s).journal = s.journal ∧
    (clearWaitMarks n s).queue = s.queue ∧ (clearWaitMarks n s).engine = s.engine ∧
    (clearWaitMarks n s).jobs = s.jobs ∧ (clearWaitMarks n s).slots = s.slots ∧
    (clearWaitMarks n s).patrol = s.patrol ∧ (clearWaitMarks n s).startup = s.startup ∧
    (clearWaitMarks n s).status = s.status ∧ (clearWaitMarks n s).freeDraws = s.freeDraws := by
  simp [clearWaitMarks]

/-- `closingWordLands` changes no other field of the state than: jobs, status. -/
@[simp] theorem closingWordLands_frame (k : Requester) (s : State) :
    (closingWordLands k s).pending = s.pending ∧ (closingWordLands k s).device = s.device ∧
    (closingWordLands k s).cwb = s.cwb ∧ (closingWordLands k s).memReady = s.memReady ∧
    (closingWordLands k s).uport = s.uport ∧ (closingWordLands k s).regions = s.regions ∧
    (closingWordLands k s).settings = s.settings ∧ (closingWordLands k s).contexts = s.contexts ∧
    (closingWordLands k s).held = s.held ∧ (closingWordLands k s).journal = s.journal ∧
    (closingWordLands k s).queue = s.queue ∧ (closingWordLands k s).engine = s.engine ∧
    (closingWordLands k s).reads = s.reads ∧ (closingWordLands k s).slots = s.slots ∧
    (closingWordLands k s).patrol = s.patrol ∧ (closingWordLands k s).dport = s.dport ∧
    (closingWordLands k s).startup = s.startup ∧ (closingWordLands k s).freeDraws = s.freeDraws := by
  unfold closingWordLands; try dsimp only
  (repeat' split) <;> simp

/-- `landHead` changes no other field of the state than: queue, engine, jobs, reads, dport, status. -/
@[simp] theorem landHead_frame (e : PostedEntry) (s : State) :
    (landHead e s).pending = s.pending ∧ (landHead e s).device = s.device ∧
    (landHead e s).cwb = s.cwb ∧ (landHead e s).memReady = s.memReady ∧
    (landHead e s).uport = s.uport ∧ (landHead e s).regions = s.regions ∧
    (landHead e s).settings = s.settings ∧ (landHead e s).contexts = s.contexts ∧
    (landHead e s).held = s.held ∧ (landHead e s).journal = s.journal ∧
    (landHead e s).slots = s.slots ∧ (landHead e s).patrol = s.patrol ∧
    (landHead e s).startup = s.startup ∧ (landHead e s).freeDraws = s.freeDraws := by
  unfold landHead; try dsimp only
  (repeat' split) <;> simp

/-! ## Reads -/

/-- `overtakeReads` changes no other field of the state than: reads, dport, status. -/
@[simp] theorem overtakeReads_frame (line : Addr) (n : BitVec 32) (s : State) :
    (overtakeReads line n s).pending = s.pending ∧ (overtakeReads line n s).device = s.device ∧
    (overtakeReads line n s).cwb = s.cwb ∧ (overtakeReads line n s).memReady = s.memReady ∧
    (overtakeReads line n s).uport = s.uport ∧ (overtakeReads line n s).regions = s.regions ∧
    (overtakeReads line n s).settings = s.settings ∧ (overtakeReads line n s).contexts = s.contexts ∧
    (overtakeReads line n s).held = s.held ∧ (overtakeReads line n s).journal = s.journal ∧
    (overtakeReads line n s).queue = s.queue ∧ (overtakeReads line n s).engine = s.engine ∧
    (overtakeReads line n s).jobs = s.jobs ∧ (overtakeReads line n s).slots = s.slots ∧
    (overtakeReads line n s).patrol = s.patrol ∧ (overtakeReads line n s).startup = s.startup ∧
    (overtakeReads line n s).freeDraws = s.freeDraws := by
  simp [overtakeReads]

/-- `takeBackReads` changes no other field of the state than: reads, dport, status. -/
@[simp] theorem takeBackReads_frame (k : Requester) (s : State) :
    (takeBackReads k s).pending = s.pending ∧ (takeBackReads k s).device = s.device ∧
    (takeBackReads k s).cwb = s.cwb ∧ (takeBackReads k s).memReady = s.memReady ∧
    (takeBackReads k s).uport = s.uport ∧ (takeBackReads k s).regions = s.regions ∧
    (takeBackReads k s).settings = s.settings ∧ (takeBackReads k s).contexts = s.contexts ∧
    (takeBackReads k s).held = s.held ∧ (takeBackReads k s).journal = s.journal ∧
    (takeBackReads k s).queue = s.queue ∧ (takeBackReads k s).engine = s.engine ∧
    (takeBackReads k s).jobs = s.jobs ∧ (takeBackReads k s).slots = s.slots ∧
    (takeBackReads k s).patrol = s.patrol ∧ (takeBackReads k s).startup = s.startup ∧
    (takeBackReads k s).freeDraws = s.freeDraws := by
  simp [takeBackReads]

/-- `updRead` changes no other field of the state than: reads. -/
@[simp] theorem updRead_frame (r : ReadRequest) (f : DeferredRead → DeferredRead) (s : State) :
    (updRead r f s).pending = s.pending ∧ (updRead r f s).device = s.device ∧
    (updRead r f s).cwb = s.cwb ∧ (updRead r f s).memReady = s.memReady ∧
    (updRead r f s).uport = s.uport ∧ (updRead r f s).regions = s.regions ∧
    (updRead r f s).settings = s.settings ∧ (updRead r f s).contexts = s.contexts ∧
    (updRead r f s).held = s.held ∧ (updRead r f s).journal = s.journal ∧
    (updRead r f s).queue = s.queue ∧ (updRead r f s).engine = s.engine ∧
    (updRead r f s).jobs = s.jobs ∧ (updRead r f s).slots = s.slots ∧
    (updRead r f s).patrol = s.patrol ∧ (updRead r f s).dport = s.dport ∧
    (updRead r f s).startup = s.startup ∧ (updRead r f s).status = s.status ∧
    (updRead r f s).freeDraws = s.freeDraws := by
  refine ⟨rfl, rfl, rfl, rfl, rfl, rfl, rfl, rfl, rfl, rfl, rfl, rfl, rfl, rfl, rfl, rfl, rfl, rfl, rfl⟩

/-- `freeRead` changes no other field of the state than: reads. -/
@[simp] theorem freeRead_frame (r : ReadRequest) (s : State) :
    (freeRead r s).pending = s.pending ∧ (freeRead r s).device = s.device ∧
    (freeRead r s).cwb = s.cwb ∧ (freeRead r s).memReady = s.memReady ∧
    (freeRead r s).uport = s.uport ∧ (freeRead r s).regions = s.regions ∧
    (freeRead r s).settings = s.settings ∧ (freeRead r s).contexts = s.contexts ∧
    (freeRead r s).held = s.held ∧ (freeRead r s).journal = s.journal ∧
    (freeRead r s).queue = s.queue ∧ (freeRead r s).engine = s.engine ∧
    (freeRead r s).jobs = s.jobs ∧ (freeRead r s).slots = s.slots ∧
    (freeRead r s).patrol = s.patrol ∧ (freeRead r s).dport = s.dport ∧
    (freeRead r s).startup = s.startup ∧ (freeRead r s).status = s.status ∧
    (freeRead r s).freeDraws = s.freeDraws := by
  refine ⟨rfl, rfl, rfl, rfl, rfl, rfl, rfl, rfl, rfl, rfl, rfl, rfl, rfl, rfl, rfl, rfl, rfl, rfl, rfl⟩

/-- `answerRead` changes no other field of the state than: uport, status. -/
@[simp] theorem answerRead_frame (r : ReadRequest) (bytes : List Byte) (poison : List Bool) (s : State) :
    (answerRead r bytes poison s).pending = s.pending ∧ (answerRead r bytes poison s).device = s.device ∧
    (answerRead r bytes poison s).cwb = s.cwb ∧ (answerRead r bytes poison s).memReady = s.memReady ∧
    (answerRead r bytes poison s).regions = s.regions ∧ (answerRead r bytes poison s).settings = s.settings ∧
    (answerRead r bytes poison s).contexts = s.contexts ∧ (answerRead r bytes poison s).held = s.held ∧
    (answerRead r bytes poison s).journal = s.journal ∧ (answerRead r bytes poison s).queue = s.queue ∧
    (answerRead r bytes poison s).engine = s.engine ∧ (answerRead r bytes poison s).jobs = s.jobs ∧
    (answerRead r bytes poison s).reads = s.reads ∧ (answerRead r bytes poison s).slots = s.slots ∧
    (answerRead r bytes poison s).patrol = s.patrol ∧ (answerRead r bytes poison s).dport = s.dport ∧
    (answerRead r bytes poison s).startup = s.startup ∧ (answerRead r bytes poison s).freeDraws = s.freeDraws := by
  simp [answerRead]

/-- `answerRepeat` changes no other field of the state than: uport, reads, status. -/
@[simp] theorem answerRepeat_frame (d : DeferredRead) (r : ReadRequest) (s : State) :
    (answerRepeat d r s).pending = s.pending ∧ (answerRepeat d r s).device = s.device ∧
    (answerRepeat d r s).cwb = s.cwb ∧ (answerRepeat d r s).memReady = s.memReady ∧
    (answerRepeat d r s).regions = s.regions ∧ (answerRepeat d r s).settings = s.settings ∧
    (answerRepeat d r s).contexts = s.contexts ∧ (answerRepeat d r s).held = s.held ∧
    (answerRepeat d r s).journal = s.journal ∧ (answerRepeat d r s).queue = s.queue ∧
    (answerRepeat d r s).engine = s.engine ∧ (answerRepeat d r s).jobs = s.jobs ∧
    (answerRepeat d r s).slots = s.slots ∧ (answerRepeat d r s).patrol = s.patrol ∧
    (answerRepeat d r s).dport = s.dport ∧ (answerRepeat d r s).startup = s.startup ∧
    (answerRepeat d r s).freeDraws = s.freeDraws := by
  unfold answerRepeat; try dsimp only
  (repeat' split) <;> simp

/-- `deferRead` changes no other field of the state than: uport, reads, status. -/
@[simp] theorem deferRead_frame (r : ReadRequest) (s : State) :
    (deferRead r s).pending = s.pending ∧ (deferRead r s).device = s.device ∧
    (deferRead r s).cwb = s.cwb ∧ (deferRead r s).memReady = s.memReady ∧
    (deferRead r s).regions = s.regions ∧ (deferRead r s).settings = s.settings ∧
    (deferRead r s).contexts = s.contexts ∧ (deferRead r s).held = s.held ∧
    (deferRead r s).journal = s.journal ∧ (deferRead r s).queue = s.queue ∧
    (deferRead r s).engine = s.engine ∧ (deferRead r s).jobs = s.jobs ∧
    (deferRead r s).slots = s.slots ∧ (deferRead r s).patrol = s.patrol ∧
    (deferRead r s).dport = s.dport ∧ (deferRead r s).startup = s.startup ∧
    (deferRead r s).freeDraws = s.freeDraws := by
  unfold deferRead; try dsimp only
  (repeat' split) <;> simp

/-- `startStraight` changes no other field of the state than: uport, dport. -/
@[simp] theorem startStraight_frame (r : ReadRequest) (s : State) :
    (startStraight r s).pending = s.pending ∧ (startStraight r s).device = s.device ∧
    (startStraight r s).cwb = s.cwb ∧ (startStraight r s).memReady = s.memReady ∧
    (startStraight r s).regions = s.regions ∧ (startStraight r s).settings = s.settings ∧
    (startStraight r s).contexts = s.contexts ∧ (startStraight r s).held = s.held ∧
    (startStraight r s).journal = s.journal ∧ (startStraight r s).queue = s.queue ∧
    (startStraight r s).engine = s.engine ∧ (startStraight r s).jobs = s.jobs ∧
    (startStraight r s).reads = s.reads ∧ (startStraight r s).slots = s.slots ∧
    (startStraight r s).patrol = s.patrol ∧ (startStraight r s).startup = s.startup ∧
    (startStraight r s).status = s.status ∧ (startStraight r s).freeDraws = s.freeDraws := by
  simp [startStraight]

/-- `judgeRead` changes no other field of the state than: uport, reads, dport, status. -/
@[simp] theorem judgeRead_frame (r : ReadRequest) (s : State) :
    (judgeRead r s).pending = s.pending ∧ (judgeRead r s).device = s.device ∧
    (judgeRead r s).cwb = s.cwb ∧ (judgeRead r s).memReady = s.memReady ∧
    (judgeRead r s).regions = s.regions ∧ (judgeRead r s).settings = s.settings ∧
    (judgeRead r s).contexts = s.contexts ∧ (judgeRead r s).held = s.held ∧
    (judgeRead r s).journal = s.journal ∧ (judgeRead r s).queue = s.queue ∧
    (judgeRead r s).engine = s.engine ∧ (judgeRead r s).jobs = s.jobs ∧
    (judgeRead r s).slots = s.slots ∧ (judgeRead r s).patrol = s.patrol ∧
    (judgeRead r s).startup = s.startup ∧ (judgeRead r s).freeDraws = s.freeDraws := by
  unfold judgeRead; try dsimp only
  (repeat' split) <;> simp

/-- `straightAnswered` changes no other field of the state than: uport, status. -/
@[simp] theorem straightAnswered_frame (r : Reply) (s : State) :
    (straightAnswered r s).pending = s.pending ∧ (straightAnswered r s).device = s.device ∧
    (straightAnswered r s).cwb = s.cwb ∧ (straightAnswered r s).memReady = s.memReady ∧
    (straightAnswered r s).regions = s.regions ∧ (straightAnswered r s).settings = s.settings ∧
    (straightAnswered r s).contexts = s.contexts ∧ (straightAnswered r s).held = s.held ∧
    (straightAnswered r s).journal = s.journal ∧ (straightAnswered r s).queue = s.queue ∧
    (straightAnswered r s).engine = s.engine ∧ (straightAnswered r s).jobs = s.jobs ∧
    (straightAnswered r s).reads = s.reads ∧ (straightAnswered r s).slots = s.slots ∧
    (straightAnswered r s).patrol = s.patrol ∧ (straightAnswered r s).dport = s.dport ∧
    (straightAnswered r s).startup = s.startup ∧ (straightAnswered r s).freeDraws = s.freeDraws := by
  unfold straightAnswered; try dsimp only
  (repeat' split) <;> simp

/-- `deferredAnswered` changes no other field of the state than: reads, dport. -/
@[simp] theorem deferredAnswered_frame (key : ReadRequest) (r : Reply) (s : State) :
    (deferredAnswered key r s).pending = s.pending ∧ (deferredAnswered key r s).device = s.device ∧
    (deferredAnswered key r s).cwb = s.cwb ∧ (deferredAnswered key r s).memReady = s.memReady ∧
    (deferredAnswered key r s).uport = s.uport ∧ (deferredAnswered key r s).regions = s.regions ∧
    (deferredAnswered key r s).settings = s.settings ∧ (deferredAnswered key r s).contexts = s.contexts ∧
    (deferredAnswered key r s).held = s.held ∧ (deferredAnswered key r s).journal = s.journal ∧
    (deferredAnswered key r s).queue = s.queue ∧ (deferredAnswered key r s).engine = s.engine ∧
    (deferredAnswered key r s).jobs = s.jobs ∧ (deferredAnswered key r s).slots = s.slots ∧
    (deferredAnswered key r s).patrol = s.patrol ∧ (deferredAnswered key r s).startup = s.startup ∧
    (deferredAnswered key r s).status = s.status ∧ (deferredAnswered key r s).freeDraws = s.freeDraws := by
  unfold deferredAnswered; try dsimp only
  (repeat' split) <;> simp

/-- `issueDeferred` changes no other field of the state than: reads. -/
@[simp] theorem issueDeferred_frame (key : ReadRequest) (s : State) :
    (issueDeferred key s).pending = s.pending ∧ (issueDeferred key s).device = s.device ∧
    (issueDeferred key s).cwb = s.cwb ∧ (issueDeferred key s).memReady = s.memReady ∧
    (issueDeferred key s).uport = s.uport ∧ (issueDeferred key s).regions = s.regions ∧
    (issueDeferred key s).settings = s.settings ∧ (issueDeferred key s).contexts = s.contexts ∧
    (issueDeferred key s).held = s.held ∧ (issueDeferred key s).journal = s.journal ∧
    (issueDeferred key s).queue = s.queue ∧ (issueDeferred key s).engine = s.engine ∧
    (issueDeferred key s).jobs = s.jobs ∧ (issueDeferred key s).slots = s.slots ∧
    (issueDeferred key s).patrol = s.patrol ∧ (issueDeferred key s).dport = s.dport ∧
    (issueDeferred key s).startup = s.startup ∧ (issueDeferred key s).status = s.status ∧
    (issueDeferred key s).freeDraws = s.freeDraws := by
  refine ⟨rfl, rfl, rfl, rfl, rfl, rfl, rfl, rfl, rfl, rfl, rfl, rfl, rfl, rfl, rfl, rfl, rfl, rfl, rfl⟩

/-- `discardExpires` changes no other field of the state than: reads, status. -/
@[simp] theorem discardExpires_frame (key : ReadRequest) (s : State) :
    (discardExpires key s).pending = s.pending ∧ (discardExpires key s).device = s.device ∧
    (discardExpires key s).cwb = s.cwb ∧ (discardExpires key s).memReady = s.memReady ∧
    (discardExpires key s).uport = s.uport ∧ (discardExpires key s).regions = s.regions ∧
    (discardExpires key s).settings = s.settings ∧ (discardExpires key s).contexts = s.contexts ∧
    (discardExpires key s).held = s.held ∧ (discardExpires key s).journal = s.journal ∧
    (discardExpires key s).queue = s.queue ∧ (discardExpires key s).engine = s.engine ∧
    (discardExpires key s).jobs = s.jobs ∧ (discardExpires key s).slots = s.slots ∧
    (discardExpires key s).patrol = s.patrol ∧ (discardExpires key s).dport = s.dport ∧
    (discardExpires key s).startup = s.startup ∧ (discardExpires key s).freeDraws = s.freeDraws := by
  unfold discardExpires; try dsimp only
  (repeat' split) <;> simp

/-! ## Patrol -/

/-- `updPatrol` changes no other field of the state than: patrol. -/
@[simp] theorem updPatrol_frame (f : Patrol → Patrol) (s : State) :
    (updPatrol f s).pending = s.pending ∧ (updPatrol f s).device = s.device ∧
    (updPatrol f s).cwb = s.cwb ∧ (updPatrol f s).memReady = s.memReady ∧
    (updPatrol f s).uport = s.uport ∧ (updPatrol f s).regions = s.regions ∧
    (updPatrol f s).settings = s.settings ∧ (updPatrol f s).contexts = s.contexts ∧
    (updPatrol f s).held = s.held ∧ (updPatrol f s).journal = s.journal ∧
    (updPatrol f s).queue = s.queue ∧ (updPatrol f s).engine = s.engine ∧
    (updPatrol f s).jobs = s.jobs ∧ (updPatrol f s).reads = s.reads ∧
    (updPatrol f s).slots = s.slots ∧ (updPatrol f s).dport = s.dport ∧
    (updPatrol f s).startup = s.startup ∧ (updPatrol f s).status = s.status ∧
    (updPatrol f s).freeDraws = s.freeDraws := by
  refine ⟨rfl, rfl, rfl, rfl, rfl, rfl, rfl, rfl, rfl, rfl, rfl, rfl, rfl, rfl, rfl, rfl, rfl, rfl, rfl⟩

/-- `patrolToWait` changes no other field of the state than: patrol. -/
@[simp] theorem patrolToWait_frame (s : State) :
    (patrolToWait s).pending = s.pending ∧ (patrolToWait s).device = s.device ∧
    (patrolToWait s).cwb = s.cwb ∧ (patrolToWait s).memReady = s.memReady ∧
    (patrolToWait s).uport = s.uport ∧ (patrolToWait s).regions = s.regions ∧
    (patrolToWait s).settings = s.settings ∧ (patrolToWait s).contexts = s.contexts ∧
    (patrolToWait s).held = s.held ∧ (patrolToWait s).journal = s.journal ∧
    (patrolToWait s).queue = s.queue ∧ (patrolToWait s).engine = s.engine ∧
    (patrolToWait s).jobs = s.jobs ∧ (patrolToWait s).reads = s.reads ∧
    (patrolToWait s).slots = s.slots ∧ (patrolToWait s).dport = s.dport ∧
    (patrolToWait s).startup = s.startup ∧ (patrolToWait s).status = s.status ∧
    (patrolToWait s).freeDraws = s.freeDraws := by
  refine ⟨rfl, rfl, rfl, rfl, rfl, rfl, rfl, rfl, rfl, rfl, rfl, rfl, rfl, rfl, rfl, rfl, rfl, rfl, rfl⟩

/-- `patrolToOff` changes no other field of the state than: patrol. -/
@[simp] theorem patrolToOff_frame (s : State) :
    (patrolToOff s).pending = s.pending ∧ (patrolToOff s).device = s.device ∧
    (patrolToOff s).cwb = s.cwb ∧ (patrolToOff s).memReady = s.memReady ∧
    (patrolToOff s).uport = s.uport ∧ (patrolToOff s).regions = s.regions ∧
    (patrolToOff s).settings = s.settings ∧ (patrolToOff s).contexts = s.contexts ∧
    (patrolToOff s).held = s.held ∧ (patrolToOff s).journal = s.journal ∧
    (patrolToOff s).queue = s.queue ∧ (patrolToOff s).engine = s.engine ∧
    (patrolToOff s).jobs = s.jobs ∧ (patrolToOff s).reads = s.reads ∧
    (patrolToOff s).slots = s.slots ∧ (patrolToOff s).dport = s.dport ∧
    (patrolToOff s).startup = s.startup ∧ (patrolToOff s).status = s.status ∧
    (patrolToOff s).freeDraws = s.freeDraws := by
  refine ⟨rfl, rfl, rfl, rfl, rfl, rfl, rfl, rfl, rfl, rfl, rfl, rfl, rfl, rfl, rfl, rfl, rfl, rfl, rfl⟩

/-- `patrolSettle` changes no other field of the state than: patrol. -/
@[simp] theorem patrolSettle_frame (s : State) :
    (patrolSettle s).pending = s.pending ∧ (patrolSettle s).device = s.device ∧
    (patrolSettle s).cwb = s.cwb ∧ (patrolSettle s).memReady = s.memReady ∧
    (patrolSettle s).uport = s.uport ∧ (patrolSettle s).regions = s.regions ∧
    (patrolSettle s).settings = s.settings ∧ (patrolSettle s).contexts = s.contexts ∧
    (patrolSettle s).held = s.held ∧ (patrolSettle s).journal = s.journal ∧
    (patrolSettle s).queue = s.queue ∧ (patrolSettle s).engine = s.engine ∧
    (patrolSettle s).jobs = s.jobs ∧ (patrolSettle s).reads = s.reads ∧
    (patrolSettle s).slots = s.slots ∧ (patrolSettle s).dport = s.dport ∧
    (patrolSettle s).startup = s.startup ∧ (patrolSettle s).status = s.status ∧
    (patrolSettle s).freeDraws = s.freeDraws := by
  unfold patrolSettle; try dsimp only
  (repeat' split) <;> simp

/-- `placeCursor` changes no other field of the state than: patrol. -/
@[simp] theorem placeCursor_frame (s : State) :
    (placeCursor s).pending = s.pending ∧ (placeCursor s).device = s.device ∧
    (placeCursor s).cwb = s.cwb ∧ (placeCursor s).memReady = s.memReady ∧
    (placeCursor s).uport = s.uport ∧ (placeCursor s).regions = s.regions ∧
    (placeCursor s).settings = s.settings ∧ (placeCursor s).contexts = s.contexts ∧
    (placeCursor s).held = s.held ∧ (placeCursor s).journal = s.journal ∧
    (placeCursor s).queue = s.queue ∧ (placeCursor s).engine = s.engine ∧
    (placeCursor s).jobs = s.jobs ∧ (placeCursor s).reads = s.reads ∧
    (placeCursor s).slots = s.slots ∧ (placeCursor s).dport = s.dport ∧
    (placeCursor s).startup = s.startup ∧ (placeCursor s).status = s.status ∧
    (placeCursor s).freeDraws = s.freeDraws := by
  refine ⟨rfl, rfl, rfl, rfl, rfl, rfl, rfl, rfl, rfl, rfl, rfl, rfl, rfl, rfl, rfl, rfl, rfl, rfl, rfl⟩

/-- `patrolRejudge` changes no other field of the state than: patrol. -/
@[simp] theorem patrolRejudge_frame (s : State) :
    (patrolRejudge s).pending = s.pending ∧ (patrolRejudge s).device = s.device ∧
    (patrolRejudge s).cwb = s.cwb ∧ (patrolRejudge s).memReady = s.memReady ∧
    (patrolRejudge s).uport = s.uport ∧ (patrolRejudge s).regions = s.regions ∧
    (patrolRejudge s).settings = s.settings ∧ (patrolRejudge s).contexts = s.contexts ∧
    (patrolRejudge s).held = s.held ∧ (patrolRejudge s).journal = s.journal ∧
    (patrolRejudge s).queue = s.queue ∧ (patrolRejudge s).engine = s.engine ∧
    (patrolRejudge s).jobs = s.jobs ∧ (patrolRejudge s).reads = s.reads ∧
    (patrolRejudge s).slots = s.slots ∧ (patrolRejudge s).dport = s.dport ∧
    (patrolRejudge s).startup = s.startup ∧ (patrolRejudge s).status = s.status ∧
    (patrolRejudge s).freeDraws = s.freeDraws := by
  unfold patrolRejudge; try dsimp only
  (repeat' split) <;> simp

/-- `patrolInstall` changes no other field of the state than: patrol. -/
@[simp] theorem patrolInstall_frame (s : State) :
    (patrolInstall s).pending = s.pending ∧ (patrolInstall s).device = s.device ∧
    (patrolInstall s).cwb = s.cwb ∧ (patrolInstall s).memReady = s.memReady ∧
    (patrolInstall s).uport = s.uport ∧ (patrolInstall s).regions = s.regions ∧
    (patrolInstall s).settings = s.settings ∧ (patrolInstall s).contexts = s.contexts ∧
    (patrolInstall s).held = s.held ∧ (patrolInstall s).journal = s.journal ∧
    (patrolInstall s).queue = s.queue ∧ (patrolInstall s).engine = s.engine ∧
    (patrolInstall s).jobs = s.jobs ∧ (patrolInstall s).reads = s.reads ∧
    (patrolInstall s).slots = s.slots ∧ (patrolInstall s).dport = s.dport ∧
    (patrolInstall s).startup = s.startup ∧ (patrolInstall s).status = s.status ∧
    (patrolInstall s).freeDraws = s.freeDraws := by
  simp [patrolInstall]

/-- `patrolEnterRun` changes no other field of the state than: patrol. -/
@[simp] theorem patrolEnterRun_frame (s : State) :
    (patrolEnterRun s).pending = s.pending ∧ (patrolEnterRun s).device = s.device ∧
    (patrolEnterRun s).cwb = s.cwb ∧ (patrolEnterRun s).memReady = s.memReady ∧
    (patrolEnterRun s).uport = s.uport ∧ (patrolEnterRun s).regions = s.regions ∧
    (patrolEnterRun s).settings = s.settings ∧ (patrolEnterRun s).contexts = s.contexts ∧
    (patrolEnterRun s).held = s.held ∧ (patrolEnterRun s).journal = s.journal ∧
    (patrolEnterRun s).queue = s.queue ∧ (patrolEnterRun s).engine = s.engine ∧
    (patrolEnterRun s).jobs = s.jobs ∧ (patrolEnterRun s).reads = s.reads ∧
    (patrolEnterRun s).slots = s.slots ∧ (patrolEnterRun s).dport = s.dport ∧
    (patrolEnterRun s).startup = s.startup ∧ (patrolEnterRun s).status = s.status ∧
    (patrolEnterRun s).freeDraws = s.freeDraws := by
  simp [patrolEnterRun]

/-- `patrolStartsToWait` changes no other field of the state than: dport. -/
@[simp] theorem patrolStartsToWait_frame (s : State) :
    (patrolStartsToWait s).pending = s.pending ∧ (patrolStartsToWait s).device = s.device ∧
    (patrolStartsToWait s).cwb = s.cwb ∧ (patrolStartsToWait s).memReady = s.memReady ∧
    (patrolStartsToWait s).uport = s.uport ∧ (patrolStartsToWait s).regions = s.regions ∧
    (patrolStartsToWait s).settings = s.settings ∧ (patrolStartsToWait s).contexts = s.contexts ∧
    (patrolStartsToWait s).held = s.held ∧ (patrolStartsToWait s).journal = s.journal ∧
    (patrolStartsToWait s).queue = s.queue ∧ (patrolStartsToWait s).engine = s.engine ∧
    (patrolStartsToWait s).jobs = s.jobs ∧ (patrolStartsToWait s).reads = s.reads ∧
    (patrolStartsToWait s).slots = s.slots ∧ (patrolStartsToWait s).patrol = s.patrol ∧
    (patrolStartsToWait s).startup = s.startup ∧ (patrolStartsToWait s).status = s.status ∧
    (patrolStartsToWait s).freeDraws = s.freeDraws := by
  refine ⟨rfl, rfl, rfl, rfl, rfl, rfl, rfl, rfl, rfl, rfl, rfl, rfl, rfl, rfl, rfl, rfl, rfl, rfl, rfl⟩

/-- `patrolExpires` changes no other field of the state than: patrol, dport. -/
@[simp] theorem patrolExpires_frame (s : State) :
    (patrolExpires s).pending = s.pending ∧ (patrolExpires s).device = s.device ∧
    (patrolExpires s).cwb = s.cwb ∧ (patrolExpires s).memReady = s.memReady ∧
    (patrolExpires s).uport = s.uport ∧ (patrolExpires s).regions = s.regions ∧
    (patrolExpires s).settings = s.settings ∧ (patrolExpires s).contexts = s.contexts ∧
    (patrolExpires s).held = s.held ∧ (patrolExpires s).journal = s.journal ∧
    (patrolExpires s).queue = s.queue ∧ (patrolExpires s).engine = s.engine ∧
    (patrolExpires s).jobs = s.jobs ∧ (patrolExpires s).reads = s.reads ∧
    (patrolExpires s).slots = s.slots ∧ (patrolExpires s).startup = s.startup ∧
    (patrolExpires s).status = s.status ∧ (patrolExpires s).freeDraws = s.freeDraws := by
  unfold patrolExpires; try dsimp only
  (repeat' split) <;> simp

/-- `patrolStepEnds` changes no other field of the state than: patrol. -/
@[simp] theorem patrolStepEnds_frame (s : State) :
    (patrolStepEnds s).pending = s.pending ∧ (patrolStepEnds s).device = s.device ∧
    (patrolStepEnds s).cwb = s.cwb ∧ (patrolStepEnds s).memReady = s.memReady ∧
    (patrolStepEnds s).uport = s.uport ∧ (patrolStepEnds s).regions = s.regions ∧
    (patrolStepEnds s).settings = s.settings ∧ (patrolStepEnds s).contexts = s.contexts ∧
    (patrolStepEnds s).held = s.held ∧ (patrolStepEnds s).journal = s.journal ∧
    (patrolStepEnds s).queue = s.queue ∧ (patrolStepEnds s).engine = s.engine ∧
    (patrolStepEnds s).jobs = s.jobs ∧ (patrolStepEnds s).reads = s.reads ∧
    (patrolStepEnds s).slots = s.slots ∧ (patrolStepEnds s).dport = s.dport ∧
    (patrolStepEnds s).startup = s.startup ∧ (patrolStepEnds s).status = s.status ∧
    (patrolStepEnds s).freeDraws = s.freeDraws := by
  simp [patrolStepEnds]

/-- `patrolBad` changes no other field of the state than: patrol, jobs, status. -/
@[simp] theorem patrolBad_frame (line : Addr) (s : State) :
    (patrolBad line s).pending = s.pending ∧ (patrolBad line s).device = s.device ∧
    (patrolBad line s).cwb = s.cwb ∧ (patrolBad line s).memReady = s.memReady ∧
    (patrolBad line s).uport = s.uport ∧ (patrolBad line s).regions = s.regions ∧
    (patrolBad line s).settings = s.settings ∧ (patrolBad line s).contexts = s.contexts ∧
    (patrolBad line s).held = s.held ∧ (patrolBad line s).journal = s.journal ∧
    (patrolBad line s).queue = s.queue ∧ (patrolBad line s).engine = s.engine ∧
    (patrolBad line s).reads = s.reads ∧ (patrolBad line s).slots = s.slots ∧
    (patrolBad line s).dport = s.dport ∧ (patrolBad line s).startup = s.startup ∧
    (patrolBad line s).freeDraws = s.freeDraws := by
  simp [patrolBad]

/-- `patrolReadAnswered` changes no other field of the state than: patrol, jobs, dport, status. -/
@[simp] theorem patrolReadAnswered_frame (line : Addr) (r : Reply) (s : State) :
    (patrolReadAnswered line r s).pending = s.pending ∧ (patrolReadAnswered line r s).device = s.device ∧
    (patrolReadAnswered line r s).cwb = s.cwb ∧ (patrolReadAnswered line r s).memReady = s.memReady ∧
    (patrolReadAnswered line r s).uport = s.uport ∧ (patrolReadAnswered line r s).regions = s.regions ∧
    (patrolReadAnswered line r s).settings = s.settings ∧ (patrolReadAnswered line r s).contexts = s.contexts ∧
    (patrolReadAnswered line r s).held = s.held ∧ (patrolReadAnswered line r s).journal = s.journal ∧
    (patrolReadAnswered line r s).queue = s.queue ∧ (patrolReadAnswered line r s).engine = s.engine ∧
    (patrolReadAnswered line r s).reads = s.reads ∧ (patrolReadAnswered line r s).slots = s.slots ∧
    (patrolReadAnswered line r s).startup = s.startup ∧ (patrolReadAnswered line r s).freeDraws = s.freeDraws := by
  unfold patrolReadAnswered; try dsimp only
  (repeat' split) <;> simp

/-- `patrolRenewAnswered` changes no other field of the state than: device, uport, patrol, jobs, dport, status. -/
@[simp] theorem patrolRenewAnswered_frame (r : Reply) (s : State) :
    (patrolRenewAnswered r s).pending = s.pending ∧ (patrolRenewAnswered r s).cwb = s.cwb ∧
    (patrolRenewAnswered r s).memReady = s.memReady ∧ (patrolRenewAnswered r s).regions = s.regions ∧
    (patrolRenewAnswered r s).settings = s.settings ∧ (patrolRenewAnswered r s).contexts = s.contexts ∧
    (patrolRenewAnswered r s).held = s.held ∧ (patrolRenewAnswered r s).journal = s.journal ∧
    (patrolRenewAnswered r s).queue = s.queue ∧ (patrolRenewAnswered r s).engine = s.engine ∧
    (patrolRenewAnswered r s).reads = s.reads ∧ (patrolRenewAnswered r s).slots = s.slots ∧
    (patrolRenewAnswered r s).startup = s.startup ∧ (patrolRenewAnswered r s).freeDraws = s.freeDraws := by
  unfold patrolRenewAnswered; try dsimp only
  (repeat' split) <;> simp

/-- `patrolAnswered` changes no other field of the state than: device, uport, patrol, jobs, dport, status. -/
@[simp] theorem patrolAnswered_frame (r : Reply) (s : State) :
    (patrolAnswered r s).pending = s.pending ∧ (patrolAnswered r s).cwb = s.cwb ∧
    (patrolAnswered r s).memReady = s.memReady ∧ (patrolAnswered r s).regions = s.regions ∧
    (patrolAnswered r s).settings = s.settings ∧ (patrolAnswered r s).contexts = s.contexts ∧
    (patrolAnswered r s).held = s.held ∧ (patrolAnswered r s).journal = s.journal ∧
    (patrolAnswered r s).queue = s.queue ∧ (patrolAnswered r s).engine = s.engine ∧
    (patrolAnswered r s).reads = s.reads ∧ (patrolAnswered r s).slots = s.slots ∧
    (patrolAnswered r s).startup = s.startup ∧ (patrolAnswered r s).freeDraws = s.freeDraws := by
  unfold patrolAnswered; try dsimp only
  (repeat' split) <;> simp

/-! ## The Write Engine's responses -/

/-- `oldReadAnswered` changes no other field of the state than: engine, jobs, status. -/
@[simp] theorem oldReadAnswered_frame (e : PostedEntry) (r : Reply) (s : State) :
    (oldReadAnswered e r s).pending = s.pending ∧ (oldReadAnswered e r s).device = s.device ∧
    (oldReadAnswered e r s).cwb = s.cwb ∧ (oldReadAnswered e r s).memReady = s.memReady ∧
    (oldReadAnswered e r s).uport = s.uport ∧ (oldReadAnswered e r s).regions = s.regions ∧
    (oldReadAnswered e r s).settings = s.settings ∧ (oldReadAnswered e r s).contexts = s.contexts ∧
    (oldReadAnswered e r s).held = s.held ∧ (oldReadAnswered e r s).journal = s.journal ∧
    (oldReadAnswered e r s).queue = s.queue ∧ (oldReadAnswered e r s).reads = s.reads ∧
    (oldReadAnswered e r s).slots = s.slots ∧ (oldReadAnswered e r s).patrol = s.patrol ∧
    (oldReadAnswered e r s).dport = s.dport ∧ (oldReadAnswered e r s).startup = s.startup ∧
    (oldReadAnswered e r s).freeDraws = s.freeDraws := by
  unfold oldReadAnswered; try dsimp only
  (repeat' split) <;> simp

/-- `recordDataAnswered` changes no other field of the state than: device, uport, engine, jobs, dport, status. -/
@[simp] theorem recordDataAnswered_frame (q : Option Seq) (r : Reply) (s : State) :
    (recordDataAnswered q r s).pending = s.pending ∧ (recordDataAnswered q r s).cwb = s.cwb ∧
    (recordDataAnswered q r s).memReady = s.memReady ∧ (recordDataAnswered q r s).regions = s.regions ∧
    (recordDataAnswered q r s).settings = s.settings ∧ (recordDataAnswered q r s).contexts = s.contexts ∧
    (recordDataAnswered q r s).held = s.held ∧ (recordDataAnswered q r s).journal = s.journal ∧
    (recordDataAnswered q r s).queue = s.queue ∧ (recordDataAnswered q r s).reads = s.reads ∧
    (recordDataAnswered q r s).slots = s.slots ∧ (recordDataAnswered q r s).patrol = s.patrol ∧
    (recordDataAnswered q r s).startup = s.startup ∧ (recordDataAnswered q r s).freeDraws = s.freeDraws := by
  unfold recordDataAnswered; try dsimp only
  (repeat' split) <;> simp

/-- `recordHeaderAnswered` changes no other field of the state than: device, uport, held, engine, jobs, dport, status. -/
@[simp] theorem recordHeaderAnswered_frame (e : PostedEntry) (r : Reply) (s : State) :
    (recordHeaderAnswered e r s).pending = s.pending ∧ (recordHeaderAnswered e r s).cwb = s.cwb ∧
    (recordHeaderAnswered e r s).memReady = s.memReady ∧ (recordHeaderAnswered e r s).regions = s.regions ∧
    (recordHeaderAnswered e r s).settings = s.settings ∧ (recordHeaderAnswered e r s).contexts = s.contexts ∧
    (recordHeaderAnswered e r s).journal = s.journal ∧ (recordHeaderAnswered e r s).queue = s.queue ∧
    (recordHeaderAnswered e r s).reads = s.reads ∧ (recordHeaderAnswered e r s).slots = s.slots ∧
    (recordHeaderAnswered e r s).patrol = s.patrol ∧ (recordHeaderAnswered e r s).startup = s.startup ∧
    (recordHeaderAnswered e r s).freeDraws = s.freeDraws := by
  unfold recordHeaderAnswered; try dsimp only
  (repeat' split) <;> simp

/-- `dataWriteAnswered` changes no other field of the state than: device, uport, queue, engine, jobs, reads, dport, status. -/
@[simp] theorem dataWriteAnswered_frame (e : PostedEntry) (r : Reply) (s : State) :
    (dataWriteAnswered e r s).pending = s.pending ∧ (dataWriteAnswered e r s).cwb = s.cwb ∧
    (dataWriteAnswered e r s).memReady = s.memReady ∧ (dataWriteAnswered e r s).regions = s.regions ∧
    (dataWriteAnswered e r s).settings = s.settings ∧ (dataWriteAnswered e r s).contexts = s.contexts ∧
    (dataWriteAnswered e r s).held = s.held ∧ (dataWriteAnswered e r s).journal = s.journal ∧
    (dataWriteAnswered e r s).slots = s.slots ∧ (dataWriteAnswered e r s).patrol = s.patrol ∧
    (dataWriteAnswered e r s).startup = s.startup ∧ (dataWriteAnswered e r s).freeDraws = s.freeDraws := by
  unfold dataWriteAnswered; try dsimp only
  (repeat' split) <;> simp

/-- `entryAnswered` changes no other field of the state than: device, uport, held, queue, engine, jobs, reads, dport, status. -/
@[simp] theorem entryAnswered_frame (e : PostedEntry) (step : EntryStep) (r : Reply) (s : State) :
    (entryAnswered e step r s).pending = s.pending ∧ (entryAnswered e step r s).cwb = s.cwb ∧
    (entryAnswered e step r s).memReady = s.memReady ∧ (entryAnswered e step r s).regions = s.regions ∧
    (entryAnswered e step r s).settings = s.settings ∧ (entryAnswered e step r s).contexts = s.contexts ∧
    (entryAnswered e step r s).journal = s.journal ∧ (entryAnswered e step r s).slots = s.slots ∧
    (entryAnswered e step r s).patrol = s.patrol ∧ (entryAnswered e step r s).startup = s.startup ∧
    (entryAnswered e step r s).freeDraws = s.freeDraws := by
  unfold entryAnswered; try dsimp only
  (repeat' split) <;> simp

/-- `openRecordDone` changes no other field of the state than: contexts, engine, jobs. -/
@[simp] theorem openRecordDone_frame (k : Requester) (s : State) :
    (openRecordDone k s).pending = s.pending ∧ (openRecordDone k s).device = s.device ∧
    (openRecordDone k s).cwb = s.cwb ∧ (openRecordDone k s).memReady = s.memReady ∧
    (openRecordDone k s).uport = s.uport ∧ (openRecordDone k s).regions = s.regions ∧
    (openRecordDone k s).settings = s.settings ∧ (openRecordDone k s).held = s.held ∧
    (openRecordDone k s).journal = s.journal ∧ (openRecordDone k s).queue = s.queue ∧
    (openRecordDone k s).reads = s.reads ∧ (openRecordDone k s).slots = s.slots ∧
    (openRecordDone k s).patrol = s.patrol ∧ (openRecordDone k s).dport = s.dport ∧
    (openRecordDone k s).startup = s.startup ∧ (openRecordDone k s).status = s.status ∧
    (openRecordDone k s).freeDraws = s.freeDraws := by
  simp [openRecordDone]

/-- `closeContext` changes no other field of the state than: contexts, journal, jobs, status. -/
@[simp] theorem closeContext_frame (k : Requester) (s : State) :
    (closeContext k s).pending = s.pending ∧ (closeContext k s).device = s.device ∧
    (closeContext k s).cwb = s.cwb ∧ (closeContext k s).memReady = s.memReady ∧
    (closeContext k s).uport = s.uport ∧ (closeContext k s).regions = s.regions ∧
    (closeContext k s).settings = s.settings ∧ (closeContext k s).held = s.held ∧
    (closeContext k s).queue = s.queue ∧ (closeContext k s).engine = s.engine ∧
    (closeContext k s).reads = s.reads ∧ (closeContext k s).slots = s.slots ∧
    (closeContext k s).patrol = s.patrol ∧ (closeContext k s).dport = s.dport ∧
    (closeContext k s).startup = s.startup ∧ (closeContext k s).freeDraws = s.freeDraws := by
  simp [closeContext]

/-- `commitMarkerDone` changes no other field of the state than: contexts, held, journal, engine, jobs, status. -/
@[simp] theorem commitMarkerDone_frame (k : Requester) (s : State) :
    (commitMarkerDone k s).pending = s.pending ∧ (commitMarkerDone k s).device = s.device ∧
    (commitMarkerDone k s).cwb = s.cwb ∧ (commitMarkerDone k s).memReady = s.memReady ∧
    (commitMarkerDone k s).uport = s.uport ∧ (commitMarkerDone k s).regions = s.regions ∧
    (commitMarkerDone k s).settings = s.settings ∧ (commitMarkerDone k s).queue = s.queue ∧
    (commitMarkerDone k s).reads = s.reads ∧ (commitMarkerDone k s).slots = s.slots ∧
    (commitMarkerDone k s).patrol = s.patrol ∧ (commitMarkerDone k s).dport = s.dport ∧
    (commitMarkerDone k s).startup = s.startup ∧ (commitMarkerDone k s).freeDraws = s.freeDraws := by
  simp [commitMarkerDone]

/-- `abortedMarkerDone` changes no other field of the state than: contexts, journal, engine, jobs, status. -/
@[simp] theorem abortedMarkerDone_frame (k : Requester) (s : State) :
    (abortedMarkerDone k s).pending = s.pending ∧ (abortedMarkerDone k s).device = s.device ∧
    (abortedMarkerDone k s).cwb = s.cwb ∧ (abortedMarkerDone k s).memReady = s.memReady ∧
    (abortedMarkerDone k s).uport = s.uport ∧ (abortedMarkerDone k s).regions = s.regions ∧
    (abortedMarkerDone k s).settings = s.settings ∧ (abortedMarkerDone k s).held = s.held ∧
    (abortedMarkerDone k s).queue = s.queue ∧ (abortedMarkerDone k s).reads = s.reads ∧
    (abortedMarkerDone k s).slots = s.slots ∧ (abortedMarkerDone k s).patrol = s.patrol ∧
    (abortedMarkerDone k s).dport = s.dport ∧ (abortedMarkerDone k s).startup = s.startup ∧
    (abortedMarkerDone k s).freeDraws = s.freeDraws := by
  simp [abortedMarkerDone]

/-- `formatLineDone` changes no other field of the state than: engine, jobs. -/
@[simp] theorem formatLineDone_frame (i : Nat) (s : State) :
    (formatLineDone i s).pending = s.pending ∧ (formatLineDone i s).device = s.device ∧
    (formatLineDone i s).cwb = s.cwb ∧ (formatLineDone i s).memReady = s.memReady ∧
    (formatLineDone i s).uport = s.uport ∧ (formatLineDone i s).regions = s.regions ∧
    (formatLineDone i s).settings = s.settings ∧ (formatLineDone i s).contexts = s.contexts ∧
    (formatLineDone i s).held = s.held ∧ (formatLineDone i s).journal = s.journal ∧
    (formatLineDone i s).queue = s.queue ∧ (formatLineDone i s).reads = s.reads ∧
    (formatLineDone i s).slots = s.slots ∧ (formatLineDone i s).patrol = s.patrol ∧
    (formatLineDone i s).dport = s.dport ∧ (formatLineDone i s).startup = s.startup ∧
    (formatLineDone i s).status = s.status ∧ (formatLineDone i s).freeDraws = s.freeDraws := by
  simp [formatLineDone]

/-- `descriptorWriteDone` changes no other field of the state than: journal, engine, jobs, status. -/
@[simp] theorem descriptorWriteDone_frame (s : State) :
    (descriptorWriteDone s).pending = s.pending ∧ (descriptorWriteDone s).device = s.device ∧
    (descriptorWriteDone s).cwb = s.cwb ∧ (descriptorWriteDone s).memReady = s.memReady ∧
    (descriptorWriteDone s).uport = s.uport ∧ (descriptorWriteDone s).regions = s.regions ∧
    (descriptorWriteDone s).settings = s.settings ∧ (descriptorWriteDone s).contexts = s.contexts ∧
    (descriptorWriteDone s).held = s.held ∧ (descriptorWriteDone s).queue = s.queue ∧
    (descriptorWriteDone s).reads = s.reads ∧ (descriptorWriteDone s).slots = s.slots ∧
    (descriptorWriteDone s).patrol = s.patrol ∧ (descriptorWriteDone s).dport = s.dport ∧
    (descriptorWriteDone s).startup = s.startup ∧ (descriptorWriteDone s).freeDraws = s.freeDraws := by
  simp [descriptorWriteDone]

/-- `resultRecordDone` changes no other field of the state than: engine, jobs, slots, status. -/
@[simp] theorem resultRecordDone_frame (k : Requester) (s : State) :
    (resultRecordDone k s).pending = s.pending ∧ (resultRecordDone k s).device = s.device ∧
    (resultRecordDone k s).cwb = s.cwb ∧ (resultRecordDone k s).memReady = s.memReady ∧
    (resultRecordDone k s).uport = s.uport ∧ (resultRecordDone k s).regions = s.regions ∧
    (resultRecordDone k s).settings = s.settings ∧ (resultRecordDone k s).contexts = s.contexts ∧
    (resultRecordDone k s).held = s.held ∧ (resultRecordDone k s).journal = s.journal ∧
    (resultRecordDone k s).queue = s.queue ∧ (resultRecordDone k s).reads = s.reads ∧
    (resultRecordDone k s).patrol = s.patrol ∧ (resultRecordDone k s).dport = s.dport ∧
    (resultRecordDone k s).startup = s.startup ∧ (resultRecordDone k s).freeDraws = s.freeDraws := by
  simp [resultRecordDone]

/-- `jobWriteDone` changes no other field of the state than: contexts, held, journal, engine, jobs, slots, status. -/
@[simp] theorem jobWriteDone_frame (k : Requester) (step : JobStep) (s : State) :
    (jobWriteDone k s step).pending = s.pending ∧ (jobWriteDone k s step).device = s.device ∧
    (jobWriteDone k s step).cwb = s.cwb ∧ (jobWriteDone k s step).memReady = s.memReady ∧
    (jobWriteDone k s step).uport = s.uport ∧ (jobWriteDone k s step).regions = s.regions ∧
    (jobWriteDone k s step).settings = s.settings ∧ (jobWriteDone k s step).queue = s.queue ∧
    (jobWriteDone k s step).reads = s.reads ∧ (jobWriteDone k s step).patrol = s.patrol ∧
    (jobWriteDone k s step).dport = s.dport ∧ (jobWriteDone k s step).startup = s.startup ∧
    (jobWriteDone k s step).freeDraws = s.freeDraws := by
  unfold jobWriteDone; split <;> simp

/-- `jobWriteAnswered` changes no other field of the state than: device, uport, contexts, held, journal, engine, jobs, slots, dport, status. -/
@[simp] theorem jobWriteAnswered_frame (k : Requester) (step : JobStep) (r : Reply) (s : State) :
    (jobWriteAnswered k step r s).pending = s.pending ∧ (jobWriteAnswered k step r s).cwb = s.cwb ∧
    (jobWriteAnswered k step r s).memReady = s.memReady ∧ (jobWriteAnswered k step r s).regions = s.regions ∧
    (jobWriteAnswered k step r s).settings = s.settings ∧ (jobWriteAnswered k step r s).queue = s.queue ∧
    (jobWriteAnswered k step r s).reads = s.reads ∧ (jobWriteAnswered k step r s).patrol = s.patrol ∧
    (jobWriteAnswered k step r s).startup = s.startup ∧ (jobWriteAnswered k step r s).freeDraws = s.freeDraws := by
  unfold jobWriteAnswered; try dsimp only
  (repeat' split) <;> simp

/-- `restoreHeaderAnswered` changes no other field of the state than: engine. -/
@[simp] theorem restoreHeaderAnswered_frame (line : Addr) (q : Seq) (r : Reply) (s : State) :
    (restoreHeaderAnswered line q r s).pending = s.pending ∧ (restoreHeaderAnswered line q r s).device = s.device ∧
    (restoreHeaderAnswered line q r s).cwb = s.cwb ∧ (restoreHeaderAnswered line q r s).memReady = s.memReady ∧
    (restoreHeaderAnswered line q r s).uport = s.uport ∧ (restoreHeaderAnswered line q r s).regions = s.regions ∧
    (restoreHeaderAnswered line q r s).settings = s.settings ∧ (restoreHeaderAnswered line q r s).contexts = s.contexts ∧
    (restoreHeaderAnswered line q r s).held = s.held ∧ (restoreHeaderAnswered line q r s).journal = s.journal ∧
    (restoreHeaderAnswered line q r s).queue = s.queue ∧ (restoreHeaderAnswered line q r s).jobs = s.jobs ∧
    (restoreHeaderAnswered line q r s).reads = s.reads ∧ (restoreHeaderAnswered line q r s).slots = s.slots ∧
    (restoreHeaderAnswered line q r s).patrol = s.patrol ∧ (restoreHeaderAnswered line q r s).dport = s.dport ∧
    (restoreHeaderAnswered line q r s).startup = s.startup ∧ (restoreHeaderAnswered line q r s).status = s.status ∧
    (restoreHeaderAnswered line q r s).freeDraws = s.freeDraws := by
  simp [restoreHeaderAnswered]

/-- `restoreDataAnswered` changes no other field of the state than: engine, status. -/
@[simp] theorem restoreDataAnswered_frame (k : Requester) (line : Addr) (q : Seq) (header : Option Line) (r : Reply) (s : State) :
    (restoreDataAnswered k line q header r s).pending = s.pending ∧ (restoreDataAnswered k line q header r s).device = s.device ∧
    (restoreDataAnswered k line q header r s).cwb = s.cwb ∧ (restoreDataAnswered k line q header r s).memReady = s.memReady ∧
    (restoreDataAnswered k line q header r s).uport = s.uport ∧ (restoreDataAnswered k line q header r s).regions = s.regions ∧
    (restoreDataAnswered k line q header r s).settings = s.settings ∧ (restoreDataAnswered k line q header r s).contexts = s.contexts ∧
    (restoreDataAnswered k line q header r s).held = s.held ∧ (restoreDataAnswered k line q header r s).journal = s.journal ∧
    (restoreDataAnswered k line q header r s).queue = s.queue ∧ (restoreDataAnswered k line q header r s).jobs = s.jobs ∧
    (restoreDataAnswered k line q header r s).reads = s.reads ∧ (restoreDataAnswered k line q header r s).slots = s.slots ∧
    (restoreDataAnswered k line q header r s).patrol = s.patrol ∧ (restoreDataAnswered k line q header r s).dport = s.dport ∧
    (restoreDataAnswered k line q header r s).startup = s.startup ∧ (restoreDataAnswered k line q header r s).freeDraws = s.freeDraws := by
  simp [restoreDataAnswered]

/-- `restoreWriteAnswered` changes no other field of the state than: device, uport, contexts, held, engine, jobs, dport, status. -/
@[simp] theorem restoreWriteAnswered_frame (k : Requester) (line : Addr) (good : Bool) (r : Reply) (s : State) :
    (restoreWriteAnswered k line good r s).pending = s.pending ∧ (restoreWriteAnswered k line good r s).cwb = s.cwb ∧
    (restoreWriteAnswered k line good r s).memReady = s.memReady ∧ (restoreWriteAnswered k line good r s).regions = s.regions ∧
    (restoreWriteAnswered k line good r s).settings = s.settings ∧ (restoreWriteAnswered k line good r s).journal = s.journal ∧
    (restoreWriteAnswered k line good r s).queue = s.queue ∧ (restoreWriteAnswered k line good r s).reads = s.reads ∧
    (restoreWriteAnswered k line good r s).slots = s.slots ∧ (restoreWriteAnswered k line good r s).patrol = s.patrol ∧
    (restoreWriteAnswered k line good r s).startup = s.startup ∧ (restoreWriteAnswered k line good r s).freeDraws = s.freeDraws := by
  unfold restoreWriteAnswered; try dsimp only
  (repeat' split) <;> simp

/-- `restoreAnswered` changes no other field of the state than: device, uport, contexts, held, engine, jobs, dport, status. -/
@[simp] theorem restoreAnswered_frame (k : Requester) (line : Addr) (q : Seq) (phase : RestorePhase) (r : Reply) (s : State) :
    (restoreAnswered k line q phase r s).pending = s.pending ∧ (restoreAnswered k line q phase r s).cwb = s.cwb ∧
    (restoreAnswered k line q phase r s).memReady = s.memReady ∧ (restoreAnswered k line q phase r s).regions = s.regions ∧
    (restoreAnswered k line q phase r s).settings = s.settings ∧ (restoreAnswered k line q phase r s).journal = s.journal ∧
    (restoreAnswered k line q phase r s).queue = s.queue ∧ (restoreAnswered k line q phase r s).reads = s.reads ∧
    (restoreAnswered k line q phase r s).slots = s.slots ∧ (restoreAnswered k line q phase r s).patrol = s.patrol ∧
    (restoreAnswered k line q phase r s).startup = s.startup ∧ (restoreAnswered k line q phase r s).freeDraws = s.freeDraws := by
  unfold restoreAnswered; try dsimp only
  (repeat' split) <;> simp

/-- `statusFirstAnswered` changes no other field of the state than: device, uport, engine, jobs, dport, status. -/
@[simp] theorem statusFirstAnswered_frame (second : Option Line) (r : Reply) (s : State) :
    (statusFirstAnswered second r s).pending = s.pending ∧ (statusFirstAnswered second r s).cwb = s.cwb ∧
    (statusFirstAnswered second r s).memReady = s.memReady ∧ (statusFirstAnswered second r s).regions = s.regions ∧
    (statusFirstAnswered second r s).settings = s.settings ∧ (statusFirstAnswered second r s).contexts = s.contexts ∧
    (statusFirstAnswered second r s).held = s.held ∧ (statusFirstAnswered second r s).journal = s.journal ∧
    (statusFirstAnswered second r s).queue = s.queue ∧ (statusFirstAnswered second r s).reads = s.reads ∧
    (statusFirstAnswered second r s).slots = s.slots ∧ (statusFirstAnswered second r s).patrol = s.patrol ∧
    (statusFirstAnswered second r s).startup = s.startup ∧ (statusFirstAnswered second r s).freeDraws = s.freeDraws := by
  unfold statusFirstAnswered; try dsimp only
  (repeat' split) <;> simp

/-- `statusRecordDone` changes no other field of the state than: engine, jobs. -/
@[simp] theorem statusRecordDone_frame (j : Job) (s : State) :
    (statusRecordDone j s).pending = s.pending ∧ (statusRecordDone j s).device = s.device ∧
    (statusRecordDone j s).cwb = s.cwb ∧ (statusRecordDone j s).memReady = s.memReady ∧
    (statusRecordDone j s).uport = s.uport ∧ (statusRecordDone j s).regions = s.regions ∧
    (statusRecordDone j s).settings = s.settings ∧ (statusRecordDone j s).contexts = s.contexts ∧
    (statusRecordDone j s).held = s.held ∧ (statusRecordDone j s).journal = s.journal ∧
    (statusRecordDone j s).queue = s.queue ∧ (statusRecordDone j s).reads = s.reads ∧
    (statusRecordDone j s).slots = s.slots ∧ (statusRecordDone j s).patrol = s.patrol ∧
    (statusRecordDone j s).dport = s.dport ∧ (statusRecordDone j s).startup = s.startup ∧
    (statusRecordDone j s).status = s.status ∧ (statusRecordDone j s).freeDraws = s.freeDraws := by
  unfold statusRecordDone; try dsimp only
  (repeat' split) <;> simp

/-- `statusSecondAnswered` changes no other field of the state than: device, uport, engine, jobs, dport, status. -/
@[simp] theorem statusSecondAnswered_frame (j : Job) (r : Reply) (s : State) :
    (statusSecondAnswered j r s).pending = s.pending ∧ (statusSecondAnswered j r s).cwb = s.cwb ∧
    (statusSecondAnswered j r s).memReady = s.memReady ∧ (statusSecondAnswered j r s).regions = s.regions ∧
    (statusSecondAnswered j r s).settings = s.settings ∧ (statusSecondAnswered j r s).contexts = s.contexts ∧
    (statusSecondAnswered j r s).held = s.held ∧ (statusSecondAnswered j r s).journal = s.journal ∧
    (statusSecondAnswered j r s).queue = s.queue ∧ (statusSecondAnswered j r s).reads = s.reads ∧
    (statusSecondAnswered j r s).slots = s.slots ∧ (statusSecondAnswered j r s).patrol = s.patrol ∧
    (statusSecondAnswered j r s).startup = s.startup ∧ (statusSecondAnswered j r s).freeDraws = s.freeDraws := by
  unfold statusSecondAnswered; try dsimp only
  (repeat' split) <;> simp

/-- `engineAnswered` changes no other field of the state than: device, uport, contexts, held, journal, queue, engine, jobs, reads, slots, dport, status. -/
@[simp] theorem engineAnswered_frame (r : Reply) (s : State) :
    (engineAnswered r s).pending = s.pending ∧ (engineAnswered r s).cwb = s.cwb ∧
    (engineAnswered r s).memReady = s.memReady ∧ (engineAnswered r s).regions = s.regions ∧
    (engineAnswered r s).settings = s.settings ∧ (engineAnswered r s).patrol = s.patrol ∧
    (engineAnswered r s).startup = s.startup ∧ (engineAnswered r s).freeDraws = s.freeDraws := by
  unfold engineAnswered; try dsimp only
  (repeat' split) <;> simp

/-! ## Start-up -/

/-- `updStartup` changes no other field of the state than: startup. -/
@[simp] theorem updStartup_frame (f : Startup → Startup) (s : State) :
    (updStartup f s).pending = s.pending ∧ (updStartup f s).device = s.device ∧
    (updStartup f s).cwb = s.cwb ∧ (updStartup f s).memReady = s.memReady ∧
    (updStartup f s).uport = s.uport ∧ (updStartup f s).regions = s.regions ∧
    (updStartup f s).settings = s.settings ∧ (updStartup f s).contexts = s.contexts ∧
    (updStartup f s).held = s.held ∧ (updStartup f s).journal = s.journal ∧
    (updStartup f s).queue = s.queue ∧ (updStartup f s).engine = s.engine ∧
    (updStartup f s).jobs = s.jobs ∧ (updStartup f s).reads = s.reads ∧
    (updStartup f s).slots = s.slots ∧ (updStartup f s).patrol = s.patrol ∧
    (updStartup f s).dport = s.dport ∧ (updStartup f s).status = s.status ∧
    (updStartup f s).freeDraws = s.freeDraws := by
  refine ⟨rfl, rfl, rfl, rfl, rfl, rfl, rfl, rfl, rfl, rfl, rfl, rfl, rfl, rfl, rfl, rfl, rfl, rfl, rfl⟩

/-- `setStep` changes no other field of the state than: startup. -/
@[simp] theorem setStep_frame (step : StartupStep) (s : State) :
    (setStep step s).pending = s.pending ∧ (setStep step s).device = s.device ∧
    (setStep step s).cwb = s.cwb ∧ (setStep step s).memReady = s.memReady ∧
    (setStep step s).uport = s.uport ∧ (setStep step s).regions = s.regions ∧
    (setStep step s).settings = s.settings ∧ (setStep step s).contexts = s.contexts ∧
    (setStep step s).held = s.held ∧ (setStep step s).journal = s.journal ∧
    (setStep step s).queue = s.queue ∧ (setStep step s).engine = s.engine ∧
    (setStep step s).jobs = s.jobs ∧ (setStep step s).reads = s.reads ∧
    (setStep step s).slots = s.slots ∧ (setStep step s).patrol = s.patrol ∧
    (setStep step s).dport = s.dport ∧ (setStep step s).status = s.status ∧
    (setStep step s).freeDraws = s.freeDraws := by
  refine ⟨rfl, rfl, rfl, rfl, rfl, rfl, rfl, rfl, rfl, rfl, rfl, rfl, rfl, rfl, rfl, rfl, rfl, rfl, rfl⟩

/-- `enterRun` changes no other field of the state than: device, patrol, startup, jobs, status. -/
@[simp] theorem enterRun_frame (s : State) :
    (enterRun s).pending = s.pending ∧ (enterRun s).cwb = s.cwb ∧
    (enterRun s).memReady = s.memReady ∧ (enterRun s).uport = s.uport ∧
    (enterRun s).regions = s.regions ∧ (enterRun s).settings = s.settings ∧
    (enterRun s).contexts = s.contexts ∧ (enterRun s).held = s.held ∧
    (enterRun s).journal = s.journal ∧ (enterRun s).queue = s.queue ∧
    (enterRun s).engine = s.engine ∧ (enterRun s).reads = s.reads ∧
    (enterRun s).slots = s.slots ∧ (enterRun s).dport = s.dport ∧
    (enterRun s).freeDraws = s.freeDraws := by
  simp [enterRun]

/-- `enterRunUnplayed` changes no other field of the state than: device, patrol, startup, jobs, status. -/
@[simp] theorem enterRunUnplayed_frame (s : State) :
    (enterRunUnplayed s).pending = s.pending ∧ (enterRunUnplayed s).cwb = s.cwb ∧
    (enterRunUnplayed s).memReady = s.memReady ∧ (enterRunUnplayed s).uport = s.uport ∧
    (enterRunUnplayed s).regions = s.regions ∧ (enterRunUnplayed s).settings = s.settings ∧
    (enterRunUnplayed s).contexts = s.contexts ∧ (enterRunUnplayed s).held = s.held ∧
    (enterRunUnplayed s).journal = s.journal ∧ (enterRunUnplayed s).queue = s.queue ∧
    (enterRunUnplayed s).engine = s.engine ∧ (enterRunUnplayed s).reads = s.reads ∧
    (enterRunUnplayed s).slots = s.slots ∧ (enterRunUnplayed s).dport = s.dport ∧
    (enterRunUnplayed s).freeDraws = s.freeDraws := by
  simp [enterRunUnplayed]

/-- `enterLoad` changes no other field of the state than: device, memReady, startup. -/
@[simp] theorem enterLoad_frame (s : State) :
    (enterLoad s).pending = s.pending ∧ (enterLoad s).cwb = s.cwb ∧
    (enterLoad s).uport = s.uport ∧ (enterLoad s).regions = s.regions ∧
    (enterLoad s).settings = s.settings ∧ (enterLoad s).contexts = s.contexts ∧
    (enterLoad s).held = s.held ∧ (enterLoad s).journal = s.journal ∧
    (enterLoad s).queue = s.queue ∧ (enterLoad s).engine = s.engine ∧
    (enterLoad s).jobs = s.jobs ∧ (enterLoad s).reads = s.reads ∧
    (enterLoad s).slots = s.slots ∧ (enterLoad s).patrol = s.patrol ∧
    (enterLoad s).dport = s.dport ∧ (enterLoad s).status = s.status ∧
    (enterLoad s).freeDraws = s.freeDraws := by
  simp [enterLoad]

/-- `loadWord` changes no other field of the state than: settings, jobs, status. -/
@[simp] theorem loadWord_frame (bytes : Line) (st : Vector WordStatus 16) (c : ConfigWord) (s : State) :
    (loadWord bytes st s c).pending = s.pending ∧ (loadWord bytes st s c).device = s.device ∧
    (loadWord bytes st s c).cwb = s.cwb ∧ (loadWord bytes st s c).memReady = s.memReady ∧
    (loadWord bytes st s c).uport = s.uport ∧ (loadWord bytes st s c).regions = s.regions ∧
    (loadWord bytes st s c).contexts = s.contexts ∧ (loadWord bytes st s c).held = s.held ∧
    (loadWord bytes st s c).journal = s.journal ∧ (loadWord bytes st s c).queue = s.queue ∧
    (loadWord bytes st s c).engine = s.engine ∧ (loadWord bytes st s c).reads = s.reads ∧
    (loadWord bytes st s c).slots = s.slots ∧ (loadWord bytes st s c).patrol = s.patrol ∧
    (loadWord bytes st s c).dport = s.dport ∧ (loadWord bytes st s c).startup = s.startup ∧
    (loadWord bytes st s c).freeDraws = s.freeDraws := by
  unfold loadWord; split <;> simp

/-- `loadWords` changes no other field of the state than: settings, jobs, status. -/
@[simp] theorem loadWords_frame (bytes : Line) (st : Vector WordStatus 16) (cs : List ConfigWord) (s : State) :
    (cs.foldl (loadWord bytes st) s).pending = s.pending ∧ (cs.foldl (loadWord bytes st) s).device = s.device ∧
    (cs.foldl (loadWord bytes st) s).cwb = s.cwb ∧ (cs.foldl (loadWord bytes st) s).memReady = s.memReady ∧
    (cs.foldl (loadWord bytes st) s).uport = s.uport ∧ (cs.foldl (loadWord bytes st) s).regions = s.regions ∧
    (cs.foldl (loadWord bytes st) s).contexts = s.contexts ∧ (cs.foldl (loadWord bytes st) s).held = s.held ∧
    (cs.foldl (loadWord bytes st) s).journal = s.journal ∧ (cs.foldl (loadWord bytes st) s).queue = s.queue ∧
    (cs.foldl (loadWord bytes st) s).engine = s.engine ∧ (cs.foldl (loadWord bytes st) s).reads = s.reads ∧
    (cs.foldl (loadWord bytes st) s).slots = s.slots ∧ (cs.foldl (loadWord bytes st) s).patrol = s.patrol ∧
    (cs.foldl (loadWord bytes st) s).dport = s.dport ∧ (cs.foldl (loadWord bytes st) s).startup = s.startup ∧
    (cs.foldl (loadWord bytes st) s).freeDraws = s.freeDraws := by
  induction cs generalizing s with
  | nil => simp
  | cons c cs ih => simp [ih]

/-- `configurationAnswered` changes no other field of the state than: settings, startup, jobs, status. -/
@[simp] theorem configurationAnswered_frame (r : Reply) (s : State) :
    (configurationAnswered r s).pending = s.pending ∧ (configurationAnswered r s).device = s.device ∧
    (configurationAnswered r s).cwb = s.cwb ∧ (configurationAnswered r s).memReady = s.memReady ∧
    (configurationAnswered r s).uport = s.uport ∧ (configurationAnswered r s).regions = s.regions ∧
    (configurationAnswered r s).contexts = s.contexts ∧ (configurationAnswered r s).held = s.held ∧
    (configurationAnswered r s).journal = s.journal ∧ (configurationAnswered r s).queue = s.queue ∧
    (configurationAnswered r s).engine = s.engine ∧ (configurationAnswered r s).reads = s.reads ∧
    (configurationAnswered r s).slots = s.slots ∧ (configurationAnswered r s).patrol = s.patrol ∧
    (configurationAnswered r s).dport = s.dport ∧ (configurationAnswered r s).freeDraws = s.freeDraws := by
  unfold configurationAnswered; try dsimp only
  (repeat' split) <;> simp

/-- `setRegion` changes no other field of the state than: regions. -/
@[simp] theorem setRegion_frame (j : Fin 16) (r : Region) (s : State) :
    (setRegion j r s).pending = s.pending ∧ (setRegion j r s).device = s.device ∧
    (setRegion j r s).cwb = s.cwb ∧ (setRegion j r s).memReady = s.memReady ∧
    (setRegion j r s).uport = s.uport ∧ (setRegion j r s).settings = s.settings ∧
    (setRegion j r s).contexts = s.contexts ∧ (setRegion j r s).held = s.held ∧
    (setRegion j r s).journal = s.journal ∧ (setRegion j r s).queue = s.queue ∧
    (setRegion j r s).engine = s.engine ∧ (setRegion j r s).jobs = s.jobs ∧
    (setRegion j r s).reads = s.reads ∧ (setRegion j r s).slots = s.slots ∧
    (setRegion j r s).patrol = s.patrol ∧ (setRegion j r s).dport = s.dport ∧
    (setRegion j r s).startup = s.startup ∧ (setRegion j r s).status = s.status ∧
    (setRegion j r s).freeDraws = s.freeDraws := by
  refine ⟨rfl, rfl, rfl, rfl, rfl, rfl, rfl, rfl, rfl, rfl, rfl, rfl, rfl, rfl, rfl, rfl, rfl, rfl, rfl⟩

/-- `loadRegion` changes no other field of the state than: regions, jobs, status. -/
@[simp] theorem loadRegion_frame (second : Bool) (bytes : Line) (st : Vector WordStatus 16) (i : Fin 8) (s : State) :
    (loadRegion second bytes st s i).pending = s.pending ∧ (loadRegion second bytes st s i).device = s.device ∧
    (loadRegion second bytes st s i).cwb = s.cwb ∧ (loadRegion second bytes st s i).memReady = s.memReady ∧
    (loadRegion second bytes st s i).uport = s.uport ∧ (loadRegion second bytes st s i).settings = s.settings ∧
    (loadRegion second bytes st s i).contexts = s.contexts ∧ (loadRegion second bytes st s i).held = s.held ∧
    (loadRegion second bytes st s i).journal = s.journal ∧ (loadRegion second bytes st s i).queue = s.queue ∧
    (loadRegion second bytes st s i).engine = s.engine ∧ (loadRegion second bytes st s i).reads = s.reads ∧
    (loadRegion second bytes st s i).slots = s.slots ∧ (loadRegion second bytes st s i).patrol = s.patrol ∧
    (loadRegion second bytes st s i).dport = s.dport ∧ (loadRegion second bytes st s i).startup = s.startup ∧
    (loadRegion second bytes st s i).freeDraws = s.freeDraws := by
  unfold loadRegion; simp only []; split <;> simp

/-- `loadRegions` changes no other field of the state than: regions, jobs, status. -/
@[simp] theorem loadRegions_frame (second : Bool) (bytes : Line) (st : Vector WordStatus 16) (l : List (Fin 8)) (s : State) :
    (l.foldl (loadRegion second bytes st) s).pending = s.pending ∧ (l.foldl (loadRegion second bytes st) s).device = s.device ∧
    (l.foldl (loadRegion second bytes st) s).cwb = s.cwb ∧ (l.foldl (loadRegion second bytes st) s).memReady = s.memReady ∧
    (l.foldl (loadRegion second bytes st) s).uport = s.uport ∧ (l.foldl (loadRegion second bytes st) s).settings = s.settings ∧
    (l.foldl (loadRegion second bytes st) s).contexts = s.contexts ∧ (l.foldl (loadRegion second bytes st) s).held = s.held ∧
    (l.foldl (loadRegion second bytes st) s).journal = s.journal ∧ (l.foldl (loadRegion second bytes st) s).queue = s.queue ∧
    (l.foldl (loadRegion second bytes st) s).engine = s.engine ∧ (l.foldl (loadRegion second bytes st) s).reads = s.reads ∧
    (l.foldl (loadRegion second bytes st) s).slots = s.slots ∧ (l.foldl (loadRegion second bytes st) s).patrol = s.patrol ∧
    (l.foldl (loadRegion second bytes st) s).dport = s.dport ∧ (l.foldl (loadRegion second bytes st) s).startup = s.startup ∧
    (l.foldl (loadRegion second bytes st) s).freeDraws = s.freeDraws := by
  induction l generalizing s with
  | nil => simp
  | cons c cs ih => simp [ih]

/-- `resetRegions` changes no other field of the state than: regions. -/
@[simp] theorem resetRegions_frame (second : Bool) (l : List (Fin 8)) (s : State) :
    (l.foldl (fun s i => setRegion (regionIndex second i) Region.reset s) s).pending = s.pending ∧ (l.foldl (fun s i => setRegion (regionIndex second i) Region.reset s) s).device = s.device ∧
    (l.foldl (fun s i => setRegion (regionIndex second i) Region.reset s) s).cwb = s.cwb ∧ (l.foldl (fun s i => setRegion (regionIndex second i) Region.reset s) s).memReady = s.memReady ∧
    (l.foldl (fun s i => setRegion (regionIndex second i) Region.reset s) s).uport = s.uport ∧ (l.foldl (fun s i => setRegion (regionIndex second i) Region.reset s) s).settings = s.settings ∧
    (l.foldl (fun s i => setRegion (regionIndex second i) Region.reset s) s).contexts = s.contexts ∧ (l.foldl (fun s i => setRegion (regionIndex second i) Region.reset s) s).held = s.held ∧
    (l.foldl (fun s i => setRegion (regionIndex second i) Region.reset s) s).journal = s.journal ∧ (l.foldl (fun s i => setRegion (regionIndex second i) Region.reset s) s).queue = s.queue ∧
    (l.foldl (fun s i => setRegion (regionIndex second i) Region.reset s) s).engine = s.engine ∧ (l.foldl (fun s i => setRegion (regionIndex second i) Region.reset s) s).jobs = s.jobs ∧
    (l.foldl (fun s i => setRegion (regionIndex second i) Region.reset s) s).reads = s.reads ∧ (l.foldl (fun s i => setRegion (regionIndex second i) Region.reset s) s).slots = s.slots ∧
    (l.foldl (fun s i => setRegion (regionIndex second i) Region.reset s) s).patrol = s.patrol ∧ (l.foldl (fun s i => setRegion (regionIndex second i) Region.reset s) s).dport = s.dport ∧
    (l.foldl (fun s i => setRegion (regionIndex second i) Region.reset s) s).startup = s.startup ∧ (l.foldl (fun s i => setRegion (regionIndex second i) Region.reset s) s).status = s.status ∧
    (l.foldl (fun s i => setRegion (regionIndex second i) Region.reset s) s).freeDraws = s.freeDraws := by
  induction l generalizing s with
  | nil => simp
  | cons c cs ih => simp [ih]

/-- `regionLineFailed` changes no other field of the state than: regions, jobs, status. -/
@[simp] theorem regionLineFailed_frame (second : Bool) (s : State) :
    (regionLineFailed second s).pending = s.pending ∧ (regionLineFailed second s).device = s.device ∧
    (regionLineFailed second s).cwb = s.cwb ∧ (regionLineFailed second s).memReady = s.memReady ∧
    (regionLineFailed second s).uport = s.uport ∧ (regionLineFailed second s).settings = s.settings ∧
    (regionLineFailed second s).contexts = s.contexts ∧ (regionLineFailed second s).held = s.held ∧
    (regionLineFailed second s).journal = s.journal ∧ (regionLineFailed second s).queue = s.queue ∧
    (regionLineFailed second s).engine = s.engine ∧ (regionLineFailed second s).reads = s.reads ∧
    (regionLineFailed second s).slots = s.slots ∧ (regionLineFailed second s).patrol = s.patrol ∧
    (regionLineFailed second s).dport = s.dport ∧ (regionLineFailed second s).startup = s.startup ∧
    (regionLineFailed second s).freeDraws = s.freeDraws := by
  simp [regionLineFailed]

/-- `regionLineAnswered` changes no other field of the state than: regions, startup, jobs, status. -/
@[simp] theorem regionLineAnswered_frame (second : Bool) (r : Reply) (s : State) :
    (regionLineAnswered second r s).pending = s.pending ∧ (regionLineAnswered second r s).device = s.device ∧
    (regionLineAnswered second r s).cwb = s.cwb ∧ (regionLineAnswered second r s).memReady = s.memReady ∧
    (regionLineAnswered second r s).uport = s.uport ∧ (regionLineAnswered second r s).settings = s.settings ∧
    (regionLineAnswered second r s).contexts = s.contexts ∧ (regionLineAnswered second r s).held = s.held ∧
    (regionLineAnswered second r s).journal = s.journal ∧ (regionLineAnswered second r s).queue = s.queue ∧
    (regionLineAnswered second r s).engine = s.engine ∧ (regionLineAnswered second r s).reads = s.reads ∧
    (regionLineAnswered second r s).slots = s.slots ∧ (regionLineAnswered second r s).patrol = s.patrol ∧
    (regionLineAnswered second r s).dport = s.dport ∧ (regionLineAnswered second r s).freeDraws = s.freeDraws := by
  unfold regionLineAnswered; try dsimp only
  (repeat' split) <;> simp

/-- `descriptorInvalid` changes no other field of the state than: device, journal, patrol, startup, jobs, status. -/
@[simp] theorem descriptorInvalid_frame (s : State) :
    (descriptorInvalid s).pending = s.pending ∧ (descriptorInvalid s).cwb = s.cwb ∧
    (descriptorInvalid s).memReady = s.memReady ∧ (descriptorInvalid s).uport = s.uport ∧
    (descriptorInvalid s).regions = s.regions ∧ (descriptorInvalid s).settings = s.settings ∧
    (descriptorInvalid s).contexts = s.contexts ∧ (descriptorInvalid s).held = s.held ∧
    (descriptorInvalid s).queue = s.queue ∧ (descriptorInvalid s).engine = s.engine ∧
    (descriptorInvalid s).reads = s.reads ∧ (descriptorInvalid s).slots = s.slots ∧
    (descriptorInvalid s).dport = s.dport ∧ (descriptorInvalid s).freeDraws = s.freeDraws := by
  simp [descriptorInvalid]

/-- `descriptorUnreadable` changes no other field of the state than: device, journal, patrol, startup, jobs, status. -/
@[simp] theorem descriptorUnreadable_frame (s : State) :
    (descriptorUnreadable s).pending = s.pending ∧ (descriptorUnreadable s).cwb = s.cwb ∧
    (descriptorUnreadable s).memReady = s.memReady ∧ (descriptorUnreadable s).uport = s.uport ∧
    (descriptorUnreadable s).regions = s.regions ∧ (descriptorUnreadable s).settings = s.settings ∧
    (descriptorUnreadable s).contexts = s.contexts ∧ (descriptorUnreadable s).held = s.held ∧
    (descriptorUnreadable s).queue = s.queue ∧ (descriptorUnreadable s).engine = s.engine ∧
    (descriptorUnreadable s).reads = s.reads ∧ (descriptorUnreadable s).slots = s.slots ∧
    (descriptorUnreadable s).dport = s.dport ∧ (descriptorUnreadable s).freeDraws = s.freeDraws := by
  simp [descriptorUnreadable]

/-- `descriptorValid` changes no other field of the state than: device, journal, startup. -/
@[simp] theorem descriptorValid_frame (g : Geometry) (s : State) :
    (descriptorValid g s).pending = s.pending ∧ (descriptorValid g s).cwb = s.cwb ∧
    (descriptorValid g s).memReady = s.memReady ∧ (descriptorValid g s).uport = s.uport ∧
    (descriptorValid g s).regions = s.regions ∧ (descriptorValid g s).settings = s.settings ∧
    (descriptorValid g s).contexts = s.contexts ∧ (descriptorValid g s).held = s.held ∧
    (descriptorValid g s).queue = s.queue ∧ (descriptorValid g s).engine = s.engine ∧
    (descriptorValid g s).jobs = s.jobs ∧ (descriptorValid g s).reads = s.reads ∧
    (descriptorValid g s).slots = s.slots ∧ (descriptorValid g s).patrol = s.patrol ∧
    (descriptorValid g s).dport = s.dport ∧ (descriptorValid g s).status = s.status ∧
    (descriptorValid g s).freeDraws = s.freeDraws := by
  simp [descriptorValid]

/-- `descriptorAnswered` changes no other field of the state than: device, journal, patrol, startup, jobs, status. -/
@[simp] theorem descriptorAnswered_frame (r : Reply) (s : State) :
    (descriptorAnswered r s).pending = s.pending ∧ (descriptorAnswered r s).cwb = s.cwb ∧
    (descriptorAnswered r s).memReady = s.memReady ∧ (descriptorAnswered r s).uport = s.uport ∧
    (descriptorAnswered r s).regions = s.regions ∧ (descriptorAnswered r s).settings = s.settings ∧
    (descriptorAnswered r s).contexts = s.contexts ∧ (descriptorAnswered r s).held = s.held ∧
    (descriptorAnswered r s).queue = s.queue ∧ (descriptorAnswered r s).engine = s.engine ∧
    (descriptorAnswered r s).reads = s.reads ∧ (descriptorAnswered r s).slots = s.slots ∧
    (descriptorAnswered r s).dport = s.dport ∧ (descriptorAnswered r s).freeDraws = s.freeDraws := by
  unfold descriptorAnswered; try dsimp only
  (repeat' split) <;> simp

/-- `scanFails` changes no other field of the state than: device, journal, patrol, startup, jobs, status. -/
@[simp] theorem scanFails_frame (addr : Addr) (s : State) :
    (scanFails addr s).pending = s.pending ∧ (scanFails addr s).cwb = s.cwb ∧
    (scanFails addr s).memReady = s.memReady ∧ (scanFails addr s).uport = s.uport ∧
    (scanFails addr s).regions = s.regions ∧ (scanFails addr s).settings = s.settings ∧
    (scanFails addr s).contexts = s.contexts ∧ (scanFails addr s).held = s.held ∧
    (scanFails addr s).queue = s.queue ∧ (scanFails addr s).engine = s.engine ∧
    (scanFails addr s).reads = s.reads ∧ (scanFails addr s).slots = s.slots ∧
    (scanFails addr s).dport = s.dport ∧ (scanFails addr s).freeDraws = s.freeDraws := by
  simp [scanFails]

/-- `playNext` changes no other field of the state than: startup. -/
@[simp] theorem playNext_frame (s : State) :
    (playNext s).pending = s.pending ∧ (playNext s).device = s.device ∧
    (playNext s).cwb = s.cwb ∧ (playNext s).memReady = s.memReady ∧
    (playNext s).uport = s.uport ∧ (playNext s).regions = s.regions ∧
    (playNext s).settings = s.settings ∧ (playNext s).contexts = s.contexts ∧
    (playNext s).held = s.held ∧ (playNext s).journal = s.journal ∧
    (playNext s).queue = s.queue ∧ (playNext s).engine = s.engine ∧
    (playNext s).jobs = s.jobs ∧ (playNext s).reads = s.reads ∧
    (playNext s).slots = s.slots ∧ (playNext s).patrol = s.patrol ∧
    (playNext s).dport = s.dport ∧ (playNext s).status = s.status ∧
    (playNext s).freeDraws = s.freeDraws := by
  simp [playNext]

/-- `enterPlayback` changes no other field of the state than: device, startup. -/
@[simp] theorem enterPlayback_frame (s : State) :
    (enterPlayback s).pending = s.pending ∧ (enterPlayback s).cwb = s.cwb ∧
    (enterPlayback s).memReady = s.memReady ∧ (enterPlayback s).uport = s.uport ∧
    (enterPlayback s).regions = s.regions ∧ (enterPlayback s).settings = s.settings ∧
    (enterPlayback s).contexts = s.contexts ∧ (enterPlayback s).held = s.held ∧
    (enterPlayback s).journal = s.journal ∧ (enterPlayback s).queue = s.queue ∧
    (enterPlayback s).engine = s.engine ∧ (enterPlayback s).jobs = s.jobs ∧
    (enterPlayback s).reads = s.reads ∧ (enterPlayback s).slots = s.slots ∧
    (enterPlayback s).patrol = s.patrol ∧ (enterPlayback s).dport = s.dport ∧
    (enterPlayback s).status = s.status ∧ (enterPlayback s).freeDraws = s.freeDraws := by
  simp [enterPlayback]

/-- `recordFindings` changes no other field of the state than: startup. -/
@[simp] theorem recordFindings_frame (m : Option Seq) (run : List SlotSummary) (s : State) :
    (recordFindings m run s).pending = s.pending ∧ (recordFindings m run s).device = s.device ∧
    (recordFindings m run s).cwb = s.cwb ∧ (recordFindings m run s).memReady = s.memReady ∧
    (recordFindings m run s).uport = s.uport ∧ (recordFindings m run s).regions = s.regions ∧
    (recordFindings m run s).settings = s.settings ∧ (recordFindings m run s).contexts = s.contexts ∧
    (recordFindings m run s).held = s.held ∧ (recordFindings m run s).journal = s.journal ∧
    (recordFindings m run s).queue = s.queue ∧ (recordFindings m run s).engine = s.engine ∧
    (recordFindings m run s).jobs = s.jobs ∧ (recordFindings m run s).reads = s.reads ∧
    (recordFindings m run s).slots = s.slots ∧ (recordFindings m run s).patrol = s.patrol ∧
    (recordFindings m run s).dport = s.dport ∧ (recordFindings m run s).status = s.status ∧
    (recordFindings m run s).freeDraws = s.freeDraws := by
  simp [recordFindings]

/-- `takeHead` changes no other field of the state than: journal, freeDraws. -/
@[simp] theorem takeHead_frame (m : Option Seq) (s : State) :
    (takeHead m s).pending = s.pending ∧ (takeHead m s).device = s.device ∧
    (takeHead m s).cwb = s.cwb ∧ (takeHead m s).memReady = s.memReady ∧
    (takeHead m s).uport = s.uport ∧ (takeHead m s).regions = s.regions ∧
    (takeHead m s).settings = s.settings ∧ (takeHead m s).contexts = s.contexts ∧
    (takeHead m s).held = s.held ∧ (takeHead m s).queue = s.queue ∧
    (takeHead m s).engine = s.engine ∧ (takeHead m s).jobs = s.jobs ∧
    (takeHead m s).reads = s.reads ∧ (takeHead m s).slots = s.slots ∧
    (takeHead m s).patrol = s.patrol ∧ (takeHead m s).dport = s.dport ∧
    (takeHead m s).startup = s.startup ∧ (takeHead m s).status = s.status := by
  unfold takeHead; try dsimp only
  (repeat' split) <;> simp

/-- `scanEnds` changes no other field of the state than: device, journal, patrol, startup, jobs, status, freeDraws. -/
@[simp] theorem scanEnds_frame (s : State) :
    (scanEnds s).pending = s.pending ∧ (scanEnds s).cwb = s.cwb ∧
    (scanEnds s).memReady = s.memReady ∧ (scanEnds s).uport = s.uport ∧
    (scanEnds s).regions = s.regions ∧ (scanEnds s).settings = s.settings ∧
    (scanEnds s).contexts = s.contexts ∧ (scanEnds s).held = s.held ∧
    (scanEnds s).queue = s.queue ∧ (scanEnds s).engine = s.engine ∧
    (scanEnds s).reads = s.reads ∧ (scanEnds s).slots = s.slots ∧
    (scanEnds s).dport = s.dport := by
  unfold scanEnds; try dsimp only
  (repeat' split) <;> simp

/-- `scanAnswered` changes no other field of the state than: device, journal, patrol, startup, jobs, status, freeDraws. -/
@[simp] theorem scanAnswered_frame (r : Reply) (s : State) :
    (scanAnswered r s).pending = s.pending ∧ (scanAnswered r s).cwb = s.cwb ∧
    (scanAnswered r s).memReady = s.memReady ∧ (scanAnswered r s).uport = s.uport ∧
    (scanAnswered r s).regions = s.regions ∧ (scanAnswered r s).settings = s.settings ∧
    (scanAnswered r s).contexts = s.contexts ∧ (scanAnswered r s).held = s.held ∧
    (scanAnswered r s).queue = s.queue ∧ (scanAnswered r s).engine = s.engine ∧
    (scanAnswered r s).reads = s.reads ∧ (scanAnswered r s).slots = s.slots ∧
    (scanAnswered r s).dport = s.dport := by
  unfold scanAnswered; try dsimp only
  (repeat' split) <;> simp

/-- `countPlayed` changes no other field of the state than: startup, status. -/
@[simp] theorem countPlayed_frame (good : Bool) (s : State) :
    (countPlayed good s).pending = s.pending ∧ (countPlayed good s).device = s.device ∧
    (countPlayed good s).cwb = s.cwb ∧ (countPlayed good s).memReady = s.memReady ∧
    (countPlayed good s).uport = s.uport ∧ (countPlayed good s).regions = s.regions ∧
    (countPlayed good s).settings = s.settings ∧ (countPlayed good s).contexts = s.contexts ∧
    (countPlayed good s).held = s.held ∧ (countPlayed good s).journal = s.journal ∧
    (countPlayed good s).queue = s.queue ∧ (countPlayed good s).engine = s.engine ∧
    (countPlayed good s).jobs = s.jobs ∧ (countPlayed good s).reads = s.reads ∧
    (countPlayed good s).slots = s.slots ∧ (countPlayed good s).patrol = s.patrol ∧
    (countPlayed good s).dport = s.dport ∧ (countPlayed good s).freeDraws = s.freeDraws := by
  simp [countPlayed]

/-- `playStepEnds` changes no other field of the state than: startup, status. -/
@[simp] theorem playStepEnds_frame (good : Bool) (s : State) :
    (playStepEnds good s).pending = s.pending ∧ (playStepEnds good s).device = s.device ∧
    (playStepEnds good s).cwb = s.cwb ∧ (playStepEnds good s).memReady = s.memReady ∧
    (playStepEnds good s).uport = s.uport ∧ (playStepEnds good s).regions = s.regions ∧
    (playStepEnds good s).settings = s.settings ∧ (playStepEnds good s).contexts = s.contexts ∧
    (playStepEnds good s).held = s.held ∧ (playStepEnds good s).journal = s.journal ∧
    (playStepEnds good s).queue = s.queue ∧ (playStepEnds good s).engine = s.engine ∧
    (playStepEnds good s).jobs = s.jobs ∧ (playStepEnds good s).reads = s.reads ∧
    (playStepEnds good s).slots = s.slots ∧ (playStepEnds good s).patrol = s.patrol ∧
    (playStepEnds good s).dport = s.dport ∧ (playStepEnds good s).freeDraws = s.freeDraws := by
  simp [playStepEnds]

/-- `playHeaderAnswered` changes no other field of the state than: startup. -/
@[simp] theorem playHeaderAnswered_frame (r : Reply) (s : State) :
    (playHeaderAnswered r s).pending = s.pending ∧ (playHeaderAnswered r s).device = s.device ∧
    (playHeaderAnswered r s).cwb = s.cwb ∧ (playHeaderAnswered r s).memReady = s.memReady ∧
    (playHeaderAnswered r s).uport = s.uport ∧ (playHeaderAnswered r s).regions = s.regions ∧
    (playHeaderAnswered r s).settings = s.settings ∧ (playHeaderAnswered r s).contexts = s.contexts ∧
    (playHeaderAnswered r s).held = s.held ∧ (playHeaderAnswered r s).journal = s.journal ∧
    (playHeaderAnswered r s).queue = s.queue ∧ (playHeaderAnswered r s).engine = s.engine ∧
    (playHeaderAnswered r s).jobs = s.jobs ∧ (playHeaderAnswered r s).reads = s.reads ∧
    (playHeaderAnswered r s).slots = s.slots ∧ (playHeaderAnswered r s).patrol = s.patrol ∧
    (playHeaderAnswered r s).dport = s.dport ∧ (playHeaderAnswered r s).status = s.status ∧
    (playHeaderAnswered r s).freeDraws = s.freeDraws := by
  simp [playHeaderAnswered]

/-- `playDataAnswered` changes no other field of the state than: startup, status. -/
@[simp] theorem playDataAnswered_frame (header : Option Line) (r : Reply) (s : State) :
    (playDataAnswered header r s).pending = s.pending ∧ (playDataAnswered header r s).device = s.device ∧
    (playDataAnswered header r s).cwb = s.cwb ∧ (playDataAnswered header r s).memReady = s.memReady ∧
    (playDataAnswered header r s).uport = s.uport ∧ (playDataAnswered header r s).regions = s.regions ∧
    (playDataAnswered header r s).settings = s.settings ∧ (playDataAnswered header r s).contexts = s.contexts ∧
    (playDataAnswered header r s).held = s.held ∧ (playDataAnswered header r s).journal = s.journal ∧
    (playDataAnswered header r s).queue = s.queue ∧ (playDataAnswered header r s).engine = s.engine ∧
    (playDataAnswered header r s).jobs = s.jobs ∧ (playDataAnswered header r s).reads = s.reads ∧
    (playDataAnswered header r s).slots = s.slots ∧ (playDataAnswered header r s).patrol = s.patrol ∧
    (playDataAnswered header r s).dport = s.dport ∧ (playDataAnswered header r s).freeDraws = s.freeDraws := by
  unfold playDataAnswered; try dsimp only
  (repeat' split) <;> simp

/-- `playWriteAnswered` changes no other field of the state than: device, uport, startup, jobs, dport, status. -/
@[simp] theorem playWriteAnswered_frame (good : Bool) (r : Reply) (s : State) :
    (playWriteAnswered good r s).pending = s.pending ∧ (playWriteAnswered good r s).cwb = s.cwb ∧
    (playWriteAnswered good r s).memReady = s.memReady ∧ (playWriteAnswered good r s).regions = s.regions ∧
    (playWriteAnswered good r s).settings = s.settings ∧ (playWriteAnswered good r s).contexts = s.contexts ∧
    (playWriteAnswered good r s).held = s.held ∧ (playWriteAnswered good r s).journal = s.journal ∧
    (playWriteAnswered good r s).queue = s.queue ∧ (playWriteAnswered good r s).engine = s.engine ∧
    (playWriteAnswered good r s).reads = s.reads ∧ (playWriteAnswered good r s).slots = s.slots ∧
    (playWriteAnswered good r s).patrol = s.patrol ∧ (playWriteAnswered good r s).freeDraws = s.freeDraws := by
  unfold playWriteAnswered; try dsimp only
  (repeat' split) <;> simp

/-- `markerDone` changes no other field of the state than: device, journal, patrol, startup, jobs, status. -/
@[simp] theorem markerDone_frame (i : Nat) (s : State) :
    (markerDone i s).pending = s.pending ∧ (markerDone i s).cwb = s.cwb ∧
    (markerDone i s).memReady = s.memReady ∧ (markerDone i s).uport = s.uport ∧
    (markerDone i s).regions = s.regions ∧ (markerDone i s).settings = s.settings ∧
    (markerDone i s).contexts = s.contexts ∧ (markerDone i s).held = s.held ∧
    (markerDone i s).queue = s.queue ∧ (markerDone i s).engine = s.engine ∧
    (markerDone i s).reads = s.reads ∧ (markerDone i s).slots = s.slots ∧
    (markerDone i s).dport = s.dport ∧ (markerDone i s).freeDraws = s.freeDraws := by
  unfold markerDone; try dsimp only
  (repeat' split) <;> simp

/-- `markerAnswered` changes no other field of the state than: device, uport, journal, patrol, startup, jobs, dport, status. -/
@[simp] theorem markerAnswered_frame (i : Nat) (r : Reply) (s : State) :
    (markerAnswered i r s).pending = s.pending ∧ (markerAnswered i r s).cwb = s.cwb ∧
    (markerAnswered i r s).memReady = s.memReady ∧ (markerAnswered i r s).regions = s.regions ∧
    (markerAnswered i r s).settings = s.settings ∧ (markerAnswered i r s).contexts = s.contexts ∧
    (markerAnswered i r s).held = s.held ∧ (markerAnswered i r s).queue = s.queue ∧
    (markerAnswered i r s).engine = s.engine ∧ (markerAnswered i r s).reads = s.reads ∧
    (markerAnswered i r s).slots = s.slots ∧ (markerAnswered i r s).freeDraws = s.freeDraws := by
  unfold markerAnswered; try dsimp only
  (repeat' split) <;> simp

/-- `startupAnswered` changes no other field of the state than: device, uport, regions, settings, journal, patrol, startup, jobs, dport, status, freeDraws. -/
@[simp] theorem startupAnswered_frame (r : Reply) (s : State) :
    (startupAnswered r s).pending = s.pending ∧ (startupAnswered r s).cwb = s.cwb ∧
    (startupAnswered r s).memReady = s.memReady ∧ (startupAnswered r s).contexts = s.contexts ∧
    (startupAnswered r s).held = s.held ∧ (startupAnswered r s).queue = s.queue ∧
    (startupAnswered r s).engine = s.engine ∧ (startupAnswered r s).reads = s.reads ∧
    (startupAnswered r s).slots = s.slots := by
  unfold startupAnswered; try dsimp only
  (repeat' split) <;> simp

/-! ## D-port and settle -/

/-- `issueRequest` changes no other field of the state than: dport. -/
@[simp] theorem issueRequest_frame (client : Client) (req : DportRequest) (s : State) :
    (issueRequest client req s).pending = s.pending ∧ (issueRequest client req s).device = s.device ∧
    (issueRequest client req s).cwb = s.cwb ∧ (issueRequest client req s).memReady = s.memReady ∧
    (issueRequest client req s).uport = s.uport ∧ (issueRequest client req s).regions = s.regions ∧
    (issueRequest client req s).settings = s.settings ∧ (issueRequest client req s).contexts = s.contexts ∧
    (issueRequest client req s).held = s.held ∧ (issueRequest client req s).journal = s.journal ∧
    (issueRequest client req s).queue = s.queue ∧ (issueRequest client req s).engine = s.engine ∧
    (issueRequest client req s).jobs = s.jobs ∧ (issueRequest client req s).reads = s.reads ∧
    (issueRequest client req s).slots = s.slots ∧ (issueRequest client req s).patrol = s.patrol ∧
    (issueRequest client req s).startup = s.startup ∧ (issueRequest client req s).status = s.status ∧
    (issueRequest client req s).freeDraws = s.freeDraws := by
  refine ⟨rfl, rfl, rfl, rfl, rfl, rfl, rfl, rfl, rfl, rfl, rfl, rfl, rfl, rfl, rfl, rfl, rfl, rfl, rfl⟩

/-- `markGrant` changes no other field of the state than: dport. -/
@[simp] theorem markGrant_frame (m : GrantMark) (s : State) :
    (markGrant m s).pending = s.pending ∧ (markGrant m s).device = s.device ∧
    (markGrant m s).cwb = s.cwb ∧ (markGrant m s).memReady = s.memReady ∧
    (markGrant m s).uport = s.uport ∧ (markGrant m s).regions = s.regions ∧
    (markGrant m s).settings = s.settings ∧ (markGrant m s).contexts = s.contexts ∧
    (markGrant m s).held = s.held ∧ (markGrant m s).journal = s.journal ∧
    (markGrant m s).queue = s.queue ∧ (markGrant m s).engine = s.engine ∧
    (markGrant m s).jobs = s.jobs ∧ (markGrant m s).reads = s.reads ∧
    (markGrant m s).slots = s.slots ∧ (markGrant m s).patrol = s.patrol ∧
    (markGrant m s).startup = s.startup ∧ (markGrant m s).status = s.status ∧
    (markGrant m s).freeDraws = s.freeDraws := by
  refine ⟨rfl, rfl, rfl, rfl, rfl, rfl, rfl, rfl, rfl, rfl, rfl, rfl, rfl, rfl, rfl, rfl, rfl, rfl, rfl⟩

/-- `releasePort` changes no other field of the state than: dport. -/
@[simp] theorem releasePort_frame (s : State) :
    (releasePort s).pending = s.pending ∧ (releasePort s).device = s.device ∧
    (releasePort s).cwb = s.cwb ∧ (releasePort s).memReady = s.memReady ∧
    (releasePort s).uport = s.uport ∧ (releasePort s).regions = s.regions ∧
    (releasePort s).settings = s.settings ∧ (releasePort s).contexts = s.contexts ∧
    (releasePort s).held = s.held ∧ (releasePort s).journal = s.journal ∧
    (releasePort s).queue = s.queue ∧ (releasePort s).engine = s.engine ∧
    (releasePort s).jobs = s.jobs ∧ (releasePort s).reads = s.reads ∧
    (releasePort s).slots = s.slots ∧ (releasePort s).patrol = s.patrol ∧
    (releasePort s).startup = s.startup ∧ (releasePort s).status = s.status ∧
    (releasePort s).freeDraws = s.freeDraws := by
  refine ⟨rfl, rfl, rfl, rfl, rfl, rfl, rfl, rfl, rfl, rfl, rfl, rfl, rfl, rfl, rfl, rfl, rfl, rfl, rfl⟩

/-- `entryIssue` changes no other field of the state than: held, journal, engine, freeDraws. -/
@[simp] theorem entryIssue_frame (g : Geometry) (e : PostedEntry) (step : EntryStep) (s : State) :
    ((entryIssue g e s step).1).pending = s.pending ∧ ((entryIssue g e s step).1).device = s.device ∧
    ((entryIssue g e s step).1).cwb = s.cwb ∧ ((entryIssue g e s step).1).memReady = s.memReady ∧
    ((entryIssue g e s step).1).uport = s.uport ∧ ((entryIssue g e s step).1).regions = s.regions ∧
    ((entryIssue g e s step).1).settings = s.settings ∧ ((entryIssue g e s step).1).contexts = s.contexts ∧
    ((entryIssue g e s step).1).queue = s.queue ∧ ((entryIssue g e s step).1).jobs = s.jobs ∧
    ((entryIssue g e s step).1).reads = s.reads ∧ ((entryIssue g e s step).1).slots = s.slots ∧
    ((entryIssue g e s step).1).patrol = s.patrol ∧ ((entryIssue g e s step).1).dport = s.dport ∧
    ((entryIssue g e s step).1).startup = s.startup ∧ ((entryIssue g e s step).1).status = s.status := by
  unfold entryIssue; split <;> simp

/-- `markerIssue` changes no other field of the state than: contexts, journal, slots, freeDraws. -/
@[simp] theorem markerIssue_frame (k : Requester) (j : Job) (step : JobStep) (s : State) :
    ((markerIssue k j s step).1).pending = s.pending ∧ ((markerIssue k j s step).1).device = s.device ∧
    ((markerIssue k j s step).1).cwb = s.cwb ∧ ((markerIssue k j s step).1).memReady = s.memReady ∧
    ((markerIssue k j s step).1).uport = s.uport ∧ ((markerIssue k j s step).1).regions = s.regions ∧
    ((markerIssue k j s step).1).settings = s.settings ∧ ((markerIssue k j s step).1).held = s.held ∧
    ((markerIssue k j s step).1).queue = s.queue ∧ ((markerIssue k j s step).1).engine = s.engine ∧
    ((markerIssue k j s step).1).jobs = s.jobs ∧ ((markerIssue k j s step).1).reads = s.reads ∧
    ((markerIssue k j s step).1).patrol = s.patrol ∧ ((markerIssue k j s step).1).dport = s.dport ∧
    ((markerIssue k j s step).1).startup = s.startup ∧ ((markerIssue k j s step).1).status = s.status := by
  unfold markerIssue; split <;> simp

/-- An issue of the Write Engine changes only the contexts, the held entries, the journal, the engine, the slots, the
status and the free draws. -/
theorem engineIssue_frame (s t : State) (req : DportRequest) (h : engineIssue s = some (t, req)) :
    t.pending = s.pending ∧ t.device = s.device ∧ t.cwb = s.cwb ∧ t.memReady = s.memReady ∧ t.uport = s.uport ∧
    t.regions = s.regions ∧ t.settings = s.settings ∧ t.queue = s.queue ∧ t.jobs = s.jobs ∧ t.reads = s.reads ∧
    t.patrol = s.patrol ∧ t.dport = s.dport ∧ t.startup = s.startup := by
  have he : ∀ g e step, (entryIssue g e s step).1 = t → t.dport = s.dport := fun g e step h => by simp [← h]
  unfold engineIssue at h
  split at h <;> simp only [Option.some.injEq, Prod.ext_iff, reduceCtorEq] at h <;>
    first
    | exact h.elim
    | (obtain ⟨h, -⟩ := h; rw [← h]; simp)

/-- `grantW` changes no other field of the state than: contexts, held, journal, engine, slots, dport, status, freeDraws. -/
@[simp] theorem grantW_frame (s : State) :
    (grantW s).pending = s.pending ∧ (grantW s).device = s.device ∧
    (grantW s).cwb = s.cwb ∧ (grantW s).memReady = s.memReady ∧
    (grantW s).uport = s.uport ∧ (grantW s).regions = s.regions ∧
    (grantW s).settings = s.settings ∧ (grantW s).queue = s.queue ∧
    (grantW s).jobs = s.jobs ∧ (grantW s).reads = s.reads ∧
    (grantW s).patrol = s.patrol ∧ (grantW s).startup = s.startup := by
  unfold grantW
  split
  · simp
  · rename_i t req h
    have hf := engineIssue_frame s t req h
    simp [hf]

/-- `grantR` changes no other field of the state than: reads, dport. -/
@[simp] theorem grantR_frame (s : State) :
    (grantR s).pending = s.pending ∧ (grantR s).device = s.device ∧
    (grantR s).cwb = s.cwb ∧ (grantR s).memReady = s.memReady ∧
    (grantR s).uport = s.uport ∧ (grantR s).regions = s.regions ∧
    (grantR s).settings = s.settings ∧ (grantR s).contexts = s.contexts ∧
    (grantR s).held = s.held ∧ (grantR s).journal = s.journal ∧
    (grantR s).queue = s.queue ∧ (grantR s).engine = s.engine ∧
    (grantR s).jobs = s.jobs ∧ (grantR s).slots = s.slots ∧
    (grantR s).patrol = s.patrol ∧ (grantR s).startup = s.startup ∧
    (grantR s).status = s.status ∧ (grantR s).freeDraws = s.freeDraws := by
  unfold grantR; try dsimp only
  (repeat' split) <;> simp

/-- `grantP` changes no other field of the state than: dport. -/
@[simp] theorem grantP_frame (s : State) :
    (grantP s).pending = s.pending ∧ (grantP s).device = s.device ∧
    (grantP s).cwb = s.cwb ∧ (grantP s).memReady = s.memReady ∧
    (grantP s).uport = s.uport ∧ (grantP s).regions = s.regions ∧
    (grantP s).settings = s.settings ∧ (grantP s).contexts = s.contexts ∧
    (grantP s).held = s.held ∧ (grantP s).journal = s.journal ∧
    (grantP s).queue = s.queue ∧ (grantP s).engine = s.engine ∧
    (grantP s).jobs = s.jobs ∧ (grantP s).reads = s.reads ∧
    (grantP s).slots = s.slots ∧ (grantP s).patrol = s.patrol ∧
    (grantP s).startup = s.startup ∧ (grantP s).status = s.status ∧
    (grantP s).freeDraws = s.freeDraws := by
  unfold grantP; try dsimp only
  (repeat' split) <;> simp

/-- An issue of the Start-up Controller changes only the journal and the free draws. -/
theorem startupIssue_frame (s t : State) (req : DportRequest) (h : startupIssue s = some (t, req)) :
    t = s ∨ t = raiseHead s := by
  unfold startupIssue at h
  split at h <;> simp only [Option.some.injEq, Prod.ext_iff, reduceCtorEq] at h <;>
    first
    | exact Or.inl h.1.symm
    | exact h.elim
    | (split at h <;> simp only [Option.some.injEq, Prod.ext_iff, reduceCtorEq] at h; exact Or.inr h.1.symm)

/-- `grantS` changes no other field of the state than: journal, dport, freeDraws. -/
@[simp] theorem grantS_frame (s : State) :
    (grantS s).pending = s.pending ∧ (grantS s).device = s.device ∧
    (grantS s).cwb = s.cwb ∧ (grantS s).memReady = s.memReady ∧
    (grantS s).uport = s.uport ∧ (grantS s).regions = s.regions ∧
    (grantS s).settings = s.settings ∧ (grantS s).contexts = s.contexts ∧
    (grantS s).held = s.held ∧ (grantS s).queue = s.queue ∧
    (grantS s).engine = s.engine ∧ (grantS s).jobs = s.jobs ∧
    (grantS s).reads = s.reads ∧ (grantS s).slots = s.slots ∧
    (grantS s).patrol = s.patrol ∧ (grantS s).startup = s.startup ∧
    (grantS s).status = s.status := by
  unfold grantS
  split
  · simp
  · rename_i t req h
    rcases startupIssue_frame s t req h with rfl | rfl <;> simp

/-- `grantRun` changes no other field of the state than: contexts, held, journal, engine, reads, slots, dport, status, freeDraws. -/
@[simp] theorem grantRun_frame (s : State) :
    (grantRun s).pending = s.pending ∧ (grantRun s).device = s.device ∧
    (grantRun s).cwb = s.cwb ∧ (grantRun s).memReady = s.memReady ∧
    (grantRun s).uport = s.uport ∧ (grantRun s).regions = s.regions ∧
    (grantRun s).settings = s.settings ∧ (grantRun s).queue = s.queue ∧
    (grantRun s).jobs = s.jobs ∧ (grantRun s).patrol = s.patrol ∧
    (grantRun s).startup = s.startup := by
  unfold grantRun; try dsimp only
  (repeat' split) <;> simp

/-- `grant` changes no other field of the state than: contexts, held, journal, engine, reads, slots, dport, status, freeDraws. -/
@[simp] theorem grant_frame (s : State) :
    (grant s).pending = s.pending ∧ (grant s).device = s.device ∧
    (grant s).cwb = s.cwb ∧ (grant s).memReady = s.memReady ∧
    (grant s).uport = s.uport ∧ (grant s).regions = s.regions ∧
    (grant s).settings = s.settings ∧ (grant s).queue = s.queue ∧
    (grant s).jobs = s.jobs ∧ (grant s).patrol = s.patrol ∧
    (grant s).startup = s.startup := by
  unfold grant; try dsimp only
  (repeat' split) <;> simp

/-- `settle` changes no other field of the state than: contexts, held, journal, engine, reads, slots, dport, status, freeDraws. -/
@[simp] theorem settle_frame (s : State) :
    (settle s).pending = s.pending ∧ (settle s).device = s.device ∧
    (settle s).cwb = s.cwb ∧ (settle s).memReady = s.memReady ∧
    (settle s).uport = s.uport ∧ (settle s).regions = s.regions ∧
    (settle s).settings = s.settings ∧ (settle s).queue = s.queue ∧
    (settle s).jobs = s.jobs ∧ (settle s).patrol = s.patrol ∧
    (settle s).startup = s.startup := by
  simp [settle]

/-- `handToClient` changes no other field of the state than: device, uport, regions, settings, contexts, held, journal, queue, engine, jobs, reads, slots, patrol, dport, startup, status, freeDraws. -/
@[simp] theorem handToClient_frame (client : Client) (r : Reply) (s : State) :
    (handToClient client r s).pending = s.pending ∧ (handToClient client r s).cwb = s.cwb ∧
    (handToClient client r s).memReady = s.memReady := by
  unfold handToClient; try dsimp only
  (repeat' split) <;> simp

/-- `handReply` changes no other field of the state than: device, uport, regions, settings, contexts, held, journal, queue, engine, jobs, reads, slots, patrol, dport, startup, status, freeDraws. -/
@[simp] theorem handReply_frame (o : Outstanding) (r : Reply) (s : State) :
    (handReply o r s).pending = s.pending ∧ (handReply o r s).cwb = s.cwb ∧
    (handReply o r s).memReady = s.memReady := by
  simp [handReply]

/-! ## Window words and admission -/

/-- `openTaken` changes no other field of the state than: contexts, journal, jobs, status. -/
@[simp] theorem openTaken_frame (k : Requester) (a : Word) (s : State) :
    (openTaken k a s).pending = s.pending ∧ (openTaken k a s).device = s.device ∧
    (openTaken k a s).cwb = s.cwb ∧ (openTaken k a s).memReady = s.memReady ∧
    (openTaken k a s).uport = s.uport ∧ (openTaken k a s).regions = s.regions ∧
    (openTaken k a s).settings = s.settings ∧ (openTaken k a s).held = s.held ∧
    (openTaken k a s).queue = s.queue ∧ (openTaken k a s).engine = s.engine ∧
    (openTaken k a s).reads = s.reads ∧ (openTaken k a s).slots = s.slots ∧
    (openTaken k a s).patrol = s.patrol ∧ (openTaken k a s).dport = s.dport ∧
    (openTaken k a s).startup = s.startup ∧ (openTaken k a s).freeDraws = s.freeDraws := by
  simp [openTaken]

/-- `commitTaken` changes no other field of the state than: contexts. -/
@[simp] theorem commitTaken_frame (k : Requester) (s : State) :
    (commitTaken k s).pending = s.pending ∧ (commitTaken k s).device = s.device ∧
    (commitTaken k s).cwb = s.cwb ∧ (commitTaken k s).memReady = s.memReady ∧
    (commitTaken k s).uport = s.uport ∧ (commitTaken k s).regions = s.regions ∧
    (commitTaken k s).settings = s.settings ∧ (commitTaken k s).held = s.held ∧
    (commitTaken k s).journal = s.journal ∧ (commitTaken k s).queue = s.queue ∧
    (commitTaken k s).engine = s.engine ∧ (commitTaken k s).jobs = s.jobs ∧
    (commitTaken k s).reads = s.reads ∧ (commitTaken k s).slots = s.slots ∧
    (commitTaken k s).patrol = s.patrol ∧ (commitTaken k s).dport = s.dport ∧
    (commitTaken k s).startup = s.startup ∧ (commitTaken k s).status = s.status ∧
    (commitTaken k s).freeDraws = s.freeDraws := by
  simp [commitTaken]

/-- `abortTaken` changes no other field of the state than: contexts, reads, dport, status. -/
@[simp] theorem abortTaken_frame (k : Requester) (s : State) :
    (abortTaken k s).pending = s.pending ∧ (abortTaken k s).device = s.device ∧
    (abortTaken k s).cwb = s.cwb ∧ (abortTaken k s).memReady = s.memReady ∧
    (abortTaken k s).uport = s.uport ∧ (abortTaken k s).regions = s.regions ∧
    (abortTaken k s).settings = s.settings ∧ (abortTaken k s).held = s.held ∧
    (abortTaken k s).journal = s.journal ∧ (abortTaken k s).queue = s.queue ∧
    (abortTaken k s).engine = s.engine ∧ (abortTaken k s).jobs = s.jobs ∧
    (abortTaken k s).slots = s.slots ∧ (abortTaken k s).patrol = s.patrol ∧
    (abortTaken k s).startup = s.startup ∧ (abortTaken k s).freeDraws = s.freeDraws := by
  simp [abortTaken]

/-- `reinitTaken` changes no other field of the state than: journal. -/
@[simp] theorem reinitTaken_frame (s : State) :
    (reinitTaken s).pending = s.pending ∧ (reinitTaken s).device = s.device ∧
    (reinitTaken s).cwb = s.cwb ∧ (reinitTaken s).memReady = s.memReady ∧
    (reinitTaken s).uport = s.uport ∧ (reinitTaken s).regions = s.regions ∧
    (reinitTaken s).settings = s.settings ∧ (reinitTaken s).contexts = s.contexts ∧
    (reinitTaken s).held = s.held ∧ (reinitTaken s).queue = s.queue ∧
    (reinitTaken s).engine = s.engine ∧ (reinitTaken s).jobs = s.jobs ∧
    (reinitTaken s).reads = s.reads ∧ (reinitTaken s).slots = s.slots ∧
    (reinitTaken s).patrol = s.patrol ∧ (reinitTaken s).dport = s.dport ∧
    (reinitTaken s).startup = s.startup ∧ (reinitTaken s).status = s.status ∧
    (reinitTaken s).freeDraws = s.freeDraws := by
  refine ⟨rfl, rfl, rfl, rfl, rfl, rfl, rfl, rfl, rfl, rfl, rfl, rfl, rfl, rfl, rfl, rfl, rfl, rfl, rfl⟩

/-- `commandTaken` changes no other field of the state than: contexts, journal, jobs, reads, dport, status. -/
@[simp] theorem commandTaken_frame (k : Requester) (opcode : BitVec 4) (a : Word) (s : State) :
    (commandTaken k opcode a s).pending = s.pending ∧ (commandTaken k opcode a s).device = s.device ∧
    (commandTaken k opcode a s).cwb = s.cwb ∧ (commandTaken k opcode a s).memReady = s.memReady ∧
    (commandTaken k opcode a s).uport = s.uport ∧ (commandTaken k opcode a s).regions = s.regions ∧
    (commandTaken k opcode a s).settings = s.settings ∧ (commandTaken k opcode a s).held = s.held ∧
    (commandTaken k opcode a s).queue = s.queue ∧ (commandTaken k opcode a s).engine = s.engine ∧
    (commandTaken k opcode a s).slots = s.slots ∧ (commandTaken k opcode a s).patrol = s.patrol ∧
    (commandTaken k opcode a s).startup = s.startup ∧ (commandTaken k opcode a s).freeDraws = s.freeDraws := by
  unfold commandTaken; try dsimp only
  (repeat' split) <;> simp

/-- `closeSlot` changes no other field of the state than: slots. -/
@[simp] theorem closeSlot_frame (k : Requester) (d : Decision) (s : State) :
    (closeSlot k d s).pending = s.pending ∧ (closeSlot k d s).device = s.device ∧
    (closeSlot k d s).cwb = s.cwb ∧ (closeSlot k d s).memReady = s.memReady ∧
    (closeSlot k d s).uport = s.uport ∧ (closeSlot k d s).regions = s.regions ∧
    (closeSlot k d s).settings = s.settings ∧ (closeSlot k d s).contexts = s.contexts ∧
    (closeSlot k d s).held = s.held ∧ (closeSlot k d s).journal = s.journal ∧
    (closeSlot k d s).queue = s.queue ∧ (closeSlot k d s).engine = s.engine ∧
    (closeSlot k d s).jobs = s.jobs ∧ (closeSlot k d s).reads = s.reads ∧
    (closeSlot k d s).patrol = s.patrol ∧ (closeSlot k d s).dport = s.dport ∧
    (closeSlot k d s).startup = s.startup ∧ (closeSlot k d s).status = s.status ∧
    (closeSlot k d s).freeDraws = s.freeDraws := by
  simp [closeSlot]

/-- `takeCommand` changes no other field of the state than: contexts, journal, jobs, reads, slots, dport, status. -/
@[simp] theorem takeCommand_frame (k : Requester) (s : State) :
    (takeCommand k s).pending = s.pending ∧ (takeCommand k s).device = s.device ∧
    (takeCommand k s).cwb = s.cwb ∧ (takeCommand k s).memReady = s.memReady ∧
    (takeCommand k s).uport = s.uport ∧ (takeCommand k s).regions = s.regions ∧
    (takeCommand k s).settings = s.settings ∧ (takeCommand k s).held = s.held ∧
    (takeCommand k s).queue = s.queue ∧ (takeCommand k s).engine = s.engine ∧
    (takeCommand k s).patrol = s.patrol ∧ (takeCommand k s).startup = s.startup ∧
    (takeCommand k s).freeDraws = s.freeDraws := by
  unfold takeCommand; try dsimp only
  (repeat' split) <;> simp

/-- `sequenceErrorMade` changes no other field of the state than: slots. -/
@[simp] theorem sequenceErrorMade_frame (k : Requester) (s : State) :
    (sequenceErrorMade k s).pending = s.pending ∧ (sequenceErrorMade k s).device = s.device ∧
    (sequenceErrorMade k s).cwb = s.cwb ∧ (sequenceErrorMade k s).memReady = s.memReady ∧
    (sequenceErrorMade k s).uport = s.uport ∧ (sequenceErrorMade k s).regions = s.regions ∧
    (sequenceErrorMade k s).settings = s.settings ∧ (sequenceErrorMade k s).contexts = s.contexts ∧
    (sequenceErrorMade k s).held = s.held ∧ (sequenceErrorMade k s).journal = s.journal ∧
    (sequenceErrorMade k s).queue = s.queue ∧ (sequenceErrorMade k s).engine = s.engine ∧
    (sequenceErrorMade k s).jobs = s.jobs ∧ (sequenceErrorMade k s).reads = s.reads ∧
    (sequenceErrorMade k s).patrol = s.patrol ∧ (sequenceErrorMade k s).dport = s.dport ∧
    (sequenceErrorMade k s).startup = s.startup ∧ (sequenceErrorMade k s).status = s.status ∧
    (sequenceErrorMade k s).freeDraws = s.freeDraws := by
  simp [sequenceErrorMade]

/-- `stageWord0` changes no other field of the state than: slots, status. -/
@[simp] theorem stageWord0_frame (k : Requester) (v : Word) (s : State) :
    (stageWord0 k v s).pending = s.pending ∧ (stageWord0 k v s).device = s.device ∧
    (stageWord0 k v s).cwb = s.cwb ∧ (stageWord0 k v s).memReady = s.memReady ∧
    (stageWord0 k v s).uport = s.uport ∧ (stageWord0 k v s).regions = s.regions ∧
    (stageWord0 k v s).settings = s.settings ∧ (stageWord0 k v s).contexts = s.contexts ∧
    (stageWord0 k v s).held = s.held ∧ (stageWord0 k v s).journal = s.journal ∧
    (stageWord0 k v s).queue = s.queue ∧ (stageWord0 k v s).engine = s.engine ∧
    (stageWord0 k v s).jobs = s.jobs ∧ (stageWord0 k v s).reads = s.reads ∧
    (stageWord0 k v s).patrol = s.patrol ∧ (stageWord0 k v s).dport = s.dport ∧
    (stageWord0 k v s).startup = s.startup ∧ (stageWord0 k v s).freeDraws = s.freeDraws := by
  simp [stageWord0]

/-- `stageWord1` changes no other field of the state than: slots. -/
@[simp] theorem stageWord1_frame (k : Requester) (v : Word) (s : State) :
    (stageWord1 k v s).pending = s.pending ∧ (stageWord1 k v s).device = s.device ∧
    (stageWord1 k v s).cwb = s.cwb ∧ (stageWord1 k v s).memReady = s.memReady ∧
    (stageWord1 k v s).uport = s.uport ∧ (stageWord1 k v s).regions = s.regions ∧
    (stageWord1 k v s).settings = s.settings ∧ (stageWord1 k v s).contexts = s.contexts ∧
    (stageWord1 k v s).held = s.held ∧ (stageWord1 k v s).journal = s.journal ∧
    (stageWord1 k v s).queue = s.queue ∧ (stageWord1 k v s).engine = s.engine ∧
    (stageWord1 k v s).jobs = s.jobs ∧ (stageWord1 k v s).reads = s.reads ∧
    (stageWord1 k v s).patrol = s.patrol ∧ (stageWord1 k v s).dport = s.dport ∧
    (stageWord1 k v s).startup = s.startup ∧ (stageWord1 k v s).status = s.status ∧
    (stageWord1 k v s).freeDraws = s.freeDraws := by
  simp [stageWord1]

/-- `settingTaken` changes no other field of the state than: settings, patrol, jobs, status. -/
@[simp] theorem settingTaken_frame (c : ConfigWord) (v : Word) (s : State) :
    (settingTaken c v s).pending = s.pending ∧ (settingTaken c v s).device = s.device ∧
    (settingTaken c v s).cwb = s.cwb ∧ (settingTaken c v s).memReady = s.memReady ∧
    (settingTaken c v s).uport = s.uport ∧ (settingTaken c v s).regions = s.regions ∧
    (settingTaken c v s).contexts = s.contexts ∧ (settingTaken c v s).held = s.held ∧
    (settingTaken c v s).journal = s.journal ∧ (settingTaken c v s).queue = s.queue ∧
    (settingTaken c v s).engine = s.engine ∧ (settingTaken c v s).reads = s.reads ∧
    (settingTaken c v s).slots = s.slots ∧ (settingTaken c v s).dport = s.dport ∧
    (settingTaken c v s).startup = s.startup ∧ (settingTaken c v s).freeDraws = s.freeDraws := by
  unfold settingTaken; try dsimp only
  (repeat' split) <;> simp

/-- `windowTaken` changes no other field of the state than: regions, settings, contexts, journal, jobs, reads, slots, patrol, dport, status. -/
@[simp] theorem windowTaken_frame (e : WindowEffect) (s : State) :
    (windowTaken e s).pending = s.pending ∧ (windowTaken e s).device = s.device ∧
    (windowTaken e s).cwb = s.cwb ∧ (windowTaken e s).memReady = s.memReady ∧
    (windowTaken e s).uport = s.uport ∧ (windowTaken e s).held = s.held ∧
    (windowTaken e s).queue = s.queue ∧ (windowTaken e s).engine = s.engine ∧
    (windowTaken e s).startup = s.startup ∧ (windowTaken e s).freeDraws = s.freeDraws := by
  unfold windowTaken; try dsimp only
  (repeat' split) <;> simp

/-- `makeEffects` changes no other field of the state than: regions, settings, contexts, held, journal, jobs, reads, slots, patrol, dport, status. -/
@[simp] theorem makeEffects_frame (w : WriteRequest) (a : Admitted) (s : State) :
    (makeEffects w a s).pending = s.pending ∧ (makeEffects w a s).device = s.device ∧
    (makeEffects w a s).cwb = s.cwb ∧ (makeEffects w a s).memReady = s.memReady ∧
    (makeEffects w a s).uport = s.uport ∧ (makeEffects w a s).queue = s.queue ∧
    (makeEffects w a s).engine = s.engine ∧ (makeEffects w a s).startup = s.startup ∧
    (makeEffects w a s).freeDraws = s.freeDraws := by
  unfold makeEffects; try dsimp only
  (repeat' split) <;> simp

/-- `reportParity` changes no other field of the state than: jobs, status. -/
@[simp] theorem reportParity_frame (poison : WordMask) (addr : Addr) (s : State) :
    (reportParity poison addr s).pending = s.pending ∧ (reportParity poison addr s).device = s.device ∧
    (reportParity poison addr s).cwb = s.cwb ∧ (reportParity poison addr s).memReady = s.memReady ∧
    (reportParity poison addr s).uport = s.uport ∧ (reportParity poison addr s).regions = s.regions ∧
    (reportParity poison addr s).settings = s.settings ∧ (reportParity poison addr s).contexts = s.contexts ∧
    (reportParity poison addr s).held = s.held ∧ (reportParity poison addr s).journal = s.journal ∧
    (reportParity poison addr s).queue = s.queue ∧ (reportParity poison addr s).engine = s.engine ∧
    (reportParity poison addr s).reads = s.reads ∧ (reportParity poison addr s).slots = s.slots ∧
    (reportParity poison addr s).patrol = s.patrol ∧ (reportParity poison addr s).dport = s.dport ∧
    (reportParity poison addr s).startup = s.startup ∧ (reportParity poison addr s).freeDraws = s.freeDraws := by
  unfold reportParity; try dsimp only
  (repeat' split) <;> simp

/-- `acceptWrite` changes no other field of the state than: uport, regions, settings, contexts, held, journal, queue, jobs, reads, slots, patrol, dport, status. -/
@[simp] theorem acceptWrite_frame (w : WriteRequest) (a : Admitted) (s : State) :
    (acceptWrite w a s).pending = s.pending ∧ (acceptWrite w a s).device = s.device ∧
    (acceptWrite w a s).cwb = s.cwb ∧ (acceptWrite w a s).memReady = s.memReady ∧
    (acceptWrite w a s).engine = s.engine ∧ (acceptWrite w a s).startup = s.startup ∧
    (acceptWrite w a s).freeDraws = s.freeDraws := by
  simp [acceptWrite]

/-- `countFault` changes no other field of the state than: status. -/
@[simp] theorem countFault_frame (f : FaultReason) (s : State) :
    (countFault f s).pending = s.pending ∧ (countFault f s).device = s.device ∧
    (countFault f s).cwb = s.cwb ∧ (countFault f s).memReady = s.memReady ∧
    (countFault f s).uport = s.uport ∧ (countFault f s).regions = s.regions ∧
    (countFault f s).settings = s.settings ∧ (countFault f s).contexts = s.contexts ∧
    (countFault f s).held = s.held ∧ (countFault f s).journal = s.journal ∧
    (countFault f s).queue = s.queue ∧ (countFault f s).engine = s.engine ∧
    (countFault f s).jobs = s.jobs ∧ (countFault f s).reads = s.reads ∧
    (countFault f s).slots = s.slots ∧ (countFault f s).patrol = s.patrol ∧
    (countFault f s).dport = s.dport ∧ (countFault f s).startup = s.startup ∧
    (countFault f s).freeDraws = s.freeDraws := by
  unfold countFault; try dsimp only
  (repeat' split) <;> simp

/-- `judgeWrite` changes no other field of the state than: uport, regions, settings, contexts, held, journal, queue, jobs, reads, slots, patrol, dport, status. -/
@[simp] theorem judgeWrite_frame (w : WriteRequest) (s : State) :
    (judgeWrite w s).pending = s.pending ∧ (judgeWrite w s).device = s.device ∧
    (judgeWrite w s).cwb = s.cwb ∧ (judgeWrite w s).memReady = s.memReady ∧
    (judgeWrite w s).engine = s.engine ∧ (judgeWrite w s).startup = s.startup ∧
    (judgeWrite w s).freeDraws = s.freeDraws := by
  unfold judgeWrite; try dsimp only
  (repeat' split) <;> simp

/-- `takeRequest` changes no other field of the state than: uport, regions, settings, contexts, held, journal, queue, engine, jobs, reads, slots, patrol, dport, status, freeDraws. -/
@[simp] theorem takeRequest_frame (q : UportRequest) (s : State) :
    (takeRequest q s).pending = s.pending ∧ (takeRequest q s).device = s.device ∧
    (takeRequest q s).cwb = s.cwb ∧ (takeRequest q s).memReady = s.memReady ∧
    (takeRequest q s).startup = s.startup := by
  unfold takeRequest; try dsimp only
  (repeat' split) <;> simp

/-- `takeWaiting` changes no other field of the state than: uport, regions, settings, contexts, held, journal, queue, engine, jobs, reads, slots, patrol, dport, status, freeDraws. -/
@[simp] theorem takeWaiting_frame (qs : List UportRequest) (s : State) :
    (takeWaiting qs s).pending = s.pending ∧ (takeWaiting qs s).device = s.device ∧
    (takeWaiting qs s).cwb = s.cwb ∧ (takeWaiting qs s).memReady = s.memReady ∧
    (takeWaiting qs s).startup = s.startup := by
  induction qs generalizing s with
  | nil => simp [takeWaiting]
  | cons q qs ih =>
    unfold takeWaiting
    split
    · simp
    · simp [ih]

/-- `portFreed` changes no other field of the state than: uport, regions, settings, contexts, held, journal, queue, engine, jobs, reads, slots, patrol, dport, status, freeDraws. -/
@[simp] theorem portFreed_frame (s : State) :
    (portFreed s).pending = s.pending ∧ (portFreed s).device = s.device ∧
    (portFreed s).cwb = s.cwb ∧ (portFreed s).memReady = s.memReady ∧
    (portFreed s).startup = s.startup := by
  unfold portFreed; try dsimp only
  (repeat' split) <;> simp

/-- `presentRequest` changes no other field of the state than: uport, regions, settings, contexts, held, journal, queue, engine, jobs, reads, slots, patrol, dport, status, freeDraws. -/
@[simp] theorem presentRequest_frame (q : UportRequest) (s : State) :
    (presentRequest q s).pending = s.pending ∧ (presentRequest q s).device = s.device ∧
    (presentRequest q s).cwb = s.cwb ∧ (presentRequest q s).memReady = s.memReady ∧
    (presentRequest q s).startup = s.startup := by
  unfold presentRequest; try dsimp only
  (repeat' split) <;> simp

/-- `wordWriteAt` changes no other field of the state than: uport, regions, settings, contexts, held, journal, queue, engine, jobs, reads, slots, patrol, dport, status, freeDraws. -/
@[simp] theorem wordWriteAt_frame (off : Nat) (w : WordWrite) (s : State) :
    (wordWriteAt off w s).pending = s.pending ∧ (wordWriteAt off w s).device = s.device ∧
    (wordWriteAt off w s).cwb = s.cwb ∧ (wordWriteAt off w s).memReady = s.memReady ∧
    (wordWriteAt off w s).startup = s.startup := by
  simp [wordWriteAt]

/-- `takeResponse` changes no other field of the state than: device, uport, regions, settings, contexts, held, journal, queue, engine, jobs, reads, slots, patrol, dport, startup, status, freeDraws. -/
@[simp] theorem takeResponse_frame (issue : Byte) (resp : MemResponse) (s : State) :
    (takeResponse issue resp s).pending = s.pending ∧ (takeResponse issue resp s).cwb = s.cwb ∧
    (takeResponse issue resp s).memReady = s.memReady := by
  unfold takeResponse; try dsimp only
  (repeat' split) <;> simp

/-- `responseTimeout` changes no other field of the state than: device, uport, regions, settings, contexts, held, journal, queue, engine, jobs, reads, slots, patrol, dport, startup, status, freeDraws. -/
@[simp] theorem responseTimeout_frame (s : State) :
    (responseTimeout s).pending = s.pending ∧ (responseTimeout s).cwb = s.cwb ∧
    (responseTimeout s).memReady = s.memReady := by
  unfold responseTimeout; try dsimp only
  (repeat' split) <;> simp

end Sys2Proof.Machine
end

