-- ==== Sys2Proof/Laws/Ops.lean ====
section
/-! SUPPORT. What the shared operations do, said once for each. -/

namespace Sys2Proof.Machine

/-! ## Responses at the D-port (R135, R136) -/

/-- A response that answers the outstanding request reaches its client with the port released, and the event ends. -/
theorem takeResponse_of_carries {s : State} {issue : Byte} {client : Client} {q : DportRequest}
    (h : s.carries issue client q) (resp : MemResponse) :
    takeResponse issue resp s = afterEvent (handToClient client (replyOf q resp) (releasePort s)) := by
  simp [takeResponse, State.answers, h.1, h.2, handReply, afterEvent]

/-- The expiry of a running response timer hands FAIL to the client of the outstanding request. -/
theorem responseTimeout_of_carries {s : State} {issue : Byte} {client : Client} {q : DportRequest}
    (h : s.carries issue client q) :
    responseTimeout s = afterEvent (handToClient client .fail (releasePort s)) := by
  simp [responseTimeout, h.1, h.2, handReply, afterEvent]

/-- A response that answers nothing changes nothing. -/
theorem takeResponse_of_ignored {s : State} {issue : Byte} (h : s.answers issue = none) (resp : MemResponse) :
    takeResponse issue resp s = s := by
  simp [takeResponse, h]

@[simp] theorem replyOf_read_data (l : Addr) (bytes : Line) (st : Vector WordStatus 16) :
    replyOf (.read l) (.data bytes st) = if statusesNamed st then .data bytes st else .fail := rfl

@[simp] theorem replyOf_write_done (l : Addr) (m : ByteMask) (d : Line) (p : WordMask) :
    replyOf (.write l m d p) .done = .done := rfl

/-- DONE to a WRITE is handed over as DONE. -/
theorem replyOf_done_of_isWrite {q : DportRequest} (h : q.isWrite = true) : replyOf q .done = .done := by
  cases q <;> simp_all [DportRequest.isWrite, replyOf]

/-- DONE to a RENEW is handed over as DONE. -/
theorem replyOf_done_of_isRenew {q : DportRequest} (h : q.isRenew = true) : replyOf q .done = .done := by
  cases q <;> simp_all [DportRequest.isRenew, replyOf]

/-- A failure of a WRITE is handed over as FAIL or UNBACKED. -/
theorem replyOf_failsWrite {q : DportRequest} {resp : MemResponse} (hq : q.isWrite = true)
    (h : resp.failsWrite = true) : replyOf q resp = .fail ∨ replyOf q resp = .unbacked := by
  cases q <;> cases resp <;> simp_all [DportRequest.isWrite, MemResponse.failsWrite, replyOf]

/-- A failure of a RENEW is handed over as FAIL or UNBACKED. -/
theorem replyOf_failsRenew {q : DportRequest} {resp : MemResponse} (hq : q.isRenew = true)
    (h : resp.failsWrite = true) : replyOf q resp = .fail ∨ replyOf q resp = .unbacked := by
  cases q <;> cases resp <;> simp_all [DportRequest.isRenew, MemResponse.failsWrite, replyOf]

/-- A failure of a READ is handed over as FAIL or UNBACKED. -/
theorem replyOf_failsRead {l : Addr} {resp : MemResponse} (h : resp.failsRead = true) :
    replyOf (.read l) resp = .fail ∨ replyOf (.read l) resp = .unbacked := by
  cases resp <;> simp_all [MemResponse.failsRead, replyOf]

/-! ## Word statuses -/

/-- The mark of listed word `i`. -/
theorem getLsbD_marks (l : List Bool) (i : Nat) (h : l.length ≤ 16) :
    (marks l).getLsbD i = l.getD i false := by
  induction l generalizing i with
  | nil => simp [marks]
  | cons b bs ih =>
    simp only [List.length_cons] at h
    cases i with
    | zero => cases b <;> simp [marks]
    | succ i =>
      have := ih i (by omega)
      simp only [marks, BitVec.getLsbD_or, BitVec.getLsbD_shiftLeft, List.getD_cons_succ]
      by_cases hi : i + 1 < 16
      · cases b <;> simp [hi, this]
      · have hl : bs[i]? = none := List.getElem?_eq_none (by omega)
        cases b <;> simp [hi, List.getD, hl]

/-- Word `i` is marked exactly when the memory reported it UNCORRECTABLE. -/
theorem getLsbD_uncorrectable (st : Vector WordStatus 16) (i : Fin 16) :
    (uncorrectable st).getLsbD i = (st[i] == .uncorrectable) := by
  rw [uncorrectable, getLsbD_marks _ _ (by simp)]
  simp [List.getD]

/-- Word `i` is marked exactly when the memory reported it CORRECTED. -/
theorem getLsbD_corrected (st : Vector WordStatus 16) (i : Fin 16) :
    (corrected st).getLsbD i = (st[i] == .corrected) := by
  rw [corrected, getLsbD_marks _ _ (by simp)]
  simp [List.getD]

/-- No word is marked exactly when none was reported UNCORRECTABLE. -/
theorem uncorrectable_eq_zero (st : Vector WordStatus 16) :
    uncorrectable st = 0 ↔ ∀ i : Fin 16, st[i] ≠ .uncorrectable := by
  constructor
  · intro h i hi
    have := getLsbD_uncorrectable st i
    simp_all
  · intro h
    apply BitVec.eq_of_getLsbD_eq
    intro i hi
    have := getLsbD_uncorrectable st ⟨i, hi⟩
    have := h ⟨i, hi⟩
    simp_all

/-- Every status names one exactly when none is code 3. -/
theorem statusesNamed_iff (st : Vector WordStatus 16) :
    statusesNamed st = true ↔ ∀ i : Fin 16, st[i] ≠ .noStatus := by
  simp only [statusesNamed, List.all_eq_true, bne_iff_ne]
  constructor
  · intro h i
    exact h _ (by simp)
  · intro h x hx
    obtain ⟨i, hi, rfl⟩ := List.getElem_of_mem hx
    simpa using h ⟨i, by simpa using hi⟩

/-! ## Raises (R128, R171, R173, R174): each as one record update -/

/-- The Job List after the flag is set: a status job at its end when the flag was clear and none stood in it. -/
def jobsWhenDirty (s : State) : List Job :=
  if s.status.dirty || s.hasStatusJob then s.jobs else s.jobs ++ [statusJob]

/-- The same, as the statements write it. -/
theorem jobsWhenDirty_eq (s : State) :
    jobsWhenDirty s = if s.status.dirty = false ∧ (∀ j ∈ s.jobs, j.owner ≠ .statusUnit) then
      s.jobs ++ [⟨.statusUnit, .status, .statusRecord, .complete, .noReason, 0, 0⟩] else s.jobs := by
  have hany : s.hasStatusJob = false ↔ ∀ j ∈ s.jobs, j.owner ≠ .statusUnit := by simp [State.hasStatusJob]
  simp only [← hany]
  cases hd : s.status.dirty <;> cases hs : s.hasStatusJob <;> simp [jobsWhenDirty, statusJob, hd, hs]

/-- While the flag is set a raise places nothing. -/
theorem jobsWhenDirty_of_dirty {s : State} (h : s.status.dirty = true) : jobsWhenDirty s = s.jobs := by
  simp [jobsWhenDirty, h]

theorem setDirty_eq (s : State) :
    setDirty s = { s with status := { s.status with dirty := true }, jobs := jobsWhenDirty s } := by
  unfold setDirty jobsWhenDirty
  dsimp only
  split <;> simp [placeJob]

theorem setCauses_eq (c : Byte) (s : State) :
    setCauses c s = { s with
      status := { s.status with causes := c, dirty := s.status.dirty || c != s.status.causes }
      jobs := if c = s.status.causes then s.jobs else jobsWhenDirty s } := by
  unfold setCauses
  split
  · rename_i h; subst h; simp
  · rename_i h
    simp [setDirty_eq, jobsWhenDirty, State.hasStatusJob, h]

theorem raiseCause_eq (c : Cause) (s : State) :
    raiseCause c s = { s with
      status := { s.status with
        causes := s.status.causes ||| c.mark
        dirty := s.status.dirty || (s.status.causes ||| c.mark) != s.status.causes }
      jobs := if s.status.causes ||| c.mark = s.status.causes then s.jobs else jobsWhenDirty s } := by
  simp [raiseCause, setCauses_eq]

theorem raiseError_eq (kind : ErrorKind) (addr : Addr) (s : State) :
    raiseError kind addr s = { s with
      status := { s.status with
        causes := s.status.causes ||| 0x10#8, dirty := true, lastError := ⟨some kind, addr⟩ }
      jobs := jobsWhenDirty s } := by
  simp [raiseError, setDirty_eq, jobsWhenDirty, State.hasStatusJob, Cause.mark, Cause.bit]

/-- The entry into RUN with the Patrol Unit OFF (R147, R148). -/
theorem patrolEnterRun_of_off {s u : State} (hs : s.patrol.state = .off) (hd : u.device = .run)
    (hg : u.settings = s.settings) (hr : u.regions = s.regions) (hp : u.patrol = s.patrol) :
    patrolEnterRun u = { u with patrol := s.patrolAtRun } := by
  have hf : ∀ n, u.firstActive n = s.firstActive n := fun n => by simp [State.firstActive, hr]
  have he : (placeCursor u).patrolEnabled =
      (s.settings.patrolInterval != 0 && (s.firstActive 0).isSome) := by
    simp only [State.patrolEnabled, placeCursor, updPatrol, State.anyActive, State.firstActive, hd, hg, hr]
    simp
  simp only [patrolEnterRun, patrolSettle, he]
  by_cases h1 : s.settings.patrolInterval = 0 <;> cases h2 : (s.firstActive 0) <;>
    simp [h1, h2, patrolToWait, patrolToOff, placeCursor, updPatrol, State.patrolAtRun, hp, hs, hf, hg]

/-! ## What nothing follows (R78, R136) -/

/-- While a unit is in progress and a request is outstanding, an event is followed by no choice and no grant. -/
theorem settle_of_busy {s : State} (h : s.dport.outstanding.isSome = true) (hw : s.engine.work.isSome = true) :
    settle s = s := by
  cases hs : s.engine.work
  · simp [hs] at hw
  · cases ho : s.dport.outstanding
    · simp [ho] at h
    · simp [settle, chooseUnit, grant, hs, ho]

/-- With nothing waiting on the bus, a freed U-port takes nothing. -/
theorem portFreed_of_noneWaiting {s : State} (h : s.uport.waiting = []) : portFreed s = s := by
  unfold portFreed
  split
  · rfl
  · rw [h, takeWaiting, ← h]

/-- A request presented to a free U-port is judged, and the event ends. -/
theorem presentRequest_of_free {s : State} (h : s.uport.inProgress = none) (q : UportRequest) :
    presentRequest q s = takeRequest q s := by
  simp [presentRequest, h]

end Sys2Proof.Machine
end

