-- ==== Sys2Proof/Laws/Window.lean ====
section
/-! SUPPORT. What a write to a window word does: the address arithmetic, one lemma each for acceptance and refusal, and the
rows that are such writes or other U-port requests. -/

namespace Sys2Proof.Machine

/-! ## Addresses -/

theorem toNat_lineOf (a : Addr) : (lineOf a).toNat = a.toNat / 64 * 64 := by
  have h : lineOf a = (a >>> 6) <<< 6 := by
    apply BitVec.eq_of_getLsbD_eq
    intro i hi
    simp only [lineOf, BitVec.getLsbD_and, BitVec.getLsbD_shiftLeft, BitVec.getLsbD_ushiftRight, hi, decide_true,
      Bool.true_and]
    by_cases h6 : i < 6
    · have : (0xFFFFFFC0#32).getLsbD i = false := by
        interval_cases i <;> rfl
      simp [h6, this]
    · have : (0xFFFFFFC0#32).getLsbD i = true := by
        interval_cases i <;> first | rfl | omega
      have e : 6 + (i - 6) = i := by omega
      simp [h6, this, e]
  rw [h, BitVec.toNat_shiftLeft, BitVec.toNat_ushiftRight, Nat.shiftLeft_eq, Nat.shiftRight_eq_div_pow]
  have := a.isLt
  rw [Nat.mod_eq_of_lt] <;> omega

theorem toNat_windowAddr (s : State) (off : Nat) (h : off < 4096) :
    (s.windowAddr off).toNat = s.windowBase + off := by
  have := s.cwb.isLt
  simp only [State.windowAddr, State.windowBase, BitVec.toNat_ofNat]
  omega

theorem inWindow_windowAddr (s : State) (off : Nat) (h : off < 4096) :
    s.inWindow (lineOf (s.windowAddr off)) = true := by
  have := s.cwb.isLt
  simp only [State.inWindow, toNat_lineOf, toNat_windowAddr s off h, State.windowBase, Config.windowBytes,
    Bool.and_eq_true, decide_eq_true_eq]
  omega

theorem offsetInLine_windowAddr (s : State) (off : Nat) (h : off < 4096) :
    offsetInLine (s.windowAddr off) = off % 64 := by
  simp only [offsetInLine, toNat_windowAddr s off h, State.windowBase]
  omega

theorem windowOffset_windowAddr (s : State) (off : Nat) (h : off < 4096) :
    (s.windowAddr off).toNat - s.windowBase = off := by
  rw [toNat_windowAddr s off h]
  omega

theorem malformed_windowAddr (s : State) (off : Nat) (h : off < 4096) (h4 : off % 4 = 0) :
    malformed (s.windowAddr off) 4 = false := by
  have : (s.windowAddr off).toNat % 4 = 0 := by
    rw [toNat_windowAddr s off h, State.windowBase]
    omega
  simp [malformed, legalSize, this]

/-! ## The four bytes of a word -/

theorem length_wordBytes (w : WordWrite) : (wordBytes w).length = 4 := rfl

/-- The four bytes of a word, laid out from a line's first byte on, are the word. -/
theorem bytesToLine_wordBytes (w : WordWrite) :
    bytesToLine ((wordBytes w).map (·.value)) = w.value.setWidth 512 := by
  apply BitVec.eq_of_getLsbD_eq
  intro i hi
  simp only [wordBytes, List.map_cons, List.map_nil, bytesToLine, BitVec.getLsbD_or, BitVec.getLsbD_shiftLeft,
    BitVec.getLsbD_setWidth, BitVec.getLsbD_extractLsb', BitVec.getLsbD_zero]
  by_cases h32 : i < 32
  · by_cases h8 : i < 8
    · simp [h8, hi]
    · by_cases h16 : i < 16
      · have e : 8 + (i - 8) = i := by omega
        have : i - 8 < 8 := by omega
        have : i - 8 < 512 := by omega
        simp [h8, hi, e, *]
      · by_cases h24 : i < 24
        · have e : 16 + (i - 8 - 8) = i := by omega
          have : i - 8 - 8 < 8 := by omega
          have : ¬ i - 8 < 8 := by omega
          have : i - 8 < 512 := by omega
          have : i - 8 - 8 < 512 := by omega
          simp [h8, hi, e, *]
        · have e : 24 + (i - 8 - 8 - 8) = i := by omega
          have : i - 8 - 8 - 8 < 8 := by omega
          have : ¬ i - 8 - 8 < 8 := by omega
          have : ¬ i - 8 < 8 := by omega
          have : i - 8 < 512 := by omega
          have : i - 8 - 8 < 512 := by omega
          have : i - 8 - 8 - 8 < 512 := by omega
          simp [h8, hi, e, *]
  · have h1 : w.value.getLsbD i = false := BitVec.getLsbD_of_ge _ _ (by omega)
    have h2 : ¬ i - 8 - 8 - 8 < 8 := by omega
    have h3 : ¬ i - 8 - 8 < 8 := by omega
    have h4 : ¬ i - 8 < 8 := by omega
    have h5 : ¬ i < 8 := by omega
    simp [h1, h2, h3, h4, h5]

theorem bytesToWord_wordBytes (w : WordWrite) : bytesToWord ((wordBytes w).map (·.value)) = w.value := by
  rw [bytesToWord, bytesToLine_wordBytes]
  simp

/-! ## A write to a window word -/

/-- The request of a row that writes one window word. -/
theorem wordWriteAt_of_free {s : State} {w : WordWrite} (h : s.uport.inProgress = none) (off : Nat) :
    wordWriteAt off w s = settle (judgeWrite ⟨w.requester, s.windowAddr off, wordBytes w⟩ s) := by
  simp [wordWriteAt, presentRequest_of_free h, takeRequest]

/-- The class of a window word's write is the control window, and its check is the word's own (R58). -/
theorem classCheck_windowAddr {s : State} {w : WordWrite} {off : Nat} (h : s.judgesWord w) (hlt : off < 4096)
    (hd : windowWord off ≠ .deviceOwned) (hu : windowWord off ≠ .unlisted)
    (hf : ∀ k n, windowWord off = .command k n → w.requester = k) :
    s.classCheck ⟨w.requester, s.windowAddr off, wordBytes w⟩ =
      (match s.wordCheck (windowWord off) w.value with
       | .ok e => .ok (.window e)
       | .error f => .error f) := by
  have hp : (s.settings.parityCheck && (wordBytes w).any badParity) = false := by
    cases hc : s.settings.parityCheck
    · rfl
    · simp [h.2.2 hc]
  have hv := bytesToWord_wordBytes w
  have ho := windowOffset_windowAddr s off hlt
  have hw := inWindow_windowAddr s off hlt
  simp only [State.classCheck, State.classOf, hw, if_true, State.windowCheck, length_wordBytes, ne_eq,
    not_true_eq_false, if_false, ho]
  cases hword : windowWord off with
  | deviceOwned => exact absurd hword hd
  | unlisted => exact absurd hword hu
  | command k n =>
    simp [State.hostWordCheck, hf k n hword, hp, hv]
    all_goals (cases s.wordCheck (.command k n) w.value <;> rfl)
  | config c =>
    simp [State.hostWordCheck, hp, hv]
    all_goals (cases s.wordCheck (.config c) w.value <;> rfl)
  | acknowledge =>
    simp [State.hostWordCheck, hp, hv]
    all_goals (cases s.wordCheck .acknowledge w.value <;> rfl)
  | regionA j =>
    simp [State.hostWordCheck, hp, hv]
    all_goals (cases s.wordCheck (.regionA j) w.value <;> rfl)
  | regionB j =>
    simp [State.hostWordCheck, hp, hv]
    all_goals (cases s.wordCheck (.regionB j) w.value <;> rfl)

/-- A window word whose own check passes is accepted: its effect is made and its entry posted. -/
theorem wordWriteAt_of_accepted {s : State} {w : WordWrite} {off : Nat} {e : WindowEffect} (h : s.takesWord w)
    (hlt : off < 4096) (h4 : off % 4 = 0) (hd : windowWord off ≠ .deviceOwned) (hu : windowWord off ≠ .unlisted)
    (hf : ∀ k n, windowWord off = .command k n → w.requester = k)
    (hc : s.wordCheck (windowWord off) w.value = .ok e) :
    wordWriteAt off w s = s.wordAccepted off w e.commandClose (windowTaken e s) := by
  have hcl := classCheck_windowAddr h.1 hlt hd hu hf
  rw [hc] at hcl
  have hq : s.queueFull = false := decide_eq_false (Nat.not_le.mpr h.2)
  have hm := malformed_windowAddr s off hlt h4
  rw [wordWriteAt_of_free h.1.2.1]
  simp only [judgeWrite, State.judge, h.1.1, length_wordBytes, hm, hcl, hq, Bool.false_eq_true, if_false]
  have hmask : byteMaskAt (off % 64) 4 = 0xF#64 <<< (off % 64) := by
    have : (BitVec.allOnes 64 >>> (64 - 4)) = 0xF#64 := by decide
    simp [byteMaskAt, this]
  have hentry : { s.entryOf ⟨w.requester, s.windowAddr off, wordBytes w⟩ (.window e) with
      number := s.queue.nextNumber } = s.windowEntry off w e.commandClose := by
    simp only [State.entryOf, State.windowEntry, length_wordBytes, offsetInLine_windowAddr s off hlt, placeBytes,
      bytesToLine_wordBytes, hmask]
  have hqueue : (windowTaken e s).queue = s.queue := by simp
  show settle (acceptWrite ⟨w.requester, s.windowAddr off, wordBytes w⟩ (.window e) s) = _
  simp only [acceptWrite, reportParity, appendEntry, makeEffects, hqueue, hentry]
  rfl

/-- A window word whose own check fails is refused. -/
theorem wordWriteAt_of_refused {s : State} {w : WordWrite} {off : Nat} {f : FaultReason} (h : s.judgesWord w)
    (hlt : off < 4096) (h4 : off % 4 = 0) (hd : windowWord off ≠ .deviceOwned) (hu : windowWord off ≠ .unlisted)
    (hf : ∀ k n, windowWord off = .command k n → w.requester = k)
    (hc : s.wordCheck (windowWord off) w.value = .error f) :
    wordWriteAt off w s = settle (giveAnswer w.requester (.fault f) (countFault f s)) := by
  have hcl := classCheck_windowAddr h hlt hd hu hf
  rw [hc] at hcl
  have hm := malformed_windowAddr s off hlt h4
  rw [wordWriteAt_of_free h.2.1]
  simp only [judgeWrite, State.judge, h.1, length_wordBytes, hm, hcl, Bool.false_eq_true, if_false]

/-! ## The window map -/

@[simp] theorem windowWord_commandOffset (k : Requester) (n : Fin 3) :
    windowWord (commandOffset k n) = .command k n := by
  revert k n
  decide

@[simp] theorem windowWord_wordAOffset (j : Fin 16) : windowWord (wordAOffset j) = .regionA j := by
  revert j
  decide

@[simp] theorem windowWord_wordBOffset (j : Fin 16) : windowWord (wordBOffset j) = .regionB j := by
  revert j
  decide

@[simp] theorem windowWord_configOffset (c : ConfigWord) : windowWord c.offset = .config c := by
  cases c <;> decide

@[simp] theorem windowWord_acknowledgeOffset : windowWord acknowledgeOffset = .acknowledge := by
  decide

/-! ## The rows that are U-port requests -/

/-- A row that writes one window word is that word's write at its place (R182). -/
theorem exec_of_wordAt {c : Instr} {off : Nat} {w : WordWrite} (h : c.wordAt = some (off, w)) (s : State) :
    exec c s = .next (wordWriteAt off w s) := by
  have h0 (k : Requester) : 0x200 + 16 * k.val = commandOffset k 0 := by simp [commandOffset]
  have h1 (k : Requester) : 0x204 + 16 * k.val = commandOffset k 1 := by simp only [commandOffset]; omega
  have h2 (k : Requester) : 0x208 + 16 * k.val = commandOffset k 2 := by simp only [commandOffset]; omega
  cases c with
  | sequenceError k which u =>
    cases which <;> simp only [Instr.wordAt, Option.some.injEq, Prod.mk.injEq] at h <;> obtain ⟨rfl, rfl⟩ := h
    · rw [h1]; rfl
    · rw [h2]; rfl
  | commandWord0Write k u =>
    simp only [Instr.wordAt, Option.some.injEq, Prod.mk.injEq] at h; obtain ⟨rfl, rfl⟩ := h
    rw [h0]; rfl
  | commandWord1Write k u =>
    simp only [Instr.wordAt, Option.some.injEq, Prod.mk.injEq] at h; obtain ⟨rfl, rfl⟩ := h
    rw [h1]; rfl
  | openCommand k u | commitCommand k u | abortCommand k u | drainCommand k u | reportCommand k u
  | clearCountersCommand k u | reinitCommand k u | unknownOpcode k u =>
    simp only [Instr.wordAt, Option.some.injEq, Prod.mk.injEq] at h; obtain ⟨rfl, rfl⟩ := h
    rw [h2]; rfl
  | _ =>
    first
    | (simp only [Instr.wordAt, Option.some.injEq, Prod.mk.injEq] at h; obtain ⟨rfl, rfl⟩ := h; rfl)
    | (simp only [Instr.wordAt] at h; exact absurd h (by simp))

/-- A row that is a U-port request presents it (R44, R45, R58). -/
theorem exec_of_request {c : Instr} {s : State} {q : UportRequest} (h : c.request s = some q) :
    exec c s = .next (presentRequest q s) := by
  have key : ∀ p, c.wordAt = some p → q = .write ⟨p.2.requester, s.windowAddr p.1, wordBytes p.2⟩ →
      exec c s = .next (presentRequest q s) := by
    rintro ⟨off, w⟩ hp rfl
    exact exec_of_wordAt hp s
  cases c <;> simp only [Instr.request, Option.some.injEq, Option.map_eq_some_iff] at h <;>
    first
    | (subst h; rfl)
    | (obtain ⟨p, hp, hq⟩ := h; exact key p hp hq.symm)

end Sys2Proof.Machine
end

