-- ==== Sys2Proof/Tests/Slice0.lean ====
section
/-! SUPPORT. Small tests: the checks of WellFormed, the checks and layouts on known values, single commands on small states,
and, for each statement of Certificates/Slice0/Obligations.lean that has hypotheses, states and operands that meet them
(named test_<Statement>_met). -/

namespace Sys2Proof.Tests

open Sys2Proof Sys2Proof.Machine

/-! ## WellFormed -/

theorem test_writeRequest_of_no_bytes_refused : Instr.wellFormed (.writeRequest ⟨0, 0, []⟩) = false := by decide
theorem test_writeRequest_of_65_bytes_refused :
    Instr.wellFormed (.writeRequest ⟨0, 0, List.replicate 65 ⟨0, true⟩⟩) = false := by decide
theorem test_writeRequest_of_64_bytes_accepted :
    Instr.wellFormed (.writeRequest ⟨0, 0, List.replicate 64 ⟨0, true⟩⟩) = true := by decide
theorem test_windowWrite_of_no_bytes_refused : Instr.wellFormed (.windowWrite 0 0 []) = false := by decide
theorem test_windowWrite_of_65_bytes_refused :
    Instr.wellFormed (.windowWrite 0 0 (List.replicate 65 ⟨0, true⟩)) = false := by decide
theorem test_dataWriteFailed_by_DONE_refused : Instr.wellFormed (.dataWriteFailed 0 .done) = false := by decide
theorem test_dataWriteFailed_by_UNBACKED_refused : Instr.wellFormed (.dataWriteFailed 0 .unbacked) = false := by decide
theorem test_dataWriteFailed_by_FAIL_accepted : Instr.wellFormed (.dataWriteFailed 0 .fail) = true := by decide

/-- No row of the table gives bits (log 20). -/
theorem test_noWordSpellsACommand : decodeTableWord 32 0xFFFFFFFF = none := by decide

/-! ## Known values -/

/-- R6: the check of the ASCII bytes 123456789. -/
theorem test_crc32_of_123456789 : crc32 (0x393837363534333231#72) = 0xCBF43926#32 := by decide +kernel

/-- R120: odd parity. -/
theorem test_parityBit : parityBit 0x00 = true ∧ parityBit 0x01 = false ∧ parityBit 0xFF = true := by decide

/-! ## Small states -/

/-- A ring of 64 slots at 20000h. -/
def ring : Geometry := ⟨0x20000, 64⟩

/-- The part in RUN with its journal READY and empty; the control window at 10000h. -/
def running : State := { State.reset with
  device := .run, cwb := 1, journal := ⟨.ready, some ring, 0, 0, Vector.replicate 4 0⟩ }

/-- A state whose D-port carries a request with issue number 1. -/
def asks (client : Client) (q : DportRequest) (s : State) : State := { s with
  dport := { s.dport with outstanding := some ⟨client, q, 1⟩, issueNumber := 1, timer := some 256 } }

/-- A line's WRITE. -/
def writes (line : Addr) : DportRequest := .write line 0xFFFFFFFFFFFFFFFF#64 0 0

/-- A word with good parity. -/
def goodWord (k : Requester) (v : Word) : WordWrite := ⟨k, v,
  BitVec.ofBool (parityBit (v.extractLsb' 24 8)) ++ BitVec.ofBool (parityBit (v.extractLsb' 16 8)) ++
    BitVec.ofBool (parityBit (v.extractLsb' 8 8)) ++ BitVec.ofBool (parityBit (v.extractLsb' 0 8))⟩

/-- Word statuses: all CLEAN, or word 3 another. -/
def clean : Vector WordStatus 16 := Vector.replicate 16 .clean
def word3 (x : WordStatus) : Vector WordStatus 16 := clean.set 3 x

/-- The next state of an outcome. -/
def nextOf (o : Host.Outcome State Fault Refusal) : Option State :=
  match o with
  | .next t => some t
  | .fault _ => none
  | .refused _ => none

/-- Region entry 0 over the two lines from 40000h, in a mode. -/
def withRegion (mode : RegionMode) (s : State) : State := { s with
  regions := s.regions.set 0 ⟨0x40000, 0x40040, mode, 0x40000⟩ }

/-- Context `k` OPEN with epoch 5, its record durable. -/
def withOpen (k : Requester) (s : State) : State := { s with
  contexts := s.contexts.set k ⟨.opened, some 5, true, false, 512, 0, 0⟩ }

/-- Command slot `k` with both words of a command staged. -/
def staged (k : Requester) (opcode : BitVec 4) (a : Word) (s : State) : State := { s with
  slots := s.slots.set k ⟨.word1, some ⟨opcode, 0x21⟩, some a, .idle, none, 0⟩ }

/-- A bare posted entry and a command close entry. -/
def bareEntry : PostedEntry := ⟨7, 0, 0x40000, 0xF, 0, 0, .bare, none, false⟩
def closeEntry : PostedEntry := ⟨7, 0, 0x10200, 0xF00, 0, 0, .window, none, true⟩
def captureEntry : PostedEntry := ⟨7, 0, 0x40000, 0xF, 0, 0, .capture, some 0, false⟩

/-- An entry at the head, at a step. -/
def atHead (e : PostedEntry) (step : EntryStep) (s : State) : State := { s with
  queue := ⟨[e], 8⟩, engine := { s.engine with work := some (.entry step) } }

/-- A job of slot 0 and the unit of its step. -/
def job (kind : JobKind) (next : JobStep) : Job := ⟨.slot 0, kind, next, .complete, .noReason, 0, 0⟩
def atJob (j : Job) (u : WorkUnit) (s : State) : State := { s with jobs := [j], engine := { s.engine with work := some u } }

/-- A deferred read of the word at 40000h in a state. -/
def key : ReadRequest := ⟨2, 0x40000, 4⟩
def deferred (state : FetchState) (stale : Bool) (timer : Option Nat) : DeferredRead :=
  ⟨key, state, stale, none, [], [], false, timer⟩

/-- A state of the Start-up Controller at a step. -/
def starting (device : DeviceState) (step : StartupStep) : State := { State.reset with
  device := device, cwb := 1, journal := { State.reset.journal with geometry := some ring }
  startup := { State.reset.startup with step := step } }

/-! ## Single commands -/

/-- R156: MEM_READY found asserted as the reset ends. -/
theorem test_reset_with_MEM_READY_enters_LOAD :
    (nextOf (exec (.reset 1 true) running)).map (fun t => (t.device, t.dport.outstanding)) =
      some (.load, some ⟨.startup, .read 0x10000, 1⟩) := by decide +kernel

/-- R59: Table 3-6 on a LOGGED line held by nobody, its requester CLOSED. -/
theorem test_write_to_logged_line_without_epoch_is_done :
    (nextOf (exec (.writeRequest ⟨1, 0x40004, [⟨0xAA, true⟩]⟩) (withRegion .logged running))).map
      (fun t => t.uport.answers) = some [(1, .written)] := by decide +kernel

/-- R60: a capture claims a slot and its old line is read first. -/
theorem test_capture_is_held_and_reads_the_old_line :
    (nextOf (exec (.writeRequest ⟨1, 0x40004, [⟨0xAA, true⟩]⟩) (withOpen 1 (withRegion .guarded running)))).map
      (fun t => (t.held, t.free, t.dport.outstanding)) =
      some ([⟨0x40000, 1, .capturing, none⟩], 63, some ⟨.writeEngine, .read 0x40000, 1⟩) := by decide +kernel

/-- R108: OPEN taken claims two slots. -/
theorem test_open_taken_claims_two_slots :
    (nextOf (exec (.openCommand 0 (goodWord 0 0)) (staged 0 1 0 running))).map
      (fun t => (t.contexts[0].state, t.contexts[0].lineLimit, t.free, t.slots[0].phase)) =
      some (.opened, 512, 62, .executing) := by decide +kernel

/-- R106: a closing word on an EXECUTING slot. -/
theorem test_closing_word_on_executing_slot_is_busy :
    (nextOf (exec (.commitCommand 0 (goodWord 0 0))
      { running with slots := running.slots.set 0 ⟨.word1, some ⟨2, 0⟩, some 0, .executing, none, 0⟩ })).map
      (fun t => t.uport.answers) = some [(0, .fault .busy)] := by decide +kernel

/-- R100: the STOPPED mark has no effect. -/
theorem test_acknowledge_leaves_STOPPED_pending :
    (acknowledge 0xFF { running with status := { running.status with causes := 0xFF } }).status.causes = 0x80 := by
  decide +kernel

/-- R16: a taken OPEN that takes free below the mark raises LOW. -/
theorem test_open_taken_raises_LOW_below_the_mark :
    (nextOf (exec (.openCommand 0 (goodWord 0 0)) (staged 0 1 0
      { running with settings := { running.settings with lowMark := 63 } }))).map
      (fun t => t.status.causes) = some 0x20 := by decide +kernel

/-- R122: a partial unmarked store leaves the word poisoned. -/
theorem test_partial_store_keeps_poison :
    storeWord 0x3 0xAAAABBBB false ⟨0x11112222, true⟩ = ⟨0x1111BBBB, true⟩ := by decide

/-- R136: a response with another number is ignored. -/
theorem test_stray_response_is_ignored :
    nextOf (exec (.landing 2) (asks .writeEngine (writes 0x40000) (atHead bareEntry .dataWrite running))) =
      some (asks .writeEngine (writes 0x40000) (atHead bareEntry .dataWrite running)) := by decide +kernel

/-- R137: the timeout of a straight read is FAULT MEMORY. -/
theorem test_timeout_of_straight_read_is_fault_memory :
    (nextOf (exec .responseTimerExpiry (asks .straightRead (.read 0x40000)
      { running with uport := ⟨some key, [], []⟩ }))).map
      (fun t => (t.uport.answers, t.dport.outstanding)) = some ([(2, .fault .memory)], none) := by decide +kernel

/-- R79: FAIL to a data write stops the device with the entry at the head. -/
theorem test_failed_data_write_stops_the_device :
    (nextOf (exec (.dataWriteFailed 1 .fail)
      (asks .writeEngine (writes 0x40000) (atHead bareEntry .dataWrite running)))).map
      (fun t => (t.device, t.queue.entries, t.status.causes)) = some (.stopped, [bareEntry], 0x80) := by decide +kernel

/-! ## Hypotheses met: the queue, reset, start-up -/

theorem test_StepRunsTheFrontCommandOrIdles_met : running.pending = [] := by decide

theorem test_EveryCommandAnswersNextAndKeepsTheQueue_met :
    (∀ cwb ready, Instr.memReadyFoundAsserted ≠ .reset cwb ready) ∧ running.device ≠ .start := by
  constructor
  · intro _ _ h; cases h
  · decide

theorem test_MemReadyEntersLoadFromStartOnly_met :
    (State.reset.device = .start ∧ State.reset.dport.outstanding = none) ∧ running.device ≠ .start := by decide

/-- The configuration read outstanding. -/
def loadingSettings : State := asks .startup (.read 0x10000) (starting .load .readConfiguration)

set_option maxRecDepth 20000 in
/-- All seven words in range with the discard interval at 1; that word at 0; the read failed; a word UNCORRECTABLE. -/
theorem test_ConfigurationReadLoadsEachWord_met :
    (loadingSettings.carries 1 .startup (.read 0x10000) ∧ loadingSettings.startup.step = .readConfiguration ∧
      statusesNamed clean = true) ∧
    (∀ c : ConfigWord, ((clean[c.index]? != some .uncorrectable) &&
      c.accepts (lineWord (1#512 <<< 96) c.index)) = true) ∧
    (ConfigWord.discardInterval.accepts (lineWord 0 3) = false ∧
      ∀ d : ConfigWord, 3 < d.index → ((clean[d.index]? != some .uncorrectable) && d.accepts (lineWord 0 d.index)) = true) ∧
    (statusesNamed (word3 .uncorrectable) = true ∧ (word3 .uncorrectable)[3]? = some .uncorrectable) ∧
    (MemResponse.failsRead .fail = true ∧ (MemResponse.data 0 (word3 .noStatus)).failsRead = true) ∧
    (loadingSettings.status.dirty = false ∧ loadingSettings.jobs = [] ∧ (setDirty loadingSettings).status.dirty = true) := by
  refine ⟨by decide +kernel, ?_, ⟨by decide, ?_⟩, by decide, by decide, by decide⟩
  · intro c; cases c <;> decide +kernel
  · intro d; cases d <;> decide +kernel

/-- A region line read outstanding. -/
def loadingRegions (second : Bool) : State := asks .startup (.read 0x10100) (starting .load (.readRegions second))

/-- Both lines; a pair valid in each mode with base and limit equal, ending right under the window and beginning right
after it; a pair invalid by its base, its word B, its order, the window and a status; the read failed. -/
theorem test_RegionLineReadInstallsEachEntry_met :
    (∀ second, (loadingRegions second).carries 1 .startup (.read 0x10100) ∧
      (loadingRegions second).startup.step = .readRegions second) ∧ statusesNamed clean = true ∧
    (loadingRegions false).windowBase = 0x10000 ∧
    ((0x0FFC0#32).toNat % 64 = 0 ∧ (0x0FFC1#32).toNat % 64 = 1 ∧ 0x0FFC0#32 ≤ 0x0FFC1#32 &&& 0xFFFFFFC0#32 ∧
      (0x0FFC1#32 &&& 0xFFFFFFC0#32).toNat + 64 ≤ 0x10000) ∧
    ((0x11000#32).toNat % 64 = 0 ∧ (0x11003#32).toNat % 64 = 3 ∧ 0x10000 + 4096 ≤ (0x11000#32).toNat) ∧
    ((0x00001#32).toNat % 64 ≠ 0 ∧ (0x00004#32).toNat % 64 = 4 ∧ ¬ 0x40#32 ≤ 0x00001#32 &&& 0xFFFFFFC0#32 ∧
      ¬ ((0x10FC0#32).toNat + 64 ≤ 0x10000 ∨ 0x10000 + 4096 ≤ (0x10FC0#32).toNat)) ∧
    (word3 .uncorrectable)[2 * 1 + 1]? = some .uncorrectable ∧ MemResponse.failsRead .unbacked = true := by
  decide +kernel

/-- The descriptor read outstanding. -/
def loadingDescriptor : State := asks .startup (.read 0x10040) (starting .load .readDescriptor)

set_option maxRecDepth 20000 in
/-- A valid descriptor of the least slot count, an invalid one (all zero), a failed read, a word UNCORRECTABLE. -/
theorem test_DescriptorReadEntersScanOrRun_met :
    (loadingDescriptor.carries 1 .startup (.read 0x10040) ∧ loadingDescriptor.startup.step = .readDescriptor ∧
      loadingDescriptor.patrol.state = .off) ∧ (∀ i : Fin 16, clean[i] = .clean ∨ clean[i] = .corrected) ∧
    (lineWord ring.encode 0 = 0x0001B416#32 ∧ lineWord ring.encode 15 = crc32 (ring.encode.setWidth 480) ∧
      lineWord ring.encode 1 = 0x20000 ∧ (lineWord ring.encode 2).toNat = 64 ∧ 0x20000 % 128 = 0 ∧
      0x20000 + 128 * 64 ≤ 2 ^ 32 ∧ loadingDescriptor.windowBase + 4096 ≤ 0x20000) ∧
    lineWord 0 0 ≠ 0x0001B416#32 ∧ MemResponse.failsRead .fail = true ∧
    (∃ i : Fin 16, (word3 .uncorrectable)[i] = .uncorrectable) := by
  decide +kernel

/-- Slot 62's read outstanding: a slot before the last. -/
def scanning (i : Nat) (summary : List (Option SlotSummary)) : State :=
  let s := asks .startup (.read 0x20000) (starting .scan .readSlot)
  { s with startup := { s.startup with nextSlot := i, summary := summary } }

theorem test_ScanReadRecordsItsSlotOrFails_met :
    ((scanning 62 []).carries 1 .startup (.read 0x20000) ∧ (scanning 62 []).device = .scan ∧
      (scanning 62 []).startup.step = .readSlot ∧ (scanning 62 []).journal.geometry = some ring ∧
      (scanning 62 []).patrol.state = .off) ∧ (∀ n : Fin 16, clean[n] = .clean ∨ clean[n] = .corrected) ∧
    62 + 1 < ring.slots ∧ MemResponse.failsRead .fail = true ∧
    (∃ n : Fin 16, (word3 .uncorrectable)[n] = .uncorrectable) := by
  decide +kernel

/-- Slots 0 to 62 with the first `opens` records OPEN and the rest CAPTURE of epoch 0. -/
def records (opens : Nat) : List (Option SlotSummary) := (List.range 63).map fun i =>
  some ⟨BitVec.ofNat 64 i, if i < opens then .openRecord else .capture, 0, if i < opens then BitVec.ofNat 64 i else 0⟩

set_option maxRecDepth 20000 in
/-- The last slot: no valid record at all; one unfinished epoch of 63 records, whose marker just fits; two, which do not
fit. -/
theorem test_LastScanReadEndsTheScan_met :
    (let s := scanning 63 (List.replicate 63 none)
     s.carries 1 .startup (.read 0x20000) ∧ s.device = .scan ∧ s.startup.step = .readSlot ∧
      s.journal.geometry = some ring ∧ s.journal.state = .recovering ∧ s.patrol.state = .off ∧
      s.startup.nextSlot + 1 = ring.slots ∧ highestSeq s.startup.summary = none) ∧
    summarize 64 63 0 = none ∧
    (let summary := records 1 ++ [none]
     highestSeq summary = some 62 ∧ unfinishedOf (runRecords summary 64 62) = [⟨0, 0, 0, 0⟩] ∧
      62 - 0 + 1 + 1 ≤ ring.slots) ∧
    (let summary := records 2 ++ [none]
     highestSeq summary = some 62 ∧ unfinishedOf (runRecords summary 64 62) = [⟨0, 0, 0, 0⟩, ⟨1, 0, 0, 0⟩] ∧
      ¬ 62 - 0 + 1 + 2 ≤ ring.slots) := by
  decide +kernel

theorem test_ScanFindsTheRunAndTheUnfinishedEpochs_met :
    (recordAt (records 1 ++ [none]) 64 62).isSome = true ∧
    ((runRecords (records 1 ++ [none]) 64 62).map fun e => e.sequence.toNat) = List.range 63 ∧
    (List.range 63).Pairwise (· < ·) := by
  refine ⟨by decide +kernel, by decide +kernel, List.pairwise_lt_range⟩

/-- PLAYBACK of record 1 of epoch 0, and its header line. -/
def playing (step : StartupStep) : State :=
  let s := asks .startup (.read 0x20080) (starting .playback step)
  { s with startup := { s.startup with
      summary := records 1 ++ [none], playback := [1], unfinished := [⟨0, 0, 0, 0⟩] } }
def playHeader (check : Word) : Header := ⟨1, .capture, 0, 0, 0x40000, 0, 0, check, 0, 0⟩

set_option maxRecDepth 20000 in
/-- The header read; a usable header with a matching and with another data check; a failed data read; no header. -/
theorem test_PlaybackReadsFormTheRestoreWrite_met :
    ((playing .playHeader).carries 1 .startup (.read 0x20080) ∧ (playing .playHeader).startup.step = .playHeader) ∧
    ((playing (.playData none)).carries 1 .startup (.read 0x20080) ∧
      (playing (.playData none)).startup.step = .playData none) ∧
    (decodeHeader (playHeader (crc32 (0 : Line))).encode = some (playHeader (crc32 (0 : Line))) ∧
      (playing (.playData none)).playExpected = ⟨1, 0, 0⟩) ∧
    decodeHeader (playHeader 0).encode = some (playHeader 0) ∧ crc32 (0 : Line) ≠ 0 ∧
    statusesNamed (word3 .uncorrectable) = true ∧ MemResponse.failsRead .fail = true ∧
    ((none : Option Line).bind decodeHeader) = none := by
  decide +kernel

/-- The restore write outstanding, good and not; markers before the last and last. -/
theorem test_PlaybackWritesDurableGoOnToRun_met :
    (∀ good, let s := asks .startup (writes 0x40000) (starting .playback (.playWrite 0x40000 0 0 good))
      s.carries 1 .startup (writes 0x40000) ∧ (writes 0x40000).isWrite = true ∧
      s.startup.step = .playWrite 0x40000 0 0 good) ∧ MemResponse.failsWrite .unbacked = true ∧
    (let s := asks .startup (writes 0x20080) (playing (.marker 0))
     s.carries 1 .startup (writes 0x20080) ∧ s.startup.step = .marker 0 ∧
      ¬ 0 + 1 < s.startup.unfinished.length ∧ s.patrol.state = .off ∧
      0 + 1 < (s.startup.unfinished ++ s.startup.unfinished).length) := by
  decide +kernel

/-! ## Hypotheses met: U-port requests -/

/-- A request row of each kind, and a state of each device state but RUN. -/
theorem test_DeviceStateIsTheFirstCheck_met :
    (Instr.readRequest key).request State.reset = some (.read key) ∧
    (Instr.windowWrite 1 0xFFC []).request State.reset = some (.write ⟨1, 0xFFC, []⟩) ∧
    ((Instr.openCommand 3 (goodWord 3 0)).request State.reset).isSome = true ∧
    State.reset.Settled ∧ State.reset.uport.inProgress = none ∧ State.reset.device = .start ∧
    (let s := { running with device := .stopped }
     s.Settled ∧ s.uport.inProgress = none ∧ s.device = .stopped) ∧
    (let s := asks .startup (.read 0x10000) (starting .load .readConfiguration)
     s.Settled ∧ s.uport.inProgress = none ∧ s.device = .load) ∧
    ((scanning 62 []).Settled ∧ (scanning 62 []).device = .scan) ∧
    ((playing .playHeader).Settled ∧ (playing .playHeader).device = .playback) := by
  decide +kernel

/-- A window line at each end, a ring line at each end, a region line at each end, the lines on either side. -/
theorem test_TargetClassInItsOrder_met :
    let s := withRegion .readonly running
    (s.cwb.toNat * 65536 = 0x10000) ∧ s.journal.geometry = some ring ∧
    ((0x21FFF#32) &&& 0xFFFFFFC0#32 = 0x21FC0 ∧ (0x4007F#32) &&& 0xFFFFFFC0#32 = 0x40040) ∧
    (s.classOf 0x10000 = .window ∧ s.classOf 0x10FC0 = .window ∧ s.classOf 0x0FFC0 = .plain ∧ s.classOf 0x11000 = .plain) ∧
    (s.classOf 0x20000 = .ring ∧ s.classOf 0x21FC0 = .ring ∧ s.classOf 0x1FFC0 = .plain ∧ s.classOf 0x22000 = .plain) ∧
    (s.classOf 0x40000 = .region s.regions[0] ∧ s.classOf 0x40040 = .region s.regions[0] ∧
      s.classOf 0x3FFC0 = .plain ∧ s.classOf 0x40080 = .plain) := by
  decide +kernel

/-- Context 1's line 40000h. -/
def held : HeldEntry := ⟨0x40000, 1, .held, some 6⟩

/-- A line held by another and by the own context, OPEN and not; none held with the own context OPEN and not; the three
checks of a capture at their bounds. -/
theorem test_RegionWriteDecision_met :
    let s := { withOpen 1 running with held := [held] }
    ((s.lookupHeld 0x40000).map (·.holder) = some 1 ∧ s.contexts[(1 : Fin 4)].state = .opened ∧
      s.contexts[(2 : Fin 4)].state ≠ .opened) ∧
    ((s.lookupHeld 0x40040).map (·.holder) = none) ∧
    (({ running with held := [held] } : State).lookupHeld 0x40000).isSome = true ∧
    (512 ≤ (List.replicate 512 held).length ∧ ¬ 512 ≤ (List.replicate 511 held).length) ∧
    ((s.held.filter fun e => e.holder == 1).length = 1) ∧
    (running.journal.state = .ready ∧ 1 ≤ running.free ∧
      ({ running with journal := { running.journal with reserved := running.journal.reserved.set 0 64 } } : State).free = 0) :=
  by decide +kernel

/-- 64 bytes, the last byte bad. -/
def lineBytes : List BusByte := List.replicate 63 ⟨0, true⟩ ++ [⟨0, false⟩]

theorem test_BareWriteIsPosted_met :
    running.device = .run ∧ running.uport.inProgress = none ∧ running.queue.entries.length < 16 ∧
    lineBytes.length ∈ [1, 2, 4, 8, 16, 32, 64] ∧ (0x40000#32).toNat % lineBytes.length = 0 ∧
    (0 + lineBytes.length ≤ 64 ∧ 63 + 1 ≤ 64) ∧
    running.classCheck ⟨1, 0x40000, lineBytes⟩ = .ok (.bare none) ∧
    ({ withOpen 1 (withRegion .logged running) with held := [held] } : State).classCheck ⟨1, 0x40000, lineBytes⟩ =
      .ok (.bare (some 1)) ∧ damagedWords 0 lineBytes = 0x8000 := by
  decide +kernel

theorem test_CaptureClaimsInsertsAndIsPosted_met :
    let s := withOpen 1 (withRegion .guarded running)
    s.device = .run ∧ s.uport.inProgress = none ∧ s.queue.entries.length < 16 ∧
    [(⟨0, true⟩ : BusByte)].length ∈ [1, 2, 4, 8, 16, 32, 64] ∧ (0x4007F#32).toNat % 1 = 0 ∧
    s.classCheck ⟨1, 0x4007F, [⟨0, true⟩]⟩ = .ok .capture := by
  decide +kernel

/-- Sixteen entries. -/
def fullQueue : State := { running with queue := ⟨List.replicate 16 bareEntry, 9⟩ }

/-- Sixteen entries, the first one's data write outstanding. -/
def busyFull : State :=
  { asks .writeEngine (writes 0x40000) (atHead bareEntry .dataWrite fullQueue) with queue := fullQueue.queue }

theorem test_RefusedWritesChangeOnlyTheirCounter_met :
    (running.device = .run ∧ running.uport.inProgress = none ∧ running.Settled) ∧
    (¬ [(⟨0, true⟩ : BusByte), ⟨0, true⟩, ⟨0, true⟩].length ∈ [1, 2, 4, 8, 16, 32, 64] ∧ (1#32).toNat % 2 ≠ 0) ∧
    (withRegion .readonly running).Settled ∧
    (withRegion .readonly running).classCheck ⟨1, 0x40000, [⟨0, true⟩]⟩ = .error .readOnly ∧
    (busyFull.Settled ∧ busyFull.queue.entries.length = 16 ∧
      busyFull.classCheck ⟨1, 0x30000, [⟨0, true⟩]⟩ = .ok (.bare none)) := by
  decide +kernel

/-- Offsets at the ends of the ranges, a bad byte, rows of one window word, and each kind of refused value, with the queue
full too. -/
theorem test_RefusedWindowWritesChangeNothing_met :
    (running.device = .run ∧ running.uport.inProgress = none ∧ running.Settled) ∧
    (0x200 ≤ (0x238#12).toNat ∧ (0x238#12).toNat < 0x240 ∧ (0x238#12).toNat % 16 ≠ 12 ∧
      ((0x238#12).toNat - 0x200) / 16 ≠ 0 ∧ ((0x238#12).toNat - 0x200) / 16 = 3) ∧
    (running.settings.parityCheck = true ∧ badParity ⟨0, false⟩ = true ∧ (0x018#12).toNat < 0x1C ∧
      (0x17C#12).toNat < 0x180) ∧
    ((Instr.regionWordBWrite 15 (goodWord 0 0)).wordAt = some (0x17C, goodWord 0 0) ∧
      (Instr.openCommand 3 (goodWord 3 0)).wordAt = some (0x238, goodWord 3 0)) ∧
    (busyFull.judgesWord (goodWord 0 0) ∧ busyFull.judgesWord (goodWord 0 1) ∧ busyFull.judgesWord (goodWord 0 65535) ∧
      busyFull.Settled ∧ busyFull.queue.entries.length = 16 ∧ (∀ k : Fin 4, busyFull.contexts[k].state = .closed) ∧
      busyFull.journal.state = .ready) ∧
    (∀ n ∈ [0x040, 0x07C, 0x240, 0x27C, 0x300, 0x37C], n < 4096 ∧ n % 4 = 0 ∧
      (0x40 ≤ n ∧ n < 0x80 ∨ 0x240 ≤ n ∧ n < 0x280 ∨ 0x300 ≤ n ∧ n < 0x380)) ∧
    (∀ n ∈ [0x01C, 0x03C, 0x084, 0x0FC, 0x180, 0x1FC, 0x20C, 0x23C, 0x280, 0x2FC, 0x380, 0xFFC], n < 4096 ∧ n % 4 = 0 ∧
      (0x1C ≤ n ∧ n < 0x40 ∨ 0x84 ≤ n ∧ n < 0x100 ∨ 0x180 ≤ n ∧ n < 0x200 ∨ 0x280 ≤ n ∧ n < 0x300 ∨ 0x380 ≤ n ∨
        0x200 ≤ n ∧ n < 0x240 ∧ n % 16 = 12)) ∧
    (∀ n ∈ [0x000, 0x018, 0x080, 0x100, 0x17C], n < 4096 ∧ n % 4 = 0 ∧
      (n < 0x1C ∨ n = 0x80 ∨ 0x100 ≤ n ∧ n < 0x180)) ∧
    (running.judgesWord (goodWord 0 2) ∧ running.judgesWord (goodWord 0 256) ∧ running.judgesWord (goodWord 0 65536)) ∧
    (let s := withOpen 1 running
     s.judgesWord (goodWord 0 0) ∧ s.Settled ∧ ∃ k : Fin 4, s.contexts[k].state ≠ .closed) ∧
    (let s := { running with journal := { running.journal with state := .formatting } }
     s.judgesWord (goodWord 0 0) ∧ s.Settled ∧ s.journal.state = .formatting) ∧
    (running.judgesWord (goodWord 0 1) ∧ (1#32).toNat % 64 ≠ 0 ∧ 4 ≤ (4#32).toNat % 64 ∧
      (∀ k : Fin 4, running.contexts[k].state = .closed) ∧ running.journal.state = .ready) ∧
    (let s := withRegion .off running
     s.judgesWord (goodWord 0 0x3FFC1) ∧ s.Settled ∧ (0x3FFC1#32).toNat / 64 * 64 < s.regions[0].staged.toNat) ∧
    (let s := { running with regions := running.regions.set 0 ⟨0, 0, .off, 0x10FC0⟩ }
     s.judgesWord (goodWord 0 0x10FC1) ∧ s.Settled ∧ (0x10FC0#32).toNat < s.windowBase + 4096 ∧
      s.windowBase < (0x10FC1#32).toNat / 64 * 64 + 64) ∧
    (let s := { running with regions := running.regions.set 0 ⟨0, 0, .off, 0x1FFC0⟩ }
     s.judgesWord (goodWord 0 0x20001) ∧ s.Settled ∧ (0x1FFC0#32).toNat < ring.base.toNat + 128 * ring.slots ∧
      ring.base.toNat < (0x20001#32).toNat / 64 * 64 + 64) := by
  refine ⟨?_, ?_, ?_, ?_, ?_, ?_, ?_, ?_, ?_, ?_, ?_, ?_, ?_, ?_, ?_⟩ <;> decide +kernel

/-- Values at the ends of their ranges; a low mark that crosses and one that does not. -/
theorem test_SettingsAndAcknowledgeActAtAcceptance_met :
    (List.replicate 4 (⟨0xFF, false⟩ : BusByte)).length = 4 ∧
    (running.takesWord (goodWord 0 0) ∧ running.takesWord (goodWord 0 1) ∧ running.takesWord (goodWord 0 64) ∧
      running.takesWord (goodWord 0 65) ∧ running.takesWord (goodWord 0 255) ∧ running.takesWord (goodWord 0 65535)) ∧
    (running.settings.lowMark ≤ running.free ∧ running.free < (65#32).toNat ∧ ¬ running.free < (64#32).toNat) ∧
    ({ running with patrol := { running.patrol with state := .renew } } : State).takesWord (goodWord 0 1) ∧
    (∃ j : Fin 16, (withRegion .logged running).regions[j].mode ≠ .off) ∧
    (withRegion .logged running).takesWord (goodWord 0 1) := by
  refine ⟨rfl, ?_, ?_, ?_, ?_, ?_⟩ <;> decide +kernel

theorem test_RegionWordsStageAndInstall_met :
    let s := { running with regions := running.regions.set 15 ⟨0, 0, .off, 0x0FFC0⟩ }
    s.takesWord (goodWord 3 0x0FFC1) ∧ s.takesWord (goodWord 3 0x40) ∧
    (∀ k : Fin 4, s.contexts[k].state = .closed) ∧ s.journal.state ≠ .formatting ∧
    (0x40#32).toNat % 64 = 0 ∧ (0x0FFC1#32).toNat % 64 = 1 ∧ s.regions[15].staged ≤ 0x0FFC1#32 &&& 0xFFFFFFC0#32 ∧
    (0x0FFC1#32 &&& 0xFFFFFFC0#32).toNat + 64 ≤ s.windowBase ∧
    (0x0FFC1#32 &&& 0xFFFFFFC0#32).toNat + 64 ≤ ring.base.toNat := by
  decide +kernel

/-! ## Hypotheses met: command slots -/

theorem test_CommandWordsStageOrMakeASequenceError_met :
    (running.takesWord (goodWord 3 0x2101) ∧ (goodWord 3 0x2101).requester = 3 ∧
      running.slots[(3 : Fin 4)].staging = .empty ∧ running.slots[(3 : Fin 4)].phase = .idle) ∧
    ((staged 3 1 0 running).takesWord (goodWord 3 0) ∧ (staged 3 1 0 running).slots[(3 : Fin 4)].staging = .word1 ∧
      (staged 3 1 0 running).slots[(3 : Fin 4)].phase = .idle) ∧
    (let s := { running with slots := running.slots.set 3 ⟨.word0, some ⟨1, 0⟩, none, .idle, none, 0⟩ }
     s.takesWord (goodWord 3 0) ∧ s.slots[(3 : Fin 4)].staging = .word0 ∧ s.slots[(3 : Fin 4)].phase = .idle) := by
  decide +kernel

theorem test_BusyAndForeignCommandWordsChangeNothing_met :
    (let s := { running with slots := running.slots.set 3 ⟨.empty, none, none, .executing, none, 0⟩ }
     s.judgesWord (goodWord 3 0) ∧ s.Settled ∧ s.slots[(3 : Fin 4)].phase = .executing ∧
      s.slots[(3 : Fin 4)].staging ≠ .word0) ∧
    (running.judgesWord (goodWord 2 0) ∧ (goodWord 2 0).requester ≠ 3) ∧
    (∀ staging ∈ [Staging.word0, .word1],
      let s := { busyFull with slots := busyFull.slots.set 3 ⟨staging, some ⟨1, 0⟩, none, .idle, none, 0⟩ }
      s.judgesWord (goodWord 3 0) ∧ s.Settled ∧ s.queue.entries.length = 16 ∧
      s.slots[(3 : Fin 4)].staging = staging ∧ s.slots[(3 : Fin 4)].phase = .idle) := by
  decide +kernel

/-- OPEN at each of its checks: the context not CLOSED; 513 lines; no READY journal; one slot free; two slots free. -/
theorem test_OpenIsJudgedAndTaken_met :
    (let s := staged 0 1 513 running
     s.takesWord (goodWord 0 0) ∧ s.slots[(0 : Fin 4)].phase = .idle ∧ s.slots[(0 : Fin 4)].staging = .word1 ∧
      s.slots[(0 : Fin 4)].word = some ⟨1, 0x21⟩ ∧ s.slots[(0 : Fin 4)].argA = some 513 ∧
      s.contexts[(0 : Fin 4)].state = .closed) ∧
    (withOpen 0 running).contexts[(0 : Fin 4)].state ≠ .closed ∧
    ({ running with journal := { running.journal with state := .formatting } } : State).journal.state ≠ .ready ∧
    (∀ n ∈ [62, 63], (let s := { running with
        journal := { running.journal with reserved := running.journal.reserved.set 1 n } }
      (staged 0 1 512 s).takesWord (goodWord 0 0) ∧ s.free = 64 - n)) := by
  decide +kernel

theorem test_OtherCommandsAreJudgedAndTaken_met :
    ∀ opcode ∈ [0#4, 2#4, 3#4, 4#4, 5#4, 6#4, 8#4, 15#4],
      ∀ s ∈ [staged 0 opcode 0 running, staged 0 opcode 0 (withOpen 0 running)],
      s.takesWord (goodWord 0 0) ∧ s.slots[(0 : Fin 4)].phase = .idle ∧ s.slots[(0 : Fin 4)].staging = .word1 ∧
      s.slots[(0 : Fin 4)].word = some ⟨opcode, 0x21⟩ := by
  decide +kernel

/-- REINIT with a context OPEN; with 63 slots; with 64 slots right after the window, and with the highest ring there is. -/
theorem test_ReinitIsJudgedAndTaken_met :
    (let s := staged 0 7 0 running
     s.takesWord (goodWord 0 0) ∧ s.slots[(0 : Fin 4)].phase = .idle ∧ s.slots[(0 : Fin 4)].staging = .word1 ∧
      s.slots[(0 : Fin 4)].word = some ⟨7, 0x21⟩) ∧
    (∃ j : Fin 4, (withOpen 0 running).contexts[j].state ≠ .closed) ∧
    ((∀ j : Fin 4, running.contexts[j].state = .closed) ∧ running.journal.state ≠ .formatting ∧
      (∀ j : Fin 16, running.regions[j].mode = .off)) ∧ ¬ 64 ≤ (63#32).toNat ∧
    (0x11000 % 128 = 0 ∧ running.windowBase + 4096 ≤ 0x11000 ∧ 0x11000 + 128 * 64 ≤ 2 ^ 32) ∧
    (0xFF800000 % 128 = 0 ∧ 0xFF800000 + 128 * 65536 = 2 ^ 32) := by
  decide +kernel

/-! ## Hypotheses met: reads -/

/-- A read of size 3; one owed by a posted entry with the table full and with seven entries; one held by an ABORTING
context; one that nothing owes. -/
theorem test_NewReadIsMalformedDeferredOrStraight_met :
    (running.device = .run ∧ running.uport.inProgress = none ∧ (∀ d ∈ running.reads, d.key ≠ key)) ∧
    (¬ (3 ∈ [1, 2, 4, 8, 16, 32, 64]) ∧ key.size ∈ [1, 2, 4, 8, 16, 32, 64] ∧ key.address.toNat % key.size = 0) ∧
    ((∃ e ∈ fullQueue.queue.entries, e.line = key.address &&& 0xFFFFFFC0#32) ∧ fullQueue.queue.entries.length = 16) ∧
    (8 ≤ (List.replicate 8 (deferred .ready false (some 16))).length) ∧
    (let s := { running with held := [held], contexts := running.contexts.set 1 ⟨.aborting, some 5, true, false, 512, 0, 0⟩ }
     ∃ h ∈ s.lookupHeld 0x40000, s.contexts[h.holder].state = .aborting) ∧
    (∀ e ∈ running.queue.entries, e.line ≠ key.address &&& 0xFFFFFFC0#32) ∧
    running.lookupHeld (key.address &&& 0xFFFFFFC0#32) = none := by
  refine ⟨by decide +kernel, by decide +kernel, ⟨⟨bareEntry, by decide +kernel, by decide⟩, by decide⟩, by decide,
    ⟨held, by decide +kernel, by decide +kernel⟩, by decide +kernel, by decide +kernel⟩

theorem test_RepeatIsAnsweredFromItsEntry_met :
    ∀ d ∈ [deferred .waiting false none, deferred .ready false (some 16),
        { deferred .ready false (some 16) with failed := true },
        { deferred .ready false (some 16) with data := [1, 2, 3, 4], poison := [true] }],
      ({ running with reads := [d] } : State).reads.find? (·.key == key) = some d ∧ d.key = key := by
  decide +kernel

theorem test_StraightReadResponseAnswersTheRead_met :
    (let s := { running with uport := ⟨some key, [], []⟩ }
     (Instr.readRequest key).request s = some (.read key) ∧ s.uport.inProgress = some key) ∧
    (let s := asks .straightRead (.read 0x40000) { running with uport := ⟨some key, [], []⟩ }
     s.carries 1 .straightRead (.read 0x40000) ∧ s.uport.inProgress = some key) ∧
    (key.size ∈ [1, 2, 4, 8, 16, 32, 64] ∧ key.address.toNat % key.size = 0) ∧
    statusesNamed (clean.set 0 .uncorrectable) = true ∧ MemResponse.failsRead .done = true := by
  decide +kernel

theorem test_DeferredFetchResponseMakesReadyOrStale_met :
    (∀ stale, let s := asks (.deferredRead key) (.read 0x40000) { running with reads := [deferred .issued stale none] }
     s.carries 1 (.deferredRead key) (.read 0x40000) ∧
      s.reads.find? (·.key == key) = some (deferred .issued stale none)) ∧
    statusesNamed clean = true ∧ MemResponse.failsRead .fail = true := by
  decide +kernel

theorem test_DiscardTimerExpiryFreesTheEntry_met :
    (let s := { running with reads := [deferred .ready false (some 1024)] }
     s.reads.find? (·.key == key) = some (deferred .ready false (some 1024)) ∧ s.device ≠ .stopped) ∧
    (∀ d ∈ [deferred .waiting false none], d.key = key → d.timer = none) := by
  decide +kernel

/-- A state of the part that is coherent: READY, WAITING and ISSUED entries are in it. -/
def reading : State := { running with
  reads := [deferred .ready false (some 16), { deferred .waiting false none with key := ⟨3, 0x40000, 8⟩ }]
  held := [held] }

theorem test_WritesAndAbortsSendDeferredReadsBack_met : reading.Coherent ∧
    (∃ d ∈ reading.reads, d.key.address &&& 0xFFFFFFC0#32 = 0x40000 ∧ d.state = .ready) := by
  refine ⟨⟨by decide, by decide, by decide, by decide, by decide, by decide, by decide, by simp [reading, running, State.reset,
    Dport.reset], by simp [reading, running], by decide, by decide, ?_, ?_, ?_, by simp [reading, running, State.reset]⟩,
    by decide⟩
  · simp [reading, running, State.reset, Dport.reset]
  · simp [reading, running, State.reset, Dport.reset]
  · simp [reading, running, State.reset, Dport.reset]

/-! ## Hypotheses met: the Write Engine -/

theorem test_CaptureStepsLeadOn_met :
    (let s := asks .writeEngine (.read 0x40000) (atHead captureEntry .oldRead running)
     s.carries 1 .writeEngine (.read 0x40000) ∧ s.engine.work = some (.entry .oldRead) ∧
      s.queue.entries = [captureEntry]) ∧
    (statusesNamed (word3 .uncorrectable) = true ∧ (∃ i : Fin 16, (word3 .uncorrectable)[i] = .uncorrectable) ∧
      (∀ i : Fin 16, (word3 .corrected)[i] = .clean ∨ (word3 .corrected)[i] = .corrected) ∧
      MemResponse.failsRead .fail = true) ∧
    (∀ step ∈ [EntryStep.recordData (some 6), .recordHeader 6],
      let s := asks .writeEngine (writes 0x20340) (atHead captureEntry step running)
      s.carries 1 .writeEngine (writes 0x20340) ∧ (writes 0x20340).isWrite = true ∧
      s.engine.work = some (.entry step) ∧ s.queue.entries = [captureEntry] ∧ captureEntry.context = some 0) := by
  decide +kernel

/-- A bare entry, and a command close entry with a refused, a taken and a taken CLEAR_COUNTERS command. -/
theorem test_LandingDropsTheEntryAndPlacesItsJob_met :
    (∀ e ∈ [bareEntry, closeEntry],
      let s := asks .writeEngine (writes 0x40000) (atHead e .dataWrite running)
      s.carries 1 .writeEngine (writes 0x40000) ∧ s.engine.work = some (.entry .dataWrite) ∧ s.queue.entries = [e]) ∧
    (bareEntry.commandClose = false ∧ closeEntry.commandClose = true) ∧
    (∀ d ∈ [(⟨⟨1, 0⟩, .refused .state⟩ : Decision), ⟨⟨1, 0⟩, .taken⟩, ⟨⟨6, 0⟩, .taken⟩],
      ({ running with slots := running.slots.set 0 ⟨.empty, none, none, .executing, some d, 0⟩ } : State).slots[
        closeEntry.requester].decision = some d) ∧
    failsDataWrite .fail = true ∧ failsDataWrite (.data 0 clean) = true := by
  decide +kernel

/-- A bare entry with no geometry held and no line captured; each step of a capture; a capture buffer of a good read, with word 3 UNCORRECTABLE, and of a failed read. -/
theorem test_EntryRequestsCarryTheirFields_met :
    (∀ step ∈ [EntryStep.dataWrite, .oldRead],
      let s := atHead bareEntry step { running with journal := { running.journal with
        state := .absent .descriptorInvalid, geometry := none } }
      s.queue.entries = [bareEntry] ∧ s.engine.work = some (.entry step) ∧ s.engine.buffer = none) ∧
    (∀ step ∈ [EntryStep.oldRead, .recordData none, .recordHeader 6, .dataWrite],
      ∀ b ∈ [(⟨0, word3 .uncorrectable, false⟩ : CaptureBuffer), CaptureBuffer.ofFailure],
      let s := atHead captureEntry step (withOpen 0 running)
      let t := { s with engine := { s.engine with buffer := some b } }
      t.queue.entries = [captureEntry] ∧ t.journal.geometry = some ring ∧ t.engine.buffer = some b ∧
      t.engine.work = some (.entry step) ∧ captureEntry.context = some 0 ∧ t.contexts[(0 : Fin 4)].epoch = some 5 ∧
      t.journal.head ≠ 0xFFFFFFFFFFFFFFFF#64) := by
  decide +kernel

/-- A refused command's result with no geometry held, and each step with one. -/
theorem test_JobRequestsCarryTheirFields_met :
    (let s := atJob (job .refused .result) (.write .result) { running with journal := { running.journal with
        state := .absent .descriptorInvalid, geometry := none } }
     s.jobs = [job .refused .result] ∧ (job .refused .result).owner = .slot 0 ∧ s.engine.work = some (.write .result)) ∧
    ∀ step ∈ [JobStep.openRecord, .commitMarker, .abortedMarker, .descriptorInvalidate, .formatSlot 63, .descriptorWrite,
        .result],
      let s := atJob (job .openEpoch step) (.write step) running
      s.jobs = [job .openEpoch step] ∧ (job .openEpoch step).owner = .slot 0 ∧ s.journal.geometry = some ring ∧
      s.engine.work = some (.write step) ∧ s.journal.head ≠ 0xFFFFFFFFFFFFFFFF#64 ∧
      (let d : Decision := ⟨⟨1, 0x21⟩, .taken⟩
       ({ s with slots := s.slots.set 0 ⟨.empty, none, none, .executing, some d, 0⟩ } : State).slots[(0 : Fin 4)].decision =
        some d) := by
  decide +kernel

/-- Counts at their greatest, no geometry, an empty ring, and one with everything in use. -/
theorem test_ReportLayouts_met :
    (let r : ResultFields := ⟨0xFF, ⟨7, 0xFF⟩, .complete, .noReason, none, 512, 512, 65536⟩
     r.lineCount ≤ 512 ∧ r.failedCount ≤ 512 ∧ r.free ≤ 65536) ∧
    (State.reset.journal.geometry = none ∧ State.reset.totalReserved = 0) ∧
    (running.journal.geometry = some ring ∧ ring.slots ≤ 65536 ∧ running.queue.entries.length ≤ 16 ∧
      running.reads.length ≤ 8 ∧ running.held.length ≤ 512 ∧ running.totalReserved ≤ 2056) ∧
    (fullQueue.queue.entries.length ≤ 16 ∧
      ({ running with journal := { running.journal with reserved := Vector.replicate 4 514 } } : State).totalReserved ≤
        2056) := by
  decide +kernel

/-- A job of slot 0 whose step of one WRITE is outstanding. -/
theorem test_MarkersDurableMoveTheirContext_met :
    ∀ step ∈ [JobStep.openRecord, .commitMarker, .abortedMarker],
      let s := asks .writeEngine (writes 0x20000) (atJob (job .openEpoch step) (.write step) running)
      s.carries 1 .writeEngine (writes 0x20000) ∧ (writes 0x20000).isWrite = true ∧
      s.jobs = [job .openEpoch step] ∧ (job .openEpoch step).owner = .slot 0 ∧ s.engine.work = some (.write step) := by
  decide +kernel

set_option maxRecDepth 20000 in
/-- A restore of context 0's record 6: the three requests, a good header and none. -/
theorem test_AbortRestoresItsHeldLines_met :
    (∀ phase ∈ [RestorePhase.header, .data none, .write 0 0 true],
      let s := atJob (job .abort .restore) (.restore 0x40000 6 phase) (withOpen 0 running)
      s.jobs = [job .abort .restore] ∧ (job .abort .restore).owner = .slot 0 ∧ s.journal.geometry = some ring ∧
      s.engine.work = some (.restore 0x40000 6 phase)) ∧
    (∀ phase ∈ [RestorePhase.header, .data none],
      let s := asks .writeEngine (.read 0x20300) (atJob (job .abort .restore) (.restore 0x40000 6 phase) (withOpen 0 running))
      s.carries 1 .writeEngine (.read 0x20300) ∧ s.jobs = [job .abort .restore] ∧
      s.engine.work = some (.restore 0x40000 6 phase)) ∧
    (let h : Header := ⟨6, .capture, 0, 0, 0x40000, 5, 0, crc32 (0 : Line), 0, 0⟩
     (some h.encode).bind decodeHeader = some h ∧ h.epoch = (withOpen 0 running).contexts[(0 : Fin 4)].epoch.getD 0) ∧
    ((none : Option Line).bind decodeHeader) = none ∧ statusesNamed clean = true ∧
    (∀ good,
      let s := asks .writeEngine (writes 0x40000) (atJob (job .abort .restore) (.restore 0x40000 6 (.write 0 0 good)) running)
      s.carries 1 .writeEngine (writes 0x40000) ∧ s.engine.work = some (.restore 0x40000 6 (.write 0 0 good))) := by
  decide +kernel

/-- Each step of REINIT, the last slot and the one before it; the result. -/
theorem test_ReinitStepsAndResultRecord_met :
    (∀ step ∈ [JobStep.descriptorInvalidate, .formatSlot 62, .formatSlot 63, .descriptorWrite, .result],
      let s := asks .writeEngine (writes 0x20000) (atJob (job .reinit step) (.write step) running)
      s.carries 1 .writeEngine (writes 0x20000) ∧ (writes 0x20000).isWrite = true ∧ s.jobs = [job .reinit step] ∧
      (job .reinit step).owner = .slot 0 ∧ s.engine.work = some (.write step) ∧ s.journal.geometry = some ring) ∧
    62 + 1 < ring.slots ∧ ¬ 63 + 1 < ring.slots := by
  decide +kernel

/-- A REPORT and the status job, each at both lines, the flag set and clear. -/
theorem test_StatusRecordIsWrittenInTwoLines_met :
    (∀ j ∈ [job .report .statusRecord, statusJob], ∀ u ∈ [WorkUnit.statusFirst none, .statusFirst (some 0), .statusSecond 0],
      let s := asks .writeEngine (writes 0x10300) (atJob j u running)
      s.jobs = [j] ∧ s.engine.work = some u ∧ s.carries 1 .writeEngine (writes 0x10300) ∧
      (writes 0x10300).isWrite = true) ∧
    ((job .report .statusRecord).owner = .slot 0 ∧ statusJob.owner = .statusUnit ∧ running.status.dirty = false ∧
      (setDirty running).status.dirty = true) := by
  decide +kernel

/-! ## Hypotheses met: failures, patrol, the choices after an event -/

/-- Each own write outstanding, and the three failing responses. -/
theorem test_FailedOwnWriteStopsTheDevice_met :
    (∀ step ∈ [EntryStep.recordData (some 6), .recordHeader 6],
      let s := asks .writeEngine (writes 0x20000) (atHead captureEntry step running)
      s.carries 1 .writeEngine (writes 0x20000) ∧ s.queue.entries = [captureEntry] ∧ s.engine.work = some (.entry step)) ∧
    (∀ u ∈ [WorkUnit.write .openRecord, .write .commitMarker, .write .abortedMarker, .restore 0x40000 6 (.write 0 0 true),
        .write .descriptorInvalidate, .write (.formatSlot 0), .write .descriptorWrite, .write .result,
        .statusFirst (some 0), .statusSecond 0],
      let s := asks .writeEngine (writes 0x20000) (atJob (job .reinit .result) u running)
      s.carries 1 .writeEngine (writes 0x20000) ∧ s.jobs = [job .reinit .result] ∧ s.engine.work = some u) ∧
    (writes 0x20000).isWrite = true ∧
    (∀ r ∈ [MemResponse.fail, .unbacked, .data 0 clean], r.failsWrite = true) := by
  decide +kernel

/-- A request on a free and on a held U-port, and a command that is no request. -/
theorem test_StoppedIsLeftByResetOnly_met :
    (let s := { running with device := .stopped }
     s.device = .stopped ∧ s.uport.inProgress = none ∧
      (Instr.commitCommand 2 (goodWord 2 0)).request s = some (.write ⟨2, 0x10228, wordBytes (goodWord 2 0)⟩)) ∧
    (let s := { running with device := .stopped, uport := ⟨some key, [], []⟩ }
     s.uport.inProgress.isSome = true ∧ (Instr.readRequest key).request s = some (.read key)) ∧
    Instr.responseTimerExpiry.request running = none ∧
    (∀ cwb ready, Instr.responseTimerExpiry ≠ .reset cwb ready ∧ Instr.readRequest key ≠ .reset cwb ready) := by
  refine ⟨by decide +kernel, by decide, by decide, ?_⟩
  intro _ _
  constructor <;> intro h <;> cases h

theorem test_TimeoutsFailAndStrayResponsesAreIgnored_met :
    (asks .patrol (.read 0x40000) running).carries 1 .patrol (.read 0x40000) ∧ running.dport.outstanding = none ∧
    ({ running with device := .stopped } : State).device = .stopped ∧
    (∃ o, (asks .patrol (.read 0x40000) running).dport.outstanding = some o ∧ o.issue ≠ 2) := by
  refine ⟨by decide +kernel, by decide, by decide, ⟨⟨.patrol, .read 0x40000, 1⟩, by decide, by decide⟩⟩

/-- The patrol unit over entries 0 and 2, at a line. -/
def patrolling (state : PatrolState) (line : Addr) (placed : Bool) : State :=
  let s := withRegion .logged running
  { s with
    regions := s.regions.set 2 ⟨0x50000, 0x50000, .readonly, 0x50000⟩
    settings := { s.settings with patrolInterval := 1 }
    patrol := ⟨state, some (0, line), some line, placed, some 1⟩ }

theorem test_PatrolStepRunsAndMovesTheCursor_met :
    (let s := patrolling .wait 0x40000 false
     s.device = .run ∧ s.patrol.state = .wait ∧ s.patrol.timer = some 1 ∧ s.patrol.cursor = some (0, 0x40000)) ∧
    (let s := asks .patrol (.read 0x40000) (patrolling .read 0x40000 false)
     s.carries 1 .patrol (.read 0x40000) ∧ s.patrol.stepLine = some 0x40000 ∧
      (DportRequest.read 0x40000).isRead = true) ∧
    ((∀ i : Fin 16, clean[i] = .clean) ∧ (∃ i : Fin 16, (word3 .corrected)[i] = .corrected) ∧
      (∃ i : Fin 16, (word3 .uncorrectable)[i] = .uncorrectable) ∧ MemResponse.failsRead .fail = true) ∧
    (let s := asks .patrol (.renew 0x40000) (patrolling .renew 0x40000 true)
     s.carries 1 .patrol (.renew 0x40000) ∧ (DportRequest.renew 0x40000).isRenew = true ∧ s.patrol.placed = true ∧
      MemResponse.failsWrite .fail = true) ∧
    (let s := patrolling .read 0x40040 false
     s.regions[(0 : Fin 16)].mode ≠ .off ∧ ¬ 0x40040#32 < s.regions[(0 : Fin 16)].limit ∧
      0x40000#32 < s.regions[(0 : Fin 16)].limit ∧ s.regions[(2 : Fin 16)].mode ≠ .off ∧
      (∀ x : Fin 16, 0 < x → x < 2 → s.regions[x].mode = .off) ∧ (∀ x : Fin 16, 2 < x → s.regions[x].mode = .off)) ∧
    (∀ i : Fin 16, running.regions[i].mode = .off) := by
  decide +kernel

/-- An entry and a job waiting with either mark; an entry held at the head; nothing; and a job whose restores are left. -/
theorem test_FreeWriteEngineChoosesItsUnit_met :
    (∀ last ∈ [UnitKind.entry, .job], let s := { running with
        queue := ⟨[bareEntry], 8⟩, jobs := [job .drain .result], engine := ⟨none, none, last⟩ }
      s.device = .run ∧ s.engine.work = none ∧ s.queue.entries = [bareEntry] ∧ bareEntry.context = none ∧
      s.engine.lastUnit = last) ∧
    (let s := { running with
        queue := ⟨[captureEntry], 8⟩
        contexts := running.contexts.set 0 ⟨.opened, none, false, true, 512, 0, 0⟩ }
     captureEntry.context = some 0 ∧ s.contexts[(0 : Fin 4)].openOwed = true ∧ s.jobs = []) ∧
    ({ running with device := .stopped } : State).device ≠ .run ∧
    ((job .abort .restore).next = .restore ∧ (∀ e ∈ [held], e.state = .held → e.record.isSome = true) ∧
      held.holder = 1 ∧ held.state = .held ∧ held.record = some 6) := by
  decide +kernel

/-- Each pattern of waiting clients on a free port, P waiting its sixteenth grant, and the states before RUN. -/
theorem test_FreePortIsGrantedByTheRules_met :
    (∀ step ∈ [StartupStep.idle, .readConfiguration, .readRegions false, .readRegions true, .readDescriptor,
        .playWrite 0x40000 0 0 true, .readSlot, .playHeader, .playData none, .marker 0],
      let s := playing step
      s.startup.step = step ∧ s.journal.geometry = some ring ∧ s.startup.playback[s.startup.position]? = some 1 ∧
      s.startup.unfinished[0]? = some ⟨0, 0, 0, 0⟩ ∧ s.journal.head ≠ 0xFFFFFFFFFFFFFFFF#64) ∧
    (∀ last ∈ [GrantMark.w, .r], let s := { atJob (job .drain .result) (.write .result) running with
        dport := { running.dport with readList := [.straight], lastGrant := last }, uport := ⟨some key, [], []⟩ }
      s.dport.outstanding = none ∧ s.engine.work.isSome = true ∧ s.dport.readList ≠ [] ∧
      (engineIssue s).isSome = true ∧ s.patrolRequest = none) ∧
    (let s := patrolling .read 0x40000 false
     s.dport.outstanding = none ∧ s.patrolRequest = some (.read 0x40000) ∧ s.engine.work = none ∧ s.dport.readList = [] ∧
      ({ s with dport := { s.dport with patrolWait := 16 } } : State).dport.patrolWait = 16) ∧
    ([ReadMember.deferred key] ≠ [] ∧ running.patrolRequest = none) ∧
    (State.reset.device = .start ∧ State.reset.dport.outstanding = none) ∧
    (∀ s ∈ [starting .load .readDescriptor, starting .scan .readSlot, starting .playback .playHeader],
      s.dport.outstanding = none ∧ (startupIssue s).isSome = true) := by
  decide +kernel

/-! ## Hypotheses met: accounting, causes, layouts, invariants -/

/-- A READY and a FORMATTING ring with 64 and with no slot free; a live context; a state that counts nothing. -/
theorem test_SpaceAccountingAndLiveTail_met :
    (running.journal.geometry = some ring ∧ running.journal.tail ≤ running.journal.head ∧ running.journal.state = .ready ∧
      running.canClaim 64 = true ∧ running.canClaim 65 = false) ∧
    (State.reset.journal.state = .recovering) ∧
    (let c := (withOpen 0 running).contexts[(0 : Fin 4)]
     c.state ≠ .closed ∧ c.openWritten = true ∧ c.epoch = some 5) ∧
    (∀ k : Fin 4, running.contexts[k].state = .closed) := by
  decide +kernel

/-- Context 0 OPEN with epoch 5 and line 40000h held in record 6, its marker reserved, its COMMIT staged and waiting to be
commanded. -/
def counting : State := { staged 0 2 0 (withOpen 0 running) with
  pending := [.commitCommand 0 (goodWord 0 0)]
  journal := ⟨.ready, some ring, 7, 5, #v[1, 0, 0, 0]⟩
  held := [⟨0x40000, 0, .held, some 6⟩] }

theorem test_counting_coherent : counting.Coherent ∧ counting.StartupCoherent := by
  refine ⟨⟨by decide, by decide, by decide, by decide, by decide, by decide, by decide, ?_, by decide, by decide, ?_, ?_, ?_,
    ?_, trivial⟩, ⟨trivial, ?_, by decide, by decide, ?_⟩⟩ <;>
    simp [counting, staged, withOpen, running, State.reset, Dport.reset]

theorem test_counting_jobsCoherent : counting.JobsCoherent := by
  have hj : counting.jobs = [] := rfl
  have hq : counting.queue.entries = [] := rfl
  have hno : ∀ k : Fin 4, ¬ counting.owesFormat k := by
    intro k
    simp [State.owes, State.closeQueued, hj, hq]
  exact ⟨by simp [hj], trivial, by decide, by decide, by decide, by decide, fun k h => absurd h (hno k),
    fun k _ h => absurd h (hno k), by decide⟩

theorem test_counting_accounted : counting.Accounted := by
  have hj : counting.jobs = [] := rfl
  have hq : counting.queue.entries = [] := rfl
  have hw : counting.engine.work = none := rfl
  have hheld : counting.held = [⟨0x40000, 0, .held, some 6⟩] := rfl
  have hno : ∀ (k : Fin 4) (o : BitVec 4) (p : JobStep → Prop), ¬ counting.owes k o p := by
    intro k o p
    simp [State.owes, State.closeQueued, hj, hq]
  refine
    { ring := by decide +kernel
      ringHeld := by decide +kernel
      ready := by decide +kernel
      tailAtHead := by decide +kernel
      space := by decide +kernel
      closed := by simp only [hheld, hq]; decide +kernel
      balance := by decide +kernel
      limit := by decide +kernel
      opening := fun k => iff_of_false (by revert k; decide +kernel) (hno k _ _)
      opened := by decide +kernel
      written := by decide +kernel
      epoch := fun k h => ⟨5, by revert k; decide +kernel⟩
      closing := fun k => iff_of_false (by revert k; decide +kernel) (hno k _ _)
      aborting := fun k => iff_of_false (by revert k; decide +kernel) (hno k _ _)
      endsLast := by simp [hq]
      landed := by simp [hj]
      captures := by simp [hq]
      capturing := by simp [hheld]
      captureOnce := by decide +kernel
      recorded := by simp [hheld]
      restoring := by simp [hheld]
      restoreLine := by simp [hw]
      restored := by simp [hj, hw]
      begun := by simp [hw]
      issued := fun _ => show counting.engineOut = false from by decide +kernel }

theorem test_EveryStepKeepsTheJobsCoherent_met :
    counting.StartupCoherent ∧ counting.JobsCoherent ∧ (nextOf (step counting)).isSome = true :=
  ⟨test_counting_coherent.2, test_counting_jobsCoherent, by decide +kernel⟩

theorem test_EveryStepKeepsTheAccounting_met :
    counting.Coherent ∧ counting.StartupCoherent ∧ counting.JobsCoherent ∧ counting.Accounted ∧
      counting.journal.head ≠ 0xFFFFFFFFFFFFFFFF#64 ∧
      (nextOf (step counting)).map (fun t => t.contexts[(0 : Fin 4)].state) = some .closing :=
  ⟨test_counting_coherent.1, test_counting_coherent.2, test_counting_jobsCoherent, test_counting_accounted, by decide,
    by decide +kernel⟩

theorem test_EventsKeepTheSpaceLaw_met :
    (running.journal.geometry = some ring ∧ running.journal.state = .ready ∧
      running.journal.tail ≤ running.journal.head ∧ running.used + running.totalReserved ≤ ring.slots ∧
      running.canClaim 64 = true ∧ running.journal.tail ≤ running.liveTail ∧ running.liveTail ≤ running.journal.head) ∧
    (let s := { running with journal := { running.journal with reserved := Vector.replicate 4 16 } }
     s.used + s.totalReserved = ring.slots ∧ 0 < s.journal.reserved[(0 : Fin 4)] ∧
      s.journal.head ≠ 0xFFFFFFFFFFFFFFFF#64) := by
  decide +kernel

theorem test_LowIsRaisedOnACrossing_met :
    (let s := { running with journal := { running.journal with reserved := running.journal.reserved.set 0 49 } }
     s.journal.state = .ready ∧ s.free = 15 ∧ s.settings.lowMark = 16 ∧ 16 ≤ 16) ∧
    (running.settings.lowMark ≤ running.free ∧ running.settings.lowMark ≠ 0) ∧
    ({ running with settings := { running.settings with lowMark := 0 } } : State).settings.lowMark = 0 := by
  decide +kernel

theorem test_RaisesSetTheFlagAndPlaceOneStatusJob_met :
    (running.status.causes.getLsbD 7 = false ∧ running.status.dirty = false ∧
      ∀ j ∈ running.jobs, j.owner ≠ .statusUnit) ∧
    (raiseCause .stopped running).status.causes.getLsbD 7 = true ∧ (raiseCause .stopped running).status.dirty = true := by
  decide +kernel

theorem test_CountersRiseAndSaturate_met :
    (running.status.counters.get .captures).toNat < 65535 ∧ Counter.captures ≠ .conflicts ∧
    (({ running with status := { running.status with counters :=
      { running.status.counters with captures := 0xFFFF } } } : State).status.counters.get .captures).toNat = 65535 := by
  decide +kernel

set_option maxRecDepth 20000 in
/-- The lowest ring right under the window, the highest right after it, and the largest at the top of memory. -/
theorem test_JournalLinesReadBackAsWritten_met :
    (∀ g ∈ [(⟨0x0E000, 64⟩ : Geometry), ⟨0x11000, 64⟩, ⟨0xFF800000, 65536⟩],
      g.base.toNat % 128 = 0 ∧ 64 ≤ g.slots ∧ g.slots ≤ 65536 ∧ g.base.toNat + 128 * g.slots ≤ 2 ^ 32 ∧
      (g.base.toNat + 128 * g.slots ≤ 0x10000 ∨ 0x10000 + 4096 ≤ g.base.toNat)) ∧
    (let h : Header := ⟨1, .aborted, 2, 2, 0, 1, 0, 0, 512, 512⟩
     decodeHeader h.encode = some h) := by
  decide +kernel

theorem test_MemoryStoresWordsByEnablesAndMark_met :
    (0x8#4 ≠ 0 ∧ 0x8#4 ≠ 0xF#4) ∧ 0xF#4 ≠ 0 ∧ (0#4 = 0) := by decide

/-- The running part is coherent, and its idle step leads to itself. -/
theorem test_running_coherent : running.Coherent := by
  refine ⟨by decide, by decide, by decide, by decide, by decide, by decide, by decide, ?_, ?_, by decide, ?_, ?_, ?_, ?_, ?_⟩
    <;> simp [running, State.reset, Dport.reset]

theorem test_running_startupCoherent : running.StartupCoherent := by
  refine ⟨?_, ?_, ?_, ?_, ?_⟩ <;>
    simp [State.stepAllowed, running, State.reset, Dport.reset, Startup.reset]

theorem test_EveryStepKeepsThePartCoherent_met : running.Coherent ∧ ∃ t, step running = .next t :=
  ⟨test_running_coherent, running, rfl⟩

theorem test_EveryStepKeepsTheStartupCoherent_met : running.StartupCoherent ∧ ∃ t, step running = .next t :=
  ⟨test_running_startupCoherent, running, rfl⟩

theorem test_running_settled : running.Settled := by decide +kernel

theorem test_EveryStepLeavesThePartSettled_met :
    running.Coherent ∧ running.StartupCoherent ∧ running.Settled ∧ ∃ t, step running = .next t :=
  ⟨test_running_coherent, test_running_startupCoherent, test_running_settled, running, rfl⟩

theorem test_DeviceStateMovesByItsTable_met :
    running.StartupCoherent ∧ (∃ t, exec .memReadyFoundAsserted running = .next t) ∧
    (∀ cwb ready, Instr.memReadyFoundAsserted ≠ .reset cwb ready) ∧
    (∃ t, exec (.reset 0 false) running = .next t) ∧ (∃ t, exec (.reset 0 true) running = .next t) := by
  refine ⟨test_running_startupCoherent, ⟨_, rfl⟩, ?_, ⟨_, rfl⟩, ⟨_, rfl⟩⟩
  intro _ _ h
  cases h

end Sys2Proof.Tests
end

/-! PROOF. O24: the closing word of OPEN (R24, R104, R108). First what a closing word in order does whatever its opcode,
then OPEN's verdict case by case, then OPEN's effect. -/

namespace Sys2Proof.Machine

/-! ## A closing word in order -/

/-- On an IDLE slot with words 0 and 1 staged the checks of word 2 pass and ask for the taking (R104). -/
theorem CommandSlot.check_closingWord {c : CommandSlot} (hphase : c.phase = .idle) (hstaging : c.staging = .word1)
    (k : Requester) (v : Word) : c.check k 2 v = .ok (.close k) := by
  simp [CommandSlot.check, CommandSlot.closing, hphase, hstaging]

/-- A row that writes slot `k`'s word 2 in order takes the staged command at its acceptance (R104). -/
theorem exec_of_closingWord {c : Instr} {s : State} {k : Requester} {w : WordWrite}
    (hrow : c.wordAt = some (0x208 + 16 * k.val, w)) (htakes : s.takesWord w) (hreq : w.requester = k)
    (hphase : s.slots[k].phase = .idle) (hstaging : s.slots[k].staging = .word1) :
    exec c s = .next (s.wordAccepted (0x208 + 16 * k.val) w true (takeCommand k s)) := by
  have hword : windowWord (0x208 + 16 * k.val) = .command k 2 := by
    rw [← windowWord_commandOffset k 2]
    congr 1
    simp only [commandOffset]
    omega
  have hown : ∀ j n, windowWord (0x208 + 16 * k.val) = .command j n → w.requester = j := by
    intro j n h
    rw [hword] at h
    cases h
    exact hreq
  have hcheck : s.wordCheck (windowWord (0x208 + 16 * k.val)) w.value = .ok (.close k) := by
    rw [hword]
    exact CommandSlot.check_closingWord hphase hstaging k w.value
  rw [exec_of_wordAt hrow, wordWriteAt_of_accepted htakes (by omega) (by omega) (by simp [hword]) (by simp [hword])
    hown hcheck]
  rfl

/-- The taking of a staged command: its verdict closes the slot, and only a taken command has effects (R104). -/
theorem takeCommand_of_staged {s : State} {k : Requester} {word : CommandWord} {a : Word}
    (hword : s.slots[k].word = some word) (harg : s.slots[k].argA = some a) :
    takeCommand k s = closeSlot k ⟨word, s.verdict k word.opcode a⟩
      (if s.verdict k word.opcode a = .taken then commandTaken k word.opcode a s else s) := by
  simp only [takeCommand, CommandSlot.stagedWord, hword, harg, Option.getD_some]

/-- Closing a slot of a state that has the slots of `s` writes what closing it in `s` writes. -/
theorem closeSlot_of_slots {s u : State} (hslots : u.slots = s.slots) (k : Requester) (d : Decision) :
    closeSlot k d u = { u with slots := s.slots.set k { s.slots[k] with
      staging := .empty, word := none, argA := none, phase := .executing, decision := some d } } := by
  simp only [closeSlot, updSlot, hslots]

/-! ## OPEN's verdict (R108) -/

theorem journalReady_iff (s : State) : s.journalReady = true ↔ s.journal.state = .ready := by
  simp [State.journalReady]

/-- A claim succeeds exactly when the journal is READY with that many slots free (R12). -/
theorem canClaim_iff (s : State) (n : Nat) : s.canClaim n = true ↔ s.journal.state = .ready ∧ n ≤ s.free := by
  simp [State.canClaim, journalReady_iff]

section openVerdict

variable {s : State} {k : Requester} {a : Word}

theorem openVerdict_of_notClosed (hstate : s.contexts[k].state ≠ .closed) :
    s.openVerdict k a = .refused .state := by
  rw [State.openVerdict, if_pos hstate]

theorem openVerdict_of_overLimit (hstate : s.contexts[k].state = .closed) (ha : 512 < a.toNat) :
    s.openVerdict k a = .refused .limit := by
  rw [State.openVerdict, if_neg (not_not_intro hstate), if_pos ha]

theorem openVerdict_of_notReady (hstate : s.contexts[k].state = .closed) (ha : a.toNat ≤ 512)
    (hready : s.journal.state ≠ .ready) : s.openVerdict k a = .refused .noJournal := by
  have hr : s.journalReady = false := Bool.eq_false_iff.mpr (mt (journalReady_iff s).mp hready)
  rw [State.openVerdict, if_neg (not_not_intro hstate), if_neg (not_lt.mpr ha), if_pos hr]

/-- With the first three checks passed, the claim of 2 slots decides. -/
theorem openVerdict_of_ready (hstate : s.contexts[k].state = .closed) (ha : a.toNat ≤ 512)
    (hready : s.journal.state = .ready) :
    s.openVerdict k a = if 2 ≤ s.free then .taken else .refused .journalFull := by
  have hr : s.journalReady = true := (journalReady_iff s).mpr hready
  have hclaim := canClaim_iff s 2
  rw [State.openVerdict, if_neg (not_not_intro hstate), if_neg (not_lt.mpr ha), if_neg (by simp [hr])]
  by_cases hfree : 2 ≤ s.free <;> simp [hclaim, hready, hfree]

end openVerdict

/-! ## OPEN at its closing word -/

/-- OPEN taken (R24, R11): free before the claim is free before the event, for a context does not count in it. -/
theorem openTaken_eq (k : Requester) (a : Word) (s : State) :
    openTaken k a s = lowTest s.free s.settings.lowMark { s with
      contexts := s.contexts.set k ⟨.opened, none, false, true, if a = 0 then 512 else a.toNat, 0, 0⟩
      journal := { s.journal with reserved := s.journal.reserved.set k (s.journal.reserved[k] + 2) } } :=
  rfl

/-- The taking of a staged OPEN: its effect when R108 lets it be taken, and its slot closed with the verdict either way. -/
theorem takeCommand_open {s : State} {k : Requester} {tag : Byte} {a : Word}
    (hword : s.slots[k].word = some ⟨1, tag⟩) (harg : s.slots[k].argA = some a) :
    takeCommand k s = { (if s.openVerdict k a = .taken then openTaken k a s else s) with
      slots := s.slots.set k { s.slots[k] with
        staging := .empty, word := none, argA := none, phase := .executing
        decision := some ⟨⟨1, tag⟩, s.openVerdict k a⟩ } } := by
  have hverdict : s.verdict k 1 a = s.openVerdict k a := by simp [State.verdict]
  have heffect : commandTaken k 1 a s = openTaken k a s := by simp [commandTaken]
  rw [takeCommand_of_staged hword harg, hverdict, heffect]
  apply closeSlot_of_slots
  split <;> simp

/-- Settles O24: the closing word makes the taking, whose verdict and effect the lemmas above give case by case. -/
theorem openIsJudgedAndTaken : Obligations.OpenIsJudgedAndTaken := by
  unfold Obligations.OpenIsJudgedAndTaken
  intro s k w tag a htakes hreq hphase hstaging hword harg closed answer
  have hexec := exec_of_closingWord (c := .openCommand k w) rfl htakes hreq hphase hstaging
  rw [takeCommand_open hword harg] at hexec
  have refused : ∀ r, s.openVerdict k a = .refused r → answer (.refused r) s := by
    intro r hv
    rw [hv, if_neg (by simp)] at hexec
    exact hexec
  refine ⟨fun hstate => refused _ (openVerdict_of_notClosed hstate),
    fun hstate ha => refused _ (openVerdict_of_overLimit hstate ha),
    fun hstate ha hready => refused _ (openVerdict_of_notReady hstate ha hready),
    fun hstate ha hready hfree => refused _ ?journalFull,
    fun hstate ha hready hfree => ?taken⟩
  case journalFull => rw [openVerdict_of_ready hstate ha hready, if_neg (not_le.mpr hfree)]
  case taken =>
    have hv : s.openVerdict k a = .taken := by rw [openVerdict_of_ready hstate ha hready, if_pos hfree]
    rw [hv, if_pos rfl, openTaken_eq] at hexec
    exact hexec

end Sys2Proof.Machine

/-! PROOF. O15, O18: the judgement of a write and what a refusal leaves as it was (R44, R46, R56, R57, R59, R60). First
the decision for a region's line case by case, then that a refusal gives the Write Engine and the Arbiter nothing to do,
then the judgement in the order of Table 3-5. -/

namespace Sys2Proof.Machine

/-! ## The decision for a line inside an active region (R59, R60) -/

/-- The held-line count of a context is the number of entries it holds (R22). -/
theorem heldCount_eq (s : State) (k : Requester) :
    s.heldCount k = (s.held.filter fun e => e.holder == k).length :=
  List.countP_eq_length_filter

/-- A claim of `n` slots fails exactly when the journal is not READY or has fewer free (R12). -/
theorem canClaim_eq_false_iff (s : State) (n : Nat) :
    s.canClaim n = false ↔ ¬ (s.journal.state = .ready ∧ n ≤ s.free) := by
  rw [← canClaim_iff, Bool.not_eq_true]

/-- The three checks of a capture in their order, the last one by the success of its claim (R60). -/
theorem captureCheck_eq (s : State) (k : Requester) :
    s.captureCheck k =
      if 512 ≤ s.held.length then .error .holdFull
      else if s.contexts[k].lineLimit ≤ (s.held.filter fun e => e.holder == k).length then .error .epochLimit
      else if s.journal.state = .ready ∧ 1 ≤ s.free then .ok .capture
      else .error .journalFull := by
  simp only [State.captureCheck, Config.heldCapacity, heldCount_eq, canClaim_eq_false_iff, ite_not]

section regionCheck

variable {s : State} {k : Requester} {line : Addr} {mode : RegionMode}

theorem regionCheck_of_readonly : s.regionCheck k line .readonly = .error .readOnly := by
  rw [State.regionCheck, if_pos rfl]

/-- A line held by another context is a conflict, whatever the writer's own context. -/
theorem regionCheck_of_heldByOther {j : Requester} (hmode : mode ≠ .readonly)
    (hheld : (s.lookupHeld line).map (·.holder) = some j) (hj : j ≠ k) :
    s.regionCheck k line mode = .error .conflict := by
  obtain ⟨e, he, rfl⟩ := Option.map_eq_some_iff.mp hheld
  simp only [State.regionCheck, if_neg hmode, he, if_pos hj]

/-- A line held by the writer's own context is written bare while that context is OPEN. -/
theorem regionCheck_of_heldByOwn (hmode : mode ≠ .readonly)
    (hheld : (s.lookupHeld line).map (·.holder) = some k) :
    s.regionCheck k line mode =
      if s.contexts[k].state = .opened then .ok (.bare (some k)) else .error .conflict := by
  obtain ⟨e, he, rfl⟩ := Option.map_eq_some_iff.mp hheld
  simp only [State.regionCheck, if_neg hmode, he, ne_eq, not_true_eq_false, if_false]

/-- For a line nobody holds the writer's own context decides first, then the mode. -/
theorem regionCheck_of_notHeld (hmode : mode ≠ .readonly)
    (hheld : (s.lookupHeld line).map (·.holder) = none) :
    s.regionCheck k line mode =
      if s.contexts[k].state = .opened then s.captureCheck k
      else if mode = .guarded then .error .guarded
      else .ok (.bare none) := by
  simp only [State.regionCheck, if_neg hmode, Option.map_eq_none_iff.mp hheld]

end regionCheck

/-- Settles O15: one row of Table 3-6 after the other. -/
theorem regionWriteDecision : Obligations.RegionWriteDecision := by
  unfold Obligations.RegionWriteDecision
  intro s k line mode _ own holder heldByOwn
  refine ⟨?readonly, ?heldByOther, ?heldNotOpen, ?heldOpen, ?capture, ?guarded, ?logged⟩
  case readonly =>
    rintro rfl
    exact regionCheck_of_readonly
  case heldByOther =>
    intro hmode j hheld hj
    exact regionCheck_of_heldByOther hmode hheld hj
  case heldNotOpen =>
    intro hmode hheld hown
    rw [regionCheck_of_heldByOwn hmode hheld, if_neg hown]
  case heldOpen =>
    intro hmode hheld hown
    rw [regionCheck_of_heldByOwn hmode hheld, if_pos hown]
  case capture =>
    intro hmode hheld hown
    rw [regionCheck_of_notHeld hmode hheld, if_pos hown, captureCheck_eq]
  case guarded =>
    rintro rfl hheld hown
    rw [regionCheck_of_notHeld (by decide) hheld, if_neg hown, if_pos rfl]
  case logged =>
    rintro rfl hheld hown
    rw [regionCheck_of_notHeld (by decide) hheld, if_neg hown, if_neg (by decide)]

/-! ## When the Write Engine and the Arbiter have nothing to do (R78, R136, R141) -/

/-- An issue leaves a request outstanding, so it never leads to a free D-port. -/
theorem issueRequest_dport_ne {s t : State} (hfree : t.dport.outstanding = none) (client : Client)
    (req : DportRequest) : (issueRequest client req s).dport ≠ t.dport := by
  intro h
  simp [← h, issueRequest] at hfree

section freePort

variable {s : State} (hfree : s.dport.outstanding = none)
include hfree

/-- A grant to the Write Engine leaves a free D-port as it was exactly when the engine has no request. -/
theorem grantW_dport_eq_iff : (grantW s).dport = s.dport ↔ engineIssue s = none := by
  cases h : engineIssue s <;> simp [grantW, h, issueRequest_dport_ne hfree]

/-- The same for the Patrol Unit. -/
theorem grantP_dport_eq_iff : (grantP s).dport = s.dport ↔ s.patrolRequest = none := by
  cases h : s.patrolRequest <;> simp [grantP, h, issueRequest_dport_ne hfree]

/-- The same for the Start-up Controller. -/
theorem grantS_dport_eq_iff : (grantS s).dport = s.dport ↔ startupIssue s = none := by
  cases h : startupIssue s <;> simp [grantS, h, issueRequest_dport_ne hfree]

/-- The same for the Read List: its head member leaves it, even a straight read that the U-port no longer holds. -/
theorem grantR_dport_eq_iff : (grantR s).dport = s.dport ↔ s.dport.readList = [] := by
  cases hlist : s.dport.readList with
  | nil => simp [grantR, hlist]
  | cons m rest =>
    have hleaves : (markGrant .r { s with dport := { s.dport with readList := rest } }).dport ≠ s.dport := by
      intro h
      have hrest : rest = s.dport.readList := congrArg (·.readList) h
      simp [hlist] at hrest
    cases m with
    | straight =>
      cases hport : s.uport.inProgress <;>
        simp [grantR, hlist, hport, hleaves, issueRequest_dport_ne hfree]
    | deferred key => simp [grantR, hlist, issueRequest_dport_ne hfree]

end freePort

/-! ## What a refusal leaves: other answers and counters (R45, R46) -/

/-- The state with other answers recorded and other counter values: all that a refused request changes. -/
def State.recorded (s : State) (answers : List (Requester × Answer)) (counters : Counters) : State :=
  { s with uport := { s.uport with answers := answers }, status := { s.status with counters := counters } }

theorem giveAnswer_eq_recorded (k : Requester) (a : Answer) (s : State) :
    giveAnswer k a s = s.recorded (s.uport.answers ++ [(k, a)]) s.status.counters := rfl

/-- A fault's answer and its count are such a change, whatever the reason. -/
theorem giveAnswer_countFault_eq_recorded (k : Requester) (a : Answer) (f : FaultReason) (s : State) :
    giveAnswer k a (countFault f s) =
      s.recorded (s.uport.answers ++ [(k, a)]) (countFault f s).status.counters := by
  cases f <;> rfl

section recorded

variable {s : State} (answers : List (Requester × Answer)) (counters : Counters)

theorem recorded_self (s : State) : s.recorded s.uport.answers s.status.counters = s := rfl

/-- `recorded` changes no other field that a choice or a grant reads. -/
@[simp] theorem recorded_frame :
    (s.recorded answers counters).device = s.device ∧ (s.recorded answers counters).queue = s.queue ∧
    (s.recorded answers counters).jobs = s.jobs ∧ (s.recorded answers counters).engine = s.engine ∧
    (s.recorded answers counters).dport = s.dport ∧ (s.recorded answers counters).startup = s.startup :=
  ⟨rfl, rfl, rfl, rfl, rfl, rfl⟩

@[simp] theorem recorded_waits :
    (s.recorded answers counters).wWaits = s.wWaits ∧ (s.recorded answers counters).rWaits = s.rWaits ∧
    (s.recorded answers counters).pWaits = s.pWaits ∧
    (s.recorded answers counters).patrolRequest = s.patrolRequest :=
  ⟨rfl, rfl, rfl, rfl⟩

@[simp] theorem recorded_beginnable (e : PostedEntry) :
    (s.recorded answers counters).beginnable e = s.beginnable e := rfl

@[simp] theorem recorded_jobUnit (j : Job) : (s.recorded answers counters).jobUnit j = s.jobUnit j := rfl

@[simp] theorem recorded_beginUnit (u : WorkUnit) (kind : UnitKind) :
    beginUnit u kind (s.recorded answers counters) = (beginUnit u kind s).recorded answers counters := rfl

/-- The choice of the next unit reads neither answers nor counters. -/
theorem chooseUnit_recorded :
    chooseUnit (s.recorded answers counters) = (chooseUnit s).recorded answers counters := by
  by_cases hchooses : s.device = .run ∧ s.engine.work = none
  · cases hqueue : s.queue.entries with
    | nil => cases hjobs : s.jobs <;> simp [chooseUnit, hchooses, hqueue, hjobs]
    | cons e es =>
      cases hjobs : s.jobs with
      | nil => by_cases hentry : s.beginnable e <;> simp [chooseUnit, hchooses, hqueue, hjobs, hentry]
      | cons j js =>
        by_cases hentry : s.beginnable e ∧ s.engine.lastUnit = .job <;>
          simp [chooseUnit, hchooses, hqueue, hjobs, hentry]
  · simp [chooseUnit, hchooses]

/-- Whether the Write Engine has a request does not depend on answers or counters (a status line's contents do). -/
theorem engineIssue_recorded_isNone :
    (engineIssue (s.recorded answers counters)).isNone = (engineIssue s).isNone := by
  simp only [engineIssue, recorded_frame]
  split <;> simp only [Option.isNone_some]

/-- Whether the Start-up Controller has a request does not depend on them either. -/
theorem startupIssue_recorded_isNone :
    (startupIssue (s.recorded answers counters)).isNone = (startupIssue s).isNone := by
  simp only [startupIssue, recorded_frame]
  cases s.startup.step with
  | marker i => cases h : s.startup.unfinished[i]? <;> simp only [h, Option.isNone_some]
  | _ => rfl

/-- The Arbiter's choice in RUN grants nothing under other answers and counters when it grants nothing now. -/
theorem grantRun_recorded_eq_self (hfree : s.dport.outstanding = none) (h : (grantRun s).dport = s.dport) :
    grantRun (s.recorded answers counters) = s.recorded answers counters := by
  have hW (h : (grantW s).dport = s.dport) :
      grantW (s.recorded answers counters) = s.recorded answers counters := by
    have hnone : engineIssue (s.recorded answers counters) = none := by
      rw [← Option.isNone_iff_eq_none, engineIssue_recorded_isNone, (grantW_dport_eq_iff hfree).mp h,
        Option.isNone_none]
    simp [grantW, hnone]
  have hR (h : (grantR s).dport = s.dport) :
      grantR (s.recorded answers counters) = s.recorded answers counters := by
    simp [grantR, (grantR_dport_eq_iff hfree).mp h]
  have hP (h : (grantP s).dport = s.dport) :
      grantP (s.recorded answers counters) = s.recorded answers counters := by
    simp [grantP, (grantP_dport_eq_iff hfree).mp h]
  simp only [grantRun, recorded_frame, recorded_waits] at h ⊢
  by_cases hbound : s.pWaits ∧ s.dport.patrolWait = Config.patrolBound
  · rw [if_pos hbound] at h ⊢
    exact hP h
  · rw [if_neg hbound] at h ⊢
    split at h
    · exact hR h
    · exact hW h
    · exact hW h
    · exact hR h
    · exact hP h

/-- A grant that leaves the D-port as it was would grant nothing under other answers and counters. -/
theorem grant_recorded_eq_self (h : (grant s).dport = s.dport) :
    grant (s.recorded answers counters) = s.recorded answers counters := by
  cases hport : s.dport.outstanding with
  | some o => simp [grant, hport]
  | none =>
    have hS (h : (grantS s).dport = s.dport) :
        grantS (s.recorded answers counters) = s.recorded answers counters := by
      have hnone : startupIssue (s.recorded answers counters) = none := by
        rw [← Option.isNone_iff_eq_none, startupIssue_recorded_isNone, (grantS_dport_eq_iff hport).mp h,
          Option.isNone_none]
      simp [grantS, hnone]
    simp only [grant, recorded_frame, hport] at h ⊢
    cases hdev : s.device with
    | start | stopped => rfl
    | load | scan | playback =>
      rw [hdev] at h
      exact hS h
    | run =>
      rw [hdev] at h
      exact grantRun_recorded_eq_self answers counters hport h

/-- Whatever a grant does, it takes the D-port or a member of its Read List. -/
theorem grant_eq_self_of_dport (h : (grant s).dport = s.dport) : grant s = s := by
  have hsame := grant_recorded_eq_self s.uport.answers s.status.counters h
  rwa [recorded_self] at hsame

/-- A settled state stays settled under other answers and counters: nothing follows a refusal (R46). -/
theorem settle_recorded_of_settled (h : s.Settled) :
    settle (s.recorded answers counters) = s.recorded answers counters := by
  have hdport : (grant (chooseUnit s)).dport = (chooseUnit s).dport := by
    rw [show grant (chooseUnit s) = s from h]
    simp only [chooseUnit_frame]
  have hgrants : grant (chooseUnit s) = chooseUnit s := grant_eq_self_of_dport hdport
  have hchoose : chooseUnit s = s := hgrants.symm.trans h
  calc settle (s.recorded answers counters)
      = grant ((chooseUnit s).recorded answers counters) := by rw [settle, chooseUnit_recorded]
    _ = (chooseUnit s).recorded answers counters := grant_recorded_eq_self answers counters hdport
    _ = s.recorded answers counters := by rw [hchoose]

end recorded

/-! ## A refused write (R44, R46, R56, R57) -/

/-- A request is MALFORMED exactly when its size is none of the seven or its address no multiple of it (R44). -/
theorem malformed_iff (a : Addr) (n : Nat) :
    malformed a n = true ↔ ¬ (n ∈ [1, 2, 4, 8, 16, 32, 64] ∧ a.toNat % n = 0) := by
  simp only [malformed, legalSize, Bool.or_eq_true, Bool.not_eq_true', bne_iff_ne, not_and_or,
    List.contains_eq_mem, decide_eq_false_iff_not, ne_eq]

theorem queueFull_of_length {s : State} (h : s.queue.entries.length = 16) : s.queueFull = true :=
  decide_eq_true h.ge

section refusedWrite

variable {s : State} {w : WriteRequest}

/-- In RUN the shape is checked first (step 2 of Table 3-5). -/
theorem judge_of_malformed (hrun : s.device = .run) (hshape : malformed w.address w.bytes.length = true) :
    s.judge w = .fault .malformed := by
  simp only [State.judge, hrun, hshape, if_true]

/-- A write of good shape that its class refuses is a fault, whether or not the queue is full (step 3). -/
theorem judge_of_classFault {f : FaultReason} (hrun : s.device = .run)
    (hshape : malformed w.address w.bytes.length = false) (hclass : s.classCheck w = .error f) :
    s.judge w = .fault f := by
  simp only [State.judge, hrun, hshape, hclass, Bool.false_eq_true, if_false]

/-- A write that passes both checks finds no place in a full queue (step 4). -/
theorem judge_of_queueFull {a : Admitted} (hrun : s.device = .run)
    (hshape : malformed w.address w.bytes.length = false) (hclass : s.classCheck w = .ok a)
    (hfull : s.queueFull = true) : s.judge w = .retry := by
  simp only [State.judge, hrun, hshape, hclass, hfull, Bool.false_eq_true, if_false, if_true]

/-- A write at a free U-port is judged, and the event ends. -/
theorem exec_writeRequest_of_free (hfree : s.uport.inProgress = none) :
    exec (.writeRequest w) s = .next (settle (judgeWrite w s)) := by
  rw [exec_of_request (c := .writeRequest w) rfl, presentRequest_of_free hfree, takeRequest]

/-- A write judged a fault counts it and answers it; nothing follows. -/
theorem exec_writeRequest_of_fault {f : FaultReason} (hfree : s.uport.inProgress = none) (hsettled : s.Settled)
    (hjudge : s.judge w = .fault f) :
    exec (.writeRequest w) s = .next (giveAnswer w.requester (.fault f) (countFault f s)) := by
  rw [exec_writeRequest_of_free hfree, judgeWrite, hjudge]
  simp only [giveAnswer_countFault_eq_recorded, settle_recorded_of_settled _ _ hsettled]

/-- A write judged RETRY is answered, and nothing follows. -/
theorem exec_writeRequest_of_retry (hfree : s.uport.inProgress = none) (hsettled : s.Settled)
    (hjudge : s.judge w = .retry) :
    exec (.writeRequest w) s = .next (giveAnswer w.requester .retry s) := by
  rw [exec_writeRequest_of_free hfree, judgeWrite, hjudge]
  simp only [giveAnswer_eq_recorded, settle_recorded_of_settled _ _ hsettled]

end refusedWrite

/-- Settles O18: the three ways to refuse a write, each through its judgement. -/
theorem refusedWritesChangeOnlyTheirCounter : Obligations.RefusedWritesChangeOnlyTheirCounter := by
  unfold Obligations.RefusedWritesChangeOnlyTheirCounter
  intro s w hrun hfree hsettled refused wellShaped
  have hrefused (f : FaultReason) (hjudge : s.judge w = .fault f) : exec (.writeRequest w) s = refused f := by
    rw [exec_writeRequest_of_fault hfree hsettled hjudge]
    cases f <;> rfl
  have hshape (h : wellShaped) : malformed w.address w.bytes.length = false :=
    Bool.eq_false_iff.mpr fun hm => (malformed_iff _ _).mp hm h
  refine ⟨fun hbad => ?badShape, fun hok f hclass => ?byClass, fun hok a hclass hlength => ?fullQueue⟩
  case badShape => exact hrefused _ (judge_of_malformed hrun ((malformed_iff _ _).mpr hbad))
  case byClass => exact hrefused f (judge_of_classFault hrun (hshape hok) hclass)
  case fullQueue =>
    exact exec_writeRequest_of_retry hfree hsettled
      (judge_of_queueFull hrun (hshape hok) hclass (queueFull_of_length hlength))

end Sys2Proof.Machine

/-! PROOF. O34: the landing of the head entry (R65, R73, R79, R80). First that a response to an entry's request reaches the
rule of that entry's step, then what each response means to a data write, then what the landing makes of the state. -/

namespace Sys2Proof.Machine

/-! ## A response to the head entry's step (R135) -/

/-- While the head entry is carried, the Write Engine's response goes to the entry's step. -/
theorem engineAnswered_of_entry {s : State} {step : EntryStep} {e : PostedEntry} {rest : List PostedEntry}
    (hwork : s.engine.work = some (.entry step)) (hqueue : s.queue.entries = e :: rest) (reply : Reply) :
    engineAnswered reply s = entryAnswered e step reply s := by
  simp only [engineAnswered, hwork, hqueue]

/-- A response to the request of the head entry's step frees the D-port and has the effect of that step's rule. -/
theorem takeResponse_of_entry {s : State} {issue : Byte} {r : DportRequest} {step : EntryStep} {e : PostedEntry}
    {rest : List PostedEntry} (hcarries : s.carries issue .writeEngine r)
    (hwork : s.engine.work = some (.entry step)) (hqueue : s.queue.entries = e :: rest) (resp : MemResponse) :
    takeResponse issue resp s = afterEvent (entryAnswered e step (replyOf r resp) (releasePort s)) := by
  rw [takeResponse_of_carries hcarries, handToClient, engineAnswered_of_entry (s := releasePort s) hwork hqueue]

/-- UNBACKED is handed over as UNBACKED, whatever was requested. -/
theorem replyOf_unbacked (r : DportRequest) : replyOf r .unbacked = .unbacked := by
  cases r <;> rfl

/-- FAIL, and DATA to a WRITE, are handed over as FAIL (R135). -/
theorem replyOf_failsDataWrite {r : DportRequest} {resp : MemResponse} (hwrite : r.isWrite = true)
    (hfails : failsDataWrite resp = true) : replyOf r resp = .fail := by
  cases r with
  | read | renew => cases hwrite
  | write =>
    cases resp with
    | data | fail => rfl
    | done | unbacked => cases hfails

/-! ## The three responses to a data write (R65, R79, R80) -/

section dataWrite

variable {s : State} {issue : Byte} {r : DportRequest} {e : PostedEntry} {rest : List PostedEntry}
  (hcarries : s.carries issue .writeEngine r) (hwork : s.engine.work = some (.entry .dataWrite))
  (hqueue : s.queue.entries = e :: rest)
include hcarries hwork hqueue

theorem exec_landing (hwrite : r.isWrite = true) :
    exec (.landing issue) s = .next (afterEvent (landHead e (releasePort s))) := by
  rw [show exec (.landing issue) s = .next (takeResponse issue .done s) from rfl,
    takeResponse_of_entry hcarries hwork hqueue, replyOf_done_of_isWrite hwrite]
  rfl

/-- UNBACKED lands the entry as DONE does, and ERROR comes after that. -/
theorem exec_unbackedWrite :
    exec (.unbackedWrite issue) s =
      .next (afterEvent (raiseError .unbackedWrite e.line (landHead e (releasePort s)))) := by
  rw [show exec (.unbackedWrite issue) s = .next (takeResponse issue .unbacked s) from rfl,
    takeResponse_of_entry hcarries hwork hqueue, replyOf_unbacked]
  rfl

/-- A failed data write stops the device before anything of the landing happens. -/
theorem exec_dataWriteFailed (hwrite : r.isWrite = true) {resp : MemResponse} (hfails : failsDataWrite resp = true) :
    exec (.dataWriteFailed issue resp) s = .next (afterEvent (stopDevice (releasePort s))) := by
  rw [show exec (.dataWriteFailed issue resp) s = .next (takeResponse issue resp s) from rfl,
    takeResponse_of_entry hcarries hwork hqueue, replyOf_failsDataWrite hwrite hfails]
  rfl

end dataWrite

/-! ## What a landing makes of the state (R65, R73, R87, R112) -/

/-- The head leaves a queue whose first entry it is. -/
theorem dropHead_of_cons {s : State} {e : PostedEntry} {rest : List PostedEntry}
    (hqueue : s.queue.entries = e :: rest) :
    dropHead s = { s with queue := { s.queue with entries := rest } } := by
  simp only [dropHead, hqueue, List.tail_cons]

/-- An entry that closes no command lands without a job. -/
theorem landHead_of_notClose {e : PostedEntry} (hclose : e.commandClose = false) (s : State) :
    landHead e s = clearWaitMarks e.number (setUnit none (dropHead s)) := by
  simp only [landHead, hclose, Bool.false_eq_true, if_false]

/-- A command close entry lands and places the job its slot's decision asks for, with the counters cleared first for a
taken CLEAR_COUNTERS. The decision stands before the landing, which changes no slot. -/
theorem landHead_of_close {e : PostedEntry} {s : State} {d : Decision} (hclose : e.commandClose = true)
    (hdecision : s.slots[e.requester].decision = some d) :
    landHead e s = placeJob (d.job e.requester)
      (if d.verdict = .taken ∧ d.word.opcode = 6
       then clearCounters (clearWaitMarks e.number (setUnit none (dropHead s)))
       else clearWaitMarks e.number (setUnit none (dropHead s))) := by
  have hkept : (clearWaitMarks e.number (setUnit none (dropHead s))).slots[e.requester].decision = some d := by
    simpa only [clearWaitMarks_frame, setUnit_frame, dropHead_frame] using hdecision
  simp only [landHead, hclose, if_true, closingWordLands, hkept]

/-- Settles O34: the responses to a data write, the landing by the kind of its entry, and the rows of Table 4-3. -/
theorem landingDropsTheEntryAndPlacesItsJob : Obligations.LandingDropsTheEntryAndPlacesItsJob := by
  unfold Obligations.LandingDropsTheEntryAndPlacesItsJob
  refine ⟨?landing, ?jobs⟩
  case landing =>
    intro s issue r e rest hcarries hwrite hwork hqueue landed ends
    have hends {u : State} (hu : landHead e (releasePort s) = u) : ends u :=
      hu ▸ ⟨exec_landing hcarries hwork hqueue hwrite, exec_unbackedWrite hcarries hwork hqueue⟩
    have hlanded : clearWaitMarks e.number (setUnit none (dropHead (releasePort s))) = landed := by
      rw [dropHead_of_cons (s := releasePort s) hqueue]
      rfl
    refine ⟨fun hnot => hends ?plain, fun hclose d hdecision => ?closes, fun resp hfails => ?fails⟩
    case plain => rw [landHead_of_notClose hnot, hlanded]
    case closes =>
      have hplaced := landHead_of_close (s := releasePort s) hclose hdecision
      rw [hlanded] at hplaced
      refine ⟨fun hother => hends ?placed, fun htaken hopcode => hends ?cleared⟩
      case placed =>
        rw [hplaced, if_neg hother]
        rfl
      case cleared =>
        rw [hplaced, if_pos ⟨htaken, hopcode⟩]
        rfl
    case fails => exact exec_dataWriteFailed hcarries hwork hqueue hwrite hfails
  case jobs =>
    intro k tag job complete
    exact ⟨rfl, rfl, rfl, rfl, rfl, rfl, rfl, fun _ _ => rfl⟩

end Sys2Proof.Machine

/-! PROOF. O27, O28, O30: reads and the Deferred Read Table (R62, R82 to R91, R140). First what the queue and the
Held-Line Table say of a line, then a READ judged in its class, then a repeat's answer by the state of its entry, then
what joins the Read List, then a fetch that came back. -/

namespace Sys2Proof.Machine

/-! ## What is owed to a line (R62, R66, R82) -/

section owed

variable {s : State} {line : Addr}

theorem lineQueued_iff : s.lineQueued line = true ↔ ∃ e ∈ s.queue.entries, e.line = line := by
  simp [State.lineQueued]

theorem abortingHold_iff :
    s.abortingHold line = true ↔
      ∃ h, s.lookupHeld line = some h ∧ s.contexts[h.holder].state = .aborting := by
  cases hheld : s.lookupHeld line <;> simp [State.abortingHold, hheld]

/-- A line that no posted entry names has no newest number. -/
theorem newestNumber_of_notQueued (h : ∀ e ∈ s.queue.entries, e.line ≠ line) : s.newestNumber line = none := by
  simpa [State.newestNumber] using h

/-- The newest number of a line is that of its last entry in the queue. -/
theorem newestNumber_of_last {before after : List PostedEntry} {e : PostedEntry}
    (hqueue : s.queue.entries = before ++ e :: after) (hline : e.line = line) (hafter : ∀ x ∈ after, x.line ≠ line) :
    s.newestNumber line = some e.number := by
  have hskip : after.reverse.find? (fun x => x.line == line) = none := by simpa using hafter
  simp [State.newestNumber, hqueue, List.find?_append, hskip, hline]

end owed

/-! ## A READ judged in its class (R44, R62, R82) -/

section judgeRead

variable {s : State} {r : ReadRequest}

/-- A read that no entry of the table matches is not a repeat. -/
theorem findRead_of_new (hnew : ∀ d ∈ s.reads, d.key ≠ r) : s.findRead r = none := by
  simpa [State.findRead] using hnew

theorem classifyRead_of_entry {d : DeferredRead} (hentry : s.findRead r = some d) :
    s.classifyRead r = .repeated d := by
  simp only [State.classifyRead, hentry]

/-- A new read is deferred exactly when something is owed to its line, and else straight. -/
theorem classifyRead_of_new (hnew : s.findRead r = none) :
    s.classifyRead r =
      if s.lineQueued (lineOf r.address) = true ∨ s.abortingHold (lineOf r.address) = true then .deferred
      else .straight := by
  simp only [State.classifyRead, hnew, Bool.or_eq_true]

/-- A read at a free U-port is judged, and the event ends. -/
theorem exec_readRequest_of_free (hfree : s.uport.inProgress = none) :
    exec (.readRequest r) s = .next (settle (judgeRead r s)) := by
  rw [exec_of_request (c := .readRequest r) rfl, presentRequest_of_free hfree, takeRequest]

/-- In RUN the shape is checked before the class. -/
theorem judgeRead_of_malformed (hrun : s.device = .run) (hshape : malformed r.address r.size = true) :
    judgeRead r s = giveAnswer r.requester (.fault .malformed) s := by
  simp only [judgeRead, hrun, hshape, if_true]

variable (hrun : s.device = .run) (hshape : malformed r.address r.size = false)
include hrun hshape

theorem judgeRead_of_repeated {d : DeferredRead} (hclass : s.classifyRead r = .repeated d) :
    judgeRead r s = answerRepeat d r s := by
  simp only [judgeRead, hrun, hshape, hclass, Bool.false_eq_true, if_false]

theorem judgeRead_of_deferred (hclass : s.classifyRead r = .deferred) : judgeRead r s = deferRead r s := by
  simp only [judgeRead, hrun, hshape, hclass, Bool.false_eq_true, if_false]

theorem judgeRead_of_straight (hclass : s.classifyRead r = .straight) : judgeRead r s = startStraight r s := by
  simp only [judgeRead, hrun, hshape, hclass, Bool.false_eq_true, if_false]

end judgeRead

/-- A request of good shape is not MALFORMED (R44). -/
theorem malformed_eq_false {a : Addr} {n : Nat} (h : n ∈ [1, 2, 4, 8, 16, 32, 64] ∧ a.toNat % n = 0) :
    malformed a n = false :=
  Bool.eq_false_iff.mpr fun hm => (malformed_iff a n).mp hm h

/-! ## A new deferred read (R86, R87) -/

theorem deferRead_of_full {s : State} (r : ReadRequest) (hfull : 8 ≤ s.reads.length) :
    deferRead r s = giveAnswer r.requester .retry (count .fullRetries s) :=
  if_pos hfull

theorem deferRead_of_room {s : State} (r : ReadRequest) (hroom : s.reads.length < 8) :
    deferRead r s = giveAnswer r.requester .retry
      { s with reads := s.reads ++
        [⟨r, .waiting, false, s.newestNumber (lineOf r.address), [], [], false, none⟩] } :=
  if_neg (not_le.mpr hroom)

/-- Settles O27: the shape first, then the class of a read that no entry matches, then the room in the table. -/
theorem newReadIsMalformedDeferredOrStraight : Obligations.NewReadIsMalformedDeferredOrStraight := by
  unfold Obligations.NewReadIsMalformedDeferredOrStraight
  intro s r hrun hfree hnew line wellShaped owed
  have hexec := exec_readRequest_of_free (r := r) hfree
  have howed : owed ↔ s.lineQueued (lineOf r.address) = true ∨ s.abortingHold (lineOf r.address) = true :=
    or_congr lineQueued_iff.symm abortingHold_iff.symm
  have hclass := classifyRead_of_new (findRead_of_new hnew)
  rw [← if_congr howed rfl rfl] at hclass
  have hdeferred (hshape : wellShaped) (h : owed) : judgeRead r s = deferRead r s :=
    judgeRead_of_deferred hrun (malformed_eq_false hshape) (hclass.trans (if_pos h))
  refine ⟨fun hbad => ?badShape, fun hshape h hfull => ?full, fun hshape h hroom => ?entered,
    fun hshape h => ?straight⟩
  case badShape => rw [hexec, judgeRead_of_malformed hrun ((malformed_iff _ _).mpr hbad)]
  case full =>
    rw [hexec, hdeferred hshape h, deferRead_of_full r hfull]
    rfl
  case entered =>
    refine ⟨s.newestNumber line, ?_, newestNumber_of_notQueued, fun _ _ _ => newestNumber_of_last⟩
    rw [hexec, hdeferred hshape h, deferRead_of_room r hroom]
    rfl
  case straight =>
    rw [hexec, judgeRead_of_straight hrun (malformed_eq_false hshape) (hclass.trans (if_neg h))]
    rfl

/-! ## A repeat (R84, R91) -/

section answerRepeat

variable {d : DeferredRead} (r : ReadRequest) (s : State)

theorem answerRepeat_of_notReady (hstate : d.state ≠ .ready) :
    answerRepeat d r s = giveAnswer r.requester .retry s := by
  cases h : d.state with
  | waiting | issued => simp only [answerRepeat, h]
  | ready => exact absurd h hstate

theorem answerRepeat_of_failed (hstate : d.state = .ready) (hfailed : d.failed = true) :
    answerRepeat d r s = giveAnswer r.requester (.fault .memory) (freeRead r s) := by
  simp only [answerRepeat, hstate, hfailed, if_true]

theorem answerRepeat_of_data (hstate : d.state = .ready) (hfailed : d.failed = false) :
    answerRepeat d r s = answerRead r d.data d.poison (freeRead r s) := by
  simp only [answerRepeat, hstate, hfailed, Bool.false_eq_true, if_false]

end answerRepeat

/-- Settles O28: a repeat is answered by the state of its entry and, when that is READY, by how the fetch ended. -/
theorem repeatIsAnsweredFromItsEntry : Obligations.RepeatIsAnsweredFromItsEntry := by
  unfold Obligations.RepeatIsAnsweredFromItsEntry
  intro s r d hrun hfree hsize halign hentry freed
  have hexec : exec (.readRequest r) s = .next (settle (answerRepeat d r s)) := by
    rw [exec_readRequest_of_free hfree,
      judgeRead_of_repeated hrun (malformed_eq_false ⟨hsize, halign⟩) (classifyRead_of_entry hentry)]
  refine ⟨fun hstate => ?notReady, fun hstate hfailed => ?failed, fun hstate hfailed => ?data⟩
  case notReady => rw [hexec, answerRepeat_of_notReady r s hstate]
  case failed =>
    rw [hexec, answerRepeat_of_failed r s hstate hfailed]
    rfl
  case data =>
    rw [hexec, answerRepeat_of_data r s hstate hfailed]
    rfl

/-! ## The entries that join the Read List (R88, R140) -/

/-- The reads of the issuable entries that are not in the Read List, oldest entry first. -/
def State.joiningReads (s : State) : List ReadRequest :=
  ((s.reads.filter s.issuable).map (·.key)).filter fun key => !s.dport.readList.contains (.deferred key)

theorem joinIssuable_eq (s : State) :
    joinIssuable s =
      { s with dport := { s.dport with readList := s.dport.readList ++ s.joiningReads.map .deferred } } := by
  simp [joinIssuable, State.joiningReads, List.filter_map, Function.comp_def]

theorem joiningReads_sublist (s : State) : s.joiningReads.Sublist (s.reads.map (·.key)) :=
  List.filter_sublist.trans (List.filter_sublist.map _)

/-- An entry is issuable when it is WAITING with no wait mark and no ABORTING context holds its line (R88). -/
theorem issuable_iff (s : State) (d : DeferredRead) :
    s.issuable d = true ↔ d.state = .waiting ∧ d.waitMark = none ∧
      ∀ h, s.lookupHeld (lineOf d.key.address) = some h → s.contexts[h.holder].state ≠ .aborting := by
  have hhold : s.abortingHold (lineOf d.key.address) = false ↔
      ∀ h, s.lookupHeld (lineOf d.key.address) = some h → s.contexts[h.holder].state ≠ .aborting := by
    rw [← Bool.not_eq_true, abortingHold_iff]
    simp only [not_exists, not_and, ne_eq]
  simp only [State.issuable, Bool.and_eq_true, beq_iff_eq, Option.isNone_iff_eq_none, Bool.not_eq_true', hhold,
    and_assoc]

theorem mem_joiningReads (s : State) (key : ReadRequest) :
    key ∈ s.joiningReads ↔ ReadMember.deferred key ∉ s.dport.readList ∧
      ∃ d ∈ s.reads, d.key = key ∧ s.issuable d = true := by
  simp only [State.joiningReads, List.mem_filter, List.mem_map, Bool.not_eq_true', List.contains_eq_mem,
    decide_eq_false_iff_not]
  constructor
  · rintro ⟨⟨d, ⟨hmem, hissuable⟩, rfl⟩, hout⟩
    exact ⟨hout, d, hmem, rfl, hissuable⟩
  · rintro ⟨hout, d, hmem, rfl, hissuable⟩
    exact ⟨⟨d, ⟨hmem, hissuable⟩, rfl⟩, hout⟩

/-! ## The flags of a read (R84) -/

/-- A word's mark by its reported status, at any index: a word past the line's end is not marked. -/
theorem getLsbD_uncorrectable_eq (st : Vector WordStatus 16) (i : Nat) :
    (uncorrectable st).getLsbD i = (st[i]? == some .uncorrectable) := by
  by_cases hi : i < 16
  · simpa [hi] using getLsbD_uncorrectable st ⟨i, hi⟩
  · rw [BitVec.getLsbD_of_ge _ _ (not_lt.mp hi)]
    simp [hi]

/-- The flags of a read of a bus size, one per word it touches, by the status of each. -/
theorem poisonFlags_uncorrectable (st : Vector WordStatus 16) (off : Nat) {n : Nat}
    (hsize : n ∈ [1, 2, 4, 8, 16, 32, 64]) :
    poisonFlags (uncorrectable st) off n =
      (List.range (max 1 (n / 4))).map fun i => st[off / 4 + i]? == some .uncorrectable := by
  have hwords : wordsTouched n = max 1 (n / 4) := by
    revert n
    decide
  simp only [poisonFlags, hwords, getLsbD_uncorrectable_eq]

/-! ## A deferred fetch that came back (R90) -/

section deferredAnswered

variable {s : State} {key : ReadRequest} {d : DeferredRead} (hentry : s.findRead key = some d)
include hentry

theorem deferredAnswered_of_stale (hstale : d.stale = true) (reply : Reply) :
    deferredAnswered key reply s = joinIssuable (updRead key (fun e => { e with
      state := .waiting, stale := false, waitMark := s.newestNumber (lineOf key.address) }) s) := by
  simp only [deferredAnswered, hentry, hstale, if_true]

theorem deferredAnswered_of_notStale (hstale : d.stale = false) (reply : Reply) :
    deferredAnswered key reply s = updRead key (DeferredRead.fetched s.discardMicroseconds reply) s := by
  simp only [deferredAnswered, hentry, hstale, Bool.false_eq_true, if_false]

end deferredAnswered

/-- Two changes that agree on the entries of a read change the table alike. -/
theorem updRead_congr {key : ReadRequest} {f g : DeferredRead → DeferredRead} (h : ∀ e, e.key = key → f e = g e)
    (s : State) : updRead key f s = updRead key g s := by
  have hchange (e : DeferredRead) : (if e.key = key then f e else e) = if e.key = key then g e else e :=
    ite_congr rfl (h e) fun _ => rfl
  simp only [updRead, hchange]

/-- What DATA makes of the entry of a read: its bytes, and one flag per word it touches (R84, R90). -/
theorem fetched_of_data {e : DeferredRead} {key : ReadRequest} (hkey : e.key = key)
    (hsize : key.size ∈ [1, 2, 4, 8, 16, 32, 64]) (interval : Nat) (bytes : Line) (st : Vector WordStatus 16) :
    e.fetched interval (.data bytes st) = { e with
      state := .ready, data := bytesFrom bytes (offsetInLine key.address) key.size
      poison := (List.range (max 1 (key.size / 4))).map fun i =>
        st[offsetInLine key.address / 4 + i]? == some .uncorrectable
      failed := false, timer := some interval } := by
  subst hkey
  simp only [DeferredRead.fetched, poisonFlags_uncorrectable st _ hsize]

/-- A response to a deferred fetch reaches the rule of R90 with the D-port free. -/
theorem exec_deferredFetchResponse {s : State} {issue : Byte} {line : Addr} {key : ReadRequest}
    (hcarries : s.carries issue (.deferredRead key) (.read line)) (resp : MemResponse) :
    exec (.deferredFetchResponse issue resp) s =
      .next (afterEvent (deferredAnswered key (replyOf (.read line) resp) (releasePort s))) := by
  rw [show exec (.deferredFetchResponse issue resp) s = .next (takeResponse issue resp s) from rfl,
    takeResponse_of_carries hcarries, handToClient]

/-- Settles O30: which entries join the Read List, then a fetch's response by the stale flag and by what came back. -/
theorem deferredFetchResponseMakesReadyOrStale : Obligations.DeferredFetchResponseMakesReadyOrStale := by
  unfold Obligations.DeferredFetchResponseMakesReadyOrStale
  refine ⟨fun s => ?joins, ?responses⟩
  case joins =>
    refine ⟨s.joiningReads, joinIssuable_eq s, joiningReads_sublist s, fun key => ?_⟩
    rw [mem_joiningReads]
    refine and_congr_right fun _ => exists_congr fun d => and_congr_right fun _ => and_congr_right ?_
    rintro rfl
    exact issuable_iff s d
  case responses =>
    intro s issue line key d hcarries hentry hsize halign off changed ready
    have hexec := exec_deferredFetchResponse hcarries
    have hfound : (releasePort s).findRead key = some d := hentry
    refine ⟨fun hstale resp => ?stale, fun hstale bytes st hnamed => ?data, fun hstale resp hfails => ?failed⟩
    case stale =>
      rw [hexec, deferredAnswered_of_stale hfound hstale]
      rfl
    case data =>
      rw [hexec, replyOf_read_data, if_pos hnamed, deferredAnswered_of_notStale hfound hstale]
      rw [updRead_congr fun e hkey => fetched_of_data hkey hsize _ bytes st]
      rfl
    case failed =>
      rw [hexec, deferredAnswered_of_notStale hfound hstale]
      obtain hreply | hreply := replyOf_failsRead (l := line) hfails <;> rw [hreply] <;> rfl

end Sys2Proof.Machine

/-! PROOF. O22: the command words that stage and the words out of order (R102, R103, R105, R182). First a word whose own
check passes, by its row and by WINDOW_WRITE; then which effect each check asks for; then what each effect writes. -/

namespace Sys2Proof.Machine

/-! ## A command word at its acceptance -/

/-- WINDOW_WRITE of a word's four bytes is the write of that word at its offset (R182). -/
theorem exec_windowWrite_wordBytes {off : Nat} (hlt : off < 4096) (w : WordWrite) (s : State) :
    exec (.windowWrite w.requester (BitVec.ofNat 12 off) (wordBytes w)) s = .next (wordWriteAt off w s) := by
  have hoff : (BitVec.ofNat 12 off).toNat = off := by
    rw [BitVec.toNat_ofNat, Nat.mod_eq_of_lt hlt]
  rw [exec_of_request rfl, hoff]
  rfl

/-- A word of the requester's own slot whose check passes is accepted with the effect the check names, whether it comes as
its row or as WINDOW_WRITE (R58, R97). -/
theorem exec_of_commandWord {c : Instr} {s : State} {k : Requester} {n : Fin 3} {w : WordWrite} {off : Nat}
    {e : WindowEffect} (hrow : c.wordAt = some (off, w)) (hoff : off = commandOffset k n) (htakes : s.takesWord w)
    (hreq : w.requester = k) (hcheck : s.slots[k].check k n w.value = .ok e) :
    exec c s = .next (s.wordAccepted off w e.commandClose (windowTaken e s)) ∧
      exec (.windowWrite k (BitVec.ofNat 12 off) (wordBytes w)) s =
        .next (s.wordAccepted off w e.commandClose (windowTaken e s)) := by
  have hword : windowWord off = .command k n := by rw [hoff, windowWord_commandOffset]
  have hlt : off < 4096 := by simp only [hoff, commandOffset]; omega
  have haligned : off % 4 = 0 := by simp only [hoff, commandOffset]; omega
  have hown : ∀ j m, windowWord off = .command j m → w.requester = j := by
    intro j m h
    rw [hword] at h
    cases h
    exact hreq
  have haccepted : wordWriteAt off w s = s.wordAccepted off w e.commandClose (windowTaken e s) :=
    wordWriteAt_of_accepted htakes hlt haligned (by simp [hword]) (by simp [hword]) hown (by rw [hword]; exact hcheck)
  rw [exec_of_wordAt hrow, ← hreq, exec_windowWrite_wordBytes hlt, haccepted]
  exact ⟨rfl, rfl⟩

/-! ## The checks of words 0 and 1, and of a word out of order -/

section check

variable {c : CommandSlot} (k : Requester) (v : Word)

/-- Word 0 passes in either phase, whatever is staged (R102). -/
theorem CommandSlot.check_word0 : c.check k 0 v = .ok (.word0 k v) := by
  rw [CommandSlot.check, if_pos rfl]

/-- Word 1 after a word 0 passes in either phase (R103). -/
theorem CommandSlot.check_word1_of_word0 (hstaging : c.staging = .word0) : c.check k 1 v = .ok (.word1 k v) := by
  rw [CommandSlot.check, if_neg (by decide), if_pos rfl, if_pos hstaging]

/-- A word out of order on an IDLE slot makes a sequence error (R105). -/
theorem CommandSlot.closing_outOfOrder (hphase : c.phase = .idle) : c.closing k false = .ok (.sequenceError k) := by
  simp [CommandSlot.closing, hphase]

theorem CommandSlot.check_word1_outOfOrder (hphase : c.phase = .idle) (hstaging : c.staging ≠ .word0) :
    c.check k 1 v = .ok (.sequenceError k) := by
  rw [CommandSlot.check, if_neg (by decide), if_pos rfl, if_neg hstaging, closing_outOfOrder k hphase]

theorem CommandSlot.check_word2_outOfOrder (hphase : c.phase = .idle) (hstaging : c.staging ≠ .word1) :
    c.check k 2 v = .ok (.sequenceError k) := by
  have horder : (c.staging == .word1) = false := beq_eq_false_iff_ne.mpr hstaging
  rw [CommandSlot.check, if_neg (by decide), if_neg (by decide), horder, closing_outOfOrder k hphase]

end check

/-! ## The effect of word 0 -/

/-- Word 0 carries the opcode in its bits 0 to 3 and the tag in its bits 8 to 15 (R102). -/
theorem commandWord_eq (v : Word) :
    commandWord v = ⟨BitVec.ofNat 4 (v.toNat % 16), BitVec.ofNat 8 (v.toNat / 256 % 256)⟩ := by
  have hopcode : v.extractLsb' 0 4 = BitVec.ofNat 4 (v.toNat % 16) :=
    BitVec.eq_of_toNat_eq (by simp)
  have htag : v.extractLsb' 8 8 = BitVec.ofNat 8 (v.toNat / 256 % 256) :=
    BitVec.eq_of_toNat_eq (by simp [Nat.shiftRight_eq_div_pow])
  rw [commandWord, hopcode, htag]

/-- The state with word 0's value staged in slot `k` and nothing else: opcode and tag as the word carries them, no
argument A (R102). -/
def State.word0Staged (s : State) (k : Requester) (v : Word) : State :=
  { s with slots := s.slots.set k { s.slots[k] with staging := .word0, word := some (commandWord v), argA := none } }

theorem stageWord0_of_empty {s : State} {k : Requester} (hstaging : s.slots[k].staging = .empty) (v : Word) :
    stageWord0 k v s = s.word0Staged k v := by
  simp only [stageWord0, hstaging, countIf]
  rfl

/-- What was staged before is abandoned and counted (R102). -/
theorem stageWord0_of_staged {s : State} {k : Requester} (hstaging : s.slots[k].staging ≠ .empty) (v : Word) :
    stageWord0 k v s = { s.word0Staged k v with
      status := { s.status with counters := s.status.counters.raise .abandoned } } := by
  have hstaged : (s.slots[k].staging != .empty) = true := bne_iff_ne.mpr hstaging
  simp only [stageWord0, hstaged, countIf]
  rfl

/-- Settles O22: each word's check names its effect, and the effects write what R102, R103 and R105 give. -/
theorem commandWordsStageOrMakeASequenceError : Obligations.CommandWordsStageOrMakeASequenceError := by
  unfold Obligations.CommandWordsStageOrMakeASequenceError
  intro s k w htakes hreq writes c staged zero
  have hoff : ∀ n : Fin 3, 0x200 + 4 * n.val + 16 * k.val = commandOffset k n := by
    intro n
    simp only [commandOffset]
    omega
  have hzero : zero = s.word0Staged k w.value := by
    simp only [State.word0Staged, commandWord_eq]
    rfl
  have hword0 := exec_of_commandWord (c := .commandWord0Write k w) rfl (hoff 0) htakes hreq
    (CommandSlot.check_word0 k w.value)
  refine ⟨fun hstaging => ?fresh, fun hstaging => ?abandons, fun hstaging => ?argument, ?outOfOrder⟩
  case fresh =>
    rw [windowTaken, stageWord0_of_empty hstaging, ← hzero] at hword0
    exact hword0
  case abandons =>
    rw [windowTaken, stageWord0_of_staged hstaging, ← hzero] at hword0
    exact hword0
  case argument =>
    have hword1 := exec_of_commandWord (c := .commandWord1Write k w) rfl (hoff 1) htakes hreq
      (CommandSlot.check_word1_of_word0 k w.value hstaging)
    exact hword1
  case outOfOrder =>
    intro hphase closed
    constructor
    · intro hstaging
      have herror := exec_of_commandWord (c := .sequenceError k .word1 w) rfl (hoff 1) htakes hreq
        (CommandSlot.check_word1_outOfOrder k w.value hphase hstaging)
      exact herror
    · intro hstaging
      have herror := exec_of_commandWord (c := .sequenceError k .word2 w) rfl (hoff 2) htakes hreq
        (CommandSlot.check_word2_outOfOrder k w.value hphase hstaging)
      exact herror

end Sys2Proof.Machine

/-! PROOF. O55: how the memory stores and reports the words of a WRITE (R122). First which bits the byte enables select, then
what each case of enables and mark makes of one word, then each word of a line. -/

namespace Sys2Proof.Machine

/-! ## The bits of the enabled bytes -/

/-- The ones of byte `k` of a word stand in exactly the bits of that byte. -/
theorem getLsbD_byteOnes (k : Fin 4) (i : Nat) : (0xFF#32 <<< (8 * k.val)).getLsbD i = decide (i / 8 = k.val) := by
  have hones : (0xFF#32).getLsbD (i - 8 * k.val) = decide (i - 8 * k.val < 8) := by
    have hbits : ∀ j < 32, (0xFF#32).getLsbD j = decide (j < 8) := by decide
    by_cases hlt : i - 8 * k.val < 32
    · exact hbits _ hlt
    · rw [BitVec.getLsbD_of_ge _ _ (by omega), eq_comm, decide_eq_false_iff_not]
      omega
  rw [BitVec.getLsbD_shiftLeft, hones, Bool.eq_iff_iff]
  simp only [Bool.and_eq_true, Bool.not_eq_true', decide_eq_true_eq, decide_eq_false_iff_not]
  omega

/-- The enabled bits, byte by byte. -/
theorem enabledBits_eq (m : BitVec 4) :
    enabledBits m =
      (if m.getLsbD 0 then 0xFF#32 <<< (8 * (0 : Fin 4).val) else 0) |||
      (if m.getLsbD 1 then 0xFF#32 <<< (8 * (1 : Fin 4).val) else 0) |||
      (if m.getLsbD 2 then 0xFF#32 <<< (8 * (2 : Fin 4).val) else 0) |||
      (if m.getLsbD 3 then 0xFF#32 <<< (8 * (3 : Fin 4).val) else 0) := rfl

/-- A byte's ones, taken when its enable is set, hold bit `i` when the bit is of that byte and the enable is set. -/
theorem getLsbD_byteOnes_ite (b : Bool) (k : Fin 4) (i : Nat) :
    (if b then 0xFF#32 <<< (8 * k.val) else 0).getLsbD i = (b && decide (i / 8 = k.val)) := by
  cases b
  · exact BitVec.getLsbD_zero
  · exact getLsbD_byteOnes k i

/-- A bit is enabled exactly when its byte is. -/
@[simp] theorem getLsbD_enabledBits (m : BitVec 4) (i : Nat) : (enabledBits m).getLsbD i = m.getLsbD (i / 8) := by
  simp only [enabledBits_eq, BitVec.getLsbD_or, getLsbD_byteOnes_ite]
  by_cases hbyte : i / 8 < 4
  · obtain h | h | h | h : i / 8 = 0 ∨ i / 8 = 1 ∨ i / 8 = 2 ∨ i / 8 = 3 := by omega
    all_goals simp [h]
  · rw [BitVec.getLsbD_of_ge m (i / 8) (by omega)]
    have hnot (k : Fin 4) : i / 8 ≠ k.val := by omega
    simp only [hnot, decide_false, Bool.and_false, Bool.or_false]

/-! ## One word by its enables and its mark -/

section storeWord

variable {enabled : BitVec 4} {mark : Bool} (value : Word) (old : StoredWord)

/-- Enabled bytes take the written value and the others keep the old one, whatever the mark. -/
theorem getLsbD_storeWord_value {i : Nat} (hi : i < 32) :
    (storeWord enabled value mark old).value.getLsbD i =
      if enabled.getLsbD (i / 8) then value.getLsbD i else old.value.getLsbD i := by
  simp only [storeWord, BitVec.getLsbD_or, BitVec.getLsbD_and, BitVec.getLsbD_not, getLsbD_enabledBits, hi]
  cases enabled.getLsbD (i / 8) <;> simp

theorem storeWord_poisoned_of_mark (hsome : enabled ≠ 0) : (storeWord enabled value true old).poisoned = true :=
  (if_neg hsome).trans (if_pos rfl)

theorem storeWord_poisoned_of_whole : (storeWord 0xF#4 value false old).poisoned = false := rfl

/-- A clean write that leaves a byte out, be it of no byte at all, keeps the word's poison. -/
theorem storeWord_poisoned_of_partial (hpartial : enabled ≠ 0xF#4) :
    (storeWord enabled value false old).poisoned = old.poisoned := by
  simp [storeWord, hpartial]

theorem storeWord_of_none : storeWord 0#4 value mark old = old := by
  have hvalue : (storeWord 0#4 value mark old).value = old.value := by
    apply BitVec.eq_of_getLsbD_eq
    intro i hi
    rw [getLsbD_storeWord_value value old hi, BitVec.getLsbD_zero, if_neg Bool.false_ne_true]
  cases old
  exact congrArg (StoredWord.mk · _) hvalue

end storeWord

/-! ## Each word of a line -/

/-- Word `n` of the line is stored by its own four enables, its own four bytes and its own mark. -/
theorem storeLine_getElem (byteMask : ByteMask) (data : Line) (poison : WordMask) (old : StoredLine) (n : Fin 16) :
    (storeLine byteMask data poison old)[n] =
      storeWord (byteMask.extractLsb' (4 * n.val) 4) (data.extractLsb' (32 * n.val) 32) (poison.getLsbD n.val) old[n] := by
  simp [storeLine, lineWord]

/-- A stored word is reported UNCORRECTABLE exactly when it is poisoned (R122, R124). -/
theorem storedStatuses_getElem_eq_uncorrectable (l : StoredLine) (n : Fin 16) :
    (storedStatuses l)[n] = .uncorrectable ↔ l[n].poisoned = true := by
  have hstatus : (storedStatuses l)[n] = if l[n].poisoned then .uncorrectable else .clean := by
    simp [storedStatuses]
  rw [hstatus]
  cases l[n].poisoned <;> simp

/-- Settles O55: the four cases of R122 for one word, then each word of a line by its own enables and mark. -/
theorem memoryStoresWordsByEnablesAndMark : Obligations.MemoryStoresWordsByEnablesAndMark := by
  unfold Obligations.MemoryStoresWordsByEnablesAndMark
  constructor
  · intro enabled value mark old new
    refine ⟨fun i hi => getLsbD_storeWord_value value old hi, ?marked, ?whole, ?part, ?none⟩
    case marked =>
      rintro hsome rfl
      exact storeWord_poisoned_of_mark value old hsome
    case whole =>
      rintro rfl rfl
      exact storeWord_poisoned_of_whole value old
    case part =>
      rintro hpartial rfl
      exact storeWord_poisoned_of_partial value old hpartial
    case none =>
      rintro rfl
      exact storeWord_of_none value old
  · intro byteMask data poison old n stored
    exact ⟨storeLine_getElem byteMask data poison old n, storedStatuses_getElem_eq_uncorrectable stored n⟩

end Sys2Proof.Machine

/-! PROOF. O45: the patrol step (R142, R146 to R150). First the patrol order, then what the end of a step makes of the
unit, then what each reply to the READ means, then the rows. -/

namespace Sys2Proof.Machine

/-! ## The patrol order (R146) -/

section patrolOrder

variable {s : State} {start : Nat} {i j : Fin 16} {line : Addr}

@[simp] theorem Region.active_iff (r : Region) : r.active = true ↔ r.mode ≠ .off := by
  simp [Region.active]

theorem State.firstActive_eq_some (hstart : start ≤ i.val) (hactive : s.regions[i].mode ≠ .off)
    (hfirst : ∀ x : Fin 16, start ≤ x.val → x < i → ¬ s.regions[x].mode ≠ .off) :
    s.firstActive start = some (i, s.regions[i].base) := by
  have hfind : (List.finRange 16).find? (fun x => decide (start ≤ x.val) && s.regions[x].active) = some i := by
    refine List.find?_eq_some_iff_getElem.2 ⟨?found, i.val, by simp, by simp, fun n hn => ?earlier⟩
    case found => rw [decide_eq_true hstart, (Region.active_iff _).2 hactive, Bool.and_true]
    case earlier =>
      have hoff (hle : start ≤ n) : s.regions[n].mode = .off := not_not.1 (hfirst ⟨n, by omega⟩ hle hn)
      simpa [Region.active, or_iff_not_imp_left] using hoff
  simp only [State.firstActive, hfind, Option.map_some]

theorem State.firstActive_eq_none (hnone : ∀ x : Fin 16, start ≤ x.val → ¬ s.regions[x].mode ≠ .off) :
    s.firstActive start = none := by
  simpa [State.firstActive, Region.active] using hnone

theorem State.anyActive_iff : s.anyActive = true ↔ ∃ x : Fin 16, s.regions[x].mode ≠ .off := by
  simp [State.anyActive, State.firstActive, List.find?_isSome]

/-- In RUN the unit is enabled by the interval and the Region Table alone (R148). -/
theorem State.patrolEnabled_iff (hrun : s.device = .run) :
    s.patrolEnabled = true ↔ s.settings.patrolInterval ≠ 0 ∧ ∃ x : Fin 16, s.regions[x].mode ≠ .off := by
  simp [State.patrolEnabled, hrun, State.anyActive_iff]

/-- Item 1 of R146: below the limit the order stays in the entry. -/
theorem State.patrolNext_of_below (hactive : s.regions[j].mode ≠ .off) (hbelow : line < s.regions[j].limit) :
    s.patrolNext j line = some (j, line + 64) :=
  if_pos ⟨(Region.active_iff _).2 hactive, hbelow⟩

/-- Past the entry the next active one follows, and after the last the first (items 2 and 3 of R146). -/
theorem State.patrolNext_of_left (hleft : ¬ (s.regions[j].mode ≠ .off ∧ line < s.regions[j].limit)) :
    s.patrolNext j line = (s.firstActive (j.val + 1)).or (s.firstActive 0) := by
  rw [State.patrolNext, if_neg (by rwa [Region.active_iff])]
  cases s.firstActive (j.val + 1) <;> rfl

/-- Item 2 of R146: the lowest-numbered active entry above `j`. -/
theorem State.patrolNext_of_above (hleft : ¬ (s.regions[j].mode ≠ .off ∧ line < s.regions[j].limit))
    (hactive : s.regions[i].mode ≠ .off) (habove : j < i)
    (hfirst : ∀ x : Fin 16, j < x → x < i → ¬ s.regions[x].mode ≠ .off) :
    s.patrolNext j line = some (i, s.regions[i].base) := by
  rw [State.patrolNext_of_left hleft, State.firstActive_eq_some habove hactive hfirst, Option.some_or]

/-- Item 3 of R146: with no active entry above `j` the order wraps to the lowest-numbered active entry. -/
theorem State.patrolNext_of_wrap (hleft : ¬ (s.regions[j].mode ≠ .off ∧ line < s.regions[j].limit))
    (hactive : s.regions[i].mode ≠ .off) (hlast : ∀ x : Fin 16, j < x → ¬ s.regions[x].mode ≠ .off)
    (hfirst : ∀ x : Fin 16, x < i → ¬ s.regions[x].mode ≠ .off) :
    s.patrolNext j line = some (i, s.regions[i].base) := by
  rw [State.patrolNext_of_left hleft, State.firstActive_eq_none hlast, Option.none_or,
    State.firstActive_eq_some (Nat.zero_le _) hactive fun x _ => hfirst x]

end patrolOrder

/-! ## The end of a step (R147, R149) -/

/-- Where the end of a step leaves the cursor: where it was placed during the step, else at the line after the step
line. -/
def State.cursorAfterStep (s : State) : Option (Fin 16 × Addr) :=
  if s.patrol.placed then s.patrol.cursor
  else s.patrol.cursor.bind fun c => s.patrolNext c.1 (s.patrol.stepLine.getD c.2)

section cursorAfterStep

variable {s : State} {j : Fin 16} {at_ line : Addr}

theorem State.cursorAfterStep_of_placed (hplaced : s.patrol.placed = true) : s.cursorAfterStep = s.patrol.cursor :=
  if_pos hplaced

theorem State.cursorAfterStep_of_notPlaced (hplaced : s.patrol.placed = false)
    (hcursor : s.patrol.cursor = some (j, at_)) (hline : s.patrol.stepLine = some line) :
    s.cursorAfterStep = s.patrolNext j line := by
  simp only [State.cursorAfterStep, hplaced, Bool.false_eq_true, if_false, hcursor, hline, Option.bind_some,
    Option.getD_some]

end cursorAfterStep

/-- Whether the unit is enabled does not depend on the unit itself (R148). -/
theorem patrolSettle_updPatrol (f : Patrol → Patrol) (s : State) :
    patrolSettle (updPatrol f s) =
      if s.patrolEnabled then patrolToWait (updPatrol f s) else patrolToOff (updPatrol f s) := rfl

/-- The end of a step as one record update. -/
theorem patrolStepEnds_eq (s : State) :
    patrolStepEnds s = { s with patrol :=
      { state := if s.patrolEnabled then .wait else .off
        cursor := s.cursorAfterStep
        stepLine := none
        placed := false
        timer := if s.patrolEnabled then some s.settings.patrolInterval else none } } := by
  rw [patrolStepEnds, patrolSettle_updPatrol]
  cases s.patrolEnabled <;> rfl

/-! ## The replies to the patrol READ (R135, Table 9-3) -/

section replies

variable {bytes : Line} {st : Vector WordStatus 16}

/-- No word is marked exactly when none was reported CORRECTED. -/
theorem corrected_eq_zero (st : Vector WordStatus 16) : corrected st = 0 ↔ ∀ i : Fin 16, st[i] ≠ .corrected := by
  constructor
  · intro hzero i hi
    simpa [hzero, hi] using getLsbD_corrected st i
  · intro hnone
    refine BitVec.eq_of_getLsbD_eq fun i hi => ?_
    have hclear : (st[(⟨i, hi⟩ : Fin 16)] == .corrected) = false := beq_eq_false_iff_ne.2 (hnone ⟨i, hi⟩)
    exact ((getLsbD_corrected st ⟨i, hi⟩).trans hclear).trans BitVec.getLsbD_zero.symm

/-- Statuses of the two readable kinds are handed over with their data. -/
theorem replyOf_read_readable (l : Addr) (hreadable : ∀ i : Fin 16, st[i] = .clean ∨ st[i] = .corrected) :
    replyOf (.read l) (.data bytes st) = .data bytes st := by
  rw [replyOf_read_data, if_pos ((statusesNamed_iff st).2 fun i => ?_)]
  obtain h | h := hreadable i <;> simp [h]

theorem uncorrectable_of_readable (hreadable : ∀ i : Fin 16, st[i] = .clean ∨ st[i] = .corrected) :
    uncorrectable st = 0 :=
  (uncorrectable_eq_zero st).2 fun i => by obtain h | h := hreadable i <;> simp [h]

theorem patrolReadAnswered_of_clean (hclean : ∀ i : Fin 16, st[i] = .clean) (line : Addr) (s : State) :
    patrolReadAnswered line (.data bytes st) s = patrolStepEnds s := by
  have hsound : uncorrectable st = 0 := uncorrectable_of_readable fun i => .inl (hclean i)
  have hnone : corrected st = 0 := (corrected_eq_zero st).2 fun i => by simp [hclean i]
  simp only [patrolReadAnswered, hsound, hnone, ne_eq, not_true, if_false]

theorem patrolReadAnswered_of_corrected (hreadable : ∀ i : Fin 16, st[i] = .clean ∨ st[i] = .corrected)
    (hsome : ∃ i : Fin 16, st[i] = .corrected) (line : Addr) (s : State) :
    patrolReadAnswered line (.data bytes st) s =
      patrolStartsToWait (updPatrol (fun p => { p with state := .renew }) s) := by
  have hsound : uncorrectable st = 0 := uncorrectable_of_readable hreadable
  have hmarked : corrected st ≠ 0 := fun hzero =>
    hsome.elim ((corrected_eq_zero st).1 hzero)
  simp only [patrolReadAnswered, hsound, ne_eq, not_true, if_false, if_pos hmarked]

/-- The last two rows of Table 9-3: an UNCORRECTABLE word counts even beside a status that names none, where the
response is taken as FAIL. -/
theorem patrolReadAnswered_of_unreadable {resp : MemResponse} (l line : Addr) (s : State)
    (hbad : resp.failsRead = true ∨ ∃ bytes st, resp = .data bytes st ∧ ∃ i : Fin 16, st[i] = .uncorrectable) :
    patrolReadAnswered line (replyOf (.read l) resp) s = patrolBad line s := by
  obtain hfails | ⟨bytes, st, rfl, i, hi⟩ := hbad
  · obtain h | h := replyOf_failsRead (l := l) hfails <;> rw [h] <;> rfl
  · rw [replyOf_read_data]
    split
    · have hmarked : uncorrectable st ≠ 0 := fun hzero => (uncorrectable_eq_zero st).1 hzero i hi
      exact if_pos hmarked
    · rfl

end replies

/-! ## The expiry and the responses in RUN (R142, R149, R150) -/

section rows

variable {s : State} {issue : Byte} {r : DportRequest} {line : Addr}

theorem patrolExpires_of_wait {j : Fin 16} {interval : Nat} (hrun : s.device = .run)
    (hstate : s.patrol.state = .wait) (htimer : s.patrol.timer = some interval)
    (hcursor : s.patrol.cursor = some (j, line)) :
    patrolExpires s =
      patrolStartsToWait (updPatrol (fun p => { p with state := .read, stepLine := some line, timer := none }) s) := by
  simp only [patrolExpires, hstate, htimer, hcursor, hrun, if_true]

/-- The response to the request issued in READ is the one Table 9-3 speaks of. -/
theorem exec_patrolReadResponse (hcarries : s.carries issue .patrol r) (hstate : s.patrol.state = .read)
    (hline : s.patrol.stepLine = some line) (resp : MemResponse) :
    exec (.patrolReadResponse issue resp) s =
      .next (afterEvent (patrolReadAnswered line (replyOf r resp) (releasePort s))) := by
  rw [show exec (.patrolReadResponse issue resp) s = .next (takeResponse issue resp s) from rfl,
    takeResponse_of_carries hcarries, handToClient]
  simp only [patrolAnswered, releasePort, hstate, hline]

/-- The response to the request issued in RENEW is the one R150 speaks of. -/
theorem exec_patrolRenewResponse (hcarries : s.carries issue .patrol r) (hstate : s.patrol.state = .renew)
    (hline : s.patrol.stepLine = some line) (resp : MemResponse) :
    exec (.patrolRenewResponse issue resp) s =
      .next (afterEvent (patrolRenewAnswered (replyOf r resp) (releasePort s))) := by
  rw [show exec (.patrolRenewResponse issue resp) s = .next (takeResponse issue resp s) from rfl,
    takeResponse_of_carries hcarries, handToClient]
  simp only [patrolAnswered, releasePort, hstate, hline]

end rows

/-- Settles O45: the expiry and the responses by their outcome, then where the cursor and the unit stand at the end. -/
theorem patrolStepRunsAndMovesTheCursor : Obligations.PatrolStepRunsAndMovesTheCursor := by
  unfold Obligations.PatrolStepRunsAndMovesTheCursor
  refine ⟨fun s hrun => ⟨?expiry, ?responses⟩, ?ends⟩
  case expiry =>
    intro j line interval hstate htimer hcursor
    rw [show exec .patrolIntervalExpiry s = .next (settle (patrolExpires s)) from rfl,
      patrolExpires_of_wait hrun hstate htimer hcursor]
    rfl
  case responses =>
    intro issue r line hcarries hline bad
    refine ⟨fun hstate hread => ?read, fun hstate hrenew => ?renew⟩
    case read =>
      have hexec := exec_patrolReadResponse hcarries hstate hline
      cases r with
      | write | renew => cases hread
      | read l =>
        refine ⟨fun bytes st hclean => ?clean, fun bytes st hreadable hsome => ?corrected,
          fun resp hbad => ?unreadable⟩
        case clean =>
          rw [hexec, replyOf_read_readable l fun i => .inl (hclean i), patrolReadAnswered_of_clean hclean]
        case corrected =>
          rw [hexec, replyOf_read_readable l hreadable, patrolReadAnswered_of_corrected hreadable hsome]
          rfl
        case unreadable =>
          rw [hexec, patrolReadAnswered_of_unreadable l line _ hbad]
          rfl
    case renew =>
      have hexec := exec_patrolRenewResponse hcarries hstate hline
      refine ⟨?done, fun resp hfails => ?fails⟩
      case done =>
        rw [hexec, replyOf_done_of_isRenew hrenew]
        rfl
      case fails =>
        obtain h | h := replyOf_failsRenew hrenew hfails <;> rw [hexec, h] <;> rfl
  case ends =>
    intro s j at_ line hrun hcursor hline active t
    have ht : t = _ := patrolStepEnds_eq s
    have henabled := State.patrolEnabled_iff hrun
    rw [ht]
    refine ⟨rfl, rfl, rfl, fun hplaced => ?placed, fun hplaced => ?moved, fun hon => ?wait, fun hoff => ?off⟩
    case placed => exact (State.cursorAfterStep_of_placed hplaced).trans hcursor
    case moved =>
      have hmoved := State.cursorAfterStep_of_notPlaced hplaced hcursor hline
      refine ⟨fun hactive hbelow => ?below, fun hleft i hactive hnext => ?next⟩
      case below => exact hmoved.trans (State.patrolNext_of_below hactive hbelow)
      case next =>
        obtain ⟨habove, hfirst⟩ | ⟨hlast, hfirst⟩ := hnext
        · exact hmoved.trans (State.patrolNext_of_above hleft hactive habove hfirst)
        · exact hmoved.trans (State.patrolNext_of_wrap hleft hactive hlast hfirst)
    case wait => exact ⟨if_pos (henabled.2 hon), if_pos (henabled.2 hon)⟩
    case off => exact ⟨if_neg (mt henabled.1 hoff), if_neg (mt henabled.1 hoff)⟩

end Sys2Proof.Machine

/-! PROOF. O10: what the last scan read finds (R162, R163). First M, then what one step downward adds to the run and
what the whole descent yields, then the members and the order of the unfinished set and of the playback list. -/

namespace Sys2Proof.Machine

/-! ## The highest sequence (R162) -/

section highest

variable {summary : List (Option SlotSummary)} {e : SlotSummary} {m : Seq}

/-- With a valid entry before the others, the highest is that entry's sequence or the highest of the others, and neither
lies above it. -/
theorem highestSeq_cons_some (e : SlotSummary) (es : List (Option SlotSummary)) :
    ∃ m, highestSeq (some e :: es) = some m ∧ (e.sequence = m ∨ highestSeq es = some m) ∧
      e.sequence ≤ m ∧ ∀ n, highestSeq es = some n → n ≤ m := by
  cases hrest : highestSeq es with
  | none => exact ⟨e.sequence, by simp only [highestSeq, hrest], .inl rfl, BitVec.le_refl _, nofun⟩
  | some n =>
    by_cases hlt : n < e.sequence
    · refine ⟨e.sequence, by simp only [highestSeq, hrest, if_pos hlt], .inl rfl, BitVec.le_refl _, ?_⟩
      rintro _ ⟨⟩
      exact BitVec.le_of_lt hlt
    · refine ⟨n, by simp only [highestSeq, hrest, if_neg hlt], .inr rfl, BitVec.not_lt.mp hlt, ?_⟩
      rintro _ ⟨⟩
      exact BitVec.le_refl _

theorem highestSeq_eq_none_iff : highestSeq summary = none ↔ ∀ e ∈ summary, e = none := by
  induction summary with
  | nil => simp [highestSeq]
  | cons x es ih =>
    cases x with
    | none => simpa [highestSeq] using ih
    | some e =>
      obtain ⟨m, hm, -⟩ := highestSeq_cons_some e es
      simp [hm]

theorem exists_of_highestSeq (h : highestSeq summary = some m) : ∃ e, some e ∈ summary ∧ e.sequence = m := by
  induction summary with
  | nil => cases h
  | cons x es ih =>
    have hlater (hes : highestSeq es = some m) : ∃ e, some e ∈ x :: es ∧ e.sequence = m := by
      obtain ⟨e, hmem, hseq⟩ := ih hes
      exact ⟨e, .tail _ hmem, hseq⟩
    cases x with
    | none => exact hlater h
    | some e =>
      obtain ⟨n, hn, hfrom, -⟩ := highestSeq_cons_some e es
      obtain rfl : n = m := Option.some.inj (hn.symm.trans h)
      exact hfrom.elim (fun hown => ⟨e, .head _, hown⟩) hlater

theorem sequence_le_of_highestSeq (h : highestSeq summary = some m) (hmem : some e ∈ summary) : e.sequence ≤ m := by
  induction summary generalizing m with
  | nil => cases hmem
  | cons x es ih =>
    cases x with
    | none =>
      obtain _ | ⟨_, hlater⟩ := hmem
      exact ih h hlater
    | some e' =>
      obtain ⟨n, hn, -, hown, hrest⟩ := highestSeq_cons_some e' es
      obtain rfl : n = m := Option.some.inj (hn.symm.trans h)
      obtain _ | ⟨_, hlater⟩ := hmem
      · exact hown
      · cases hes : highestSeq es with
        | none => cases highestSeq_eq_none_iff.mp hes _ hlater
        | some n => exact BitVec.le_trans (ih hes hlater) (hrest n hes)

theorem highestSeq_eq_some_iff :
    highestSeq summary = some m ↔
      (∃ e, some e ∈ summary ∧ e.sequence = m) ∧ ∀ e, some e ∈ summary → e.sequence ≤ m := by
  refine ⟨fun h => ⟨exists_of_highestSeq h, fun e hmem => sequence_le_of_highestSeq h hmem⟩, ?_⟩
  rintro ⟨⟨e, hmem, rfl⟩, hbound⟩
  cases h : highestSeq summary with
  | none => cases highestSeq_eq_none_iff.mp h _ hmem
  | some m =>
    obtain ⟨e', hmem', rfl⟩ := exists_of_highestSeq h
    exact congrArg some (BitVec.le_antisymm (hbound e' hmem') (sequence_le_of_highestSeq h hmem))

end highest

/-! ## The run (R162) -/

section run

variable {summary : List (Option SlotSummary)} {S : Nat}

theorem recordAt_sequence {q : Seq} {e : SlotSummary} (h : recordAt summary S q = some e) : e.sequence = q := by
  unfold recordAt at h
  split at h
  next =>
    split at h
    next hseq => exact Option.some.inj h ▸ hseq
    next => cases h
  next => cases h
  next => cases h

/-- Records that the summary holds, in ascending sequence from `low` without a gap (R162). -/
structure Consecutive (summary : List (Option SlotSummary)) (S : Nat) (low : Seq) (run : List SlotSummary) : Prop where
  sequences : (run.map fun e => e.sequence.toNat) = List.range' low.toNat run.length
  held : ∀ e ∈ run, recordAt summary S e.sequence = some e

theorem Consecutive.singleton {m : Seq} {e : SlotSummary} (h : recordAt summary S m = some e) :
    Consecutive summary S m [e] where
  sequences := by simp [recordAt_sequence h]
  held := by simpa [recordAt_sequence h] using h

/-- The sequence just below a sequence other than 0. -/
theorem toNat_pred_add_one {q : Seq} (h : q ≠ 0) : (q - 1).toNat + 1 = q.toNat := by
  bv_omega

theorem Consecutive.cons {q : Seq} {e : SlotSummary} {run : List SlotSummary} (hrun : Consecutive summary S q run)
    (hpos : q ≠ 0) (h : recordAt summary S (q - 1) = some e) : Consecutive summary S (q - 1) (e :: run) where
  sequences := by
    simp only [List.map_cons, List.length_cons, List.range'_succ, recordAt_sequence h, hrun.sequences,
      toNat_pred_add_one hpos]
  held := by
    rw [List.forall_mem_cons, recordAt_sequence h]
    exact ⟨h, hrun.held⟩

/-- The descent keeps the records consecutive up to the same highest one, adds at most `fuel` of them, and ends for lack
of fuel, at sequence 0, or where the summary does not hold the next lower sequence (R162). -/
theorem runBelow_consecutive (fuel : Nat) {q : Seq} {acc : List SlotSummary} (hacc : Consecutive summary S q acc) :
    let run := runBelow summary S fuel q acc
    ∃ low : Seq, Consecutive summary S low run ∧ low.toNat + run.length = q.toNat + acc.length ∧
      acc.length ≤ run.length ∧ run.length ≤ acc.length + fuel ∧
      (run.length = acc.length + fuel ∨ low = 0 ∨ low ≠ 0 ∧ recordAt summary S (low - 1) = none) := by
  induction fuel generalizing q acc with
  | zero => exact ⟨q, hacc, rfl, Nat.le_refl _, Nat.le_refl _, .inl rfl⟩
  | succ fuel ih =>
    by_cases hzero : q = 0
    · simp only [runBelow, if_pos hzero]
      exact ⟨q, hacc, rfl, Nat.le_refl _, Nat.le_add_right .., .inr (.inl hzero)⟩
    · cases hbelow : recordAt summary S (q - 1) with
      | none =>
        simp only [runBelow, if_neg hzero, hbelow]
        exact ⟨q, hacc, rfl, Nat.le_refl _, Nat.le_add_right .., .inr (.inr ⟨hzero, hbelow⟩)⟩
      | some e =>
        simp only [runBelow, if_neg hzero, hbelow]
        obtain ⟨low, hrun, htop, hmore, hmost, hend⟩ := ih (hacc.cons hzero hbelow)
        have hpred := toNat_pred_add_one hzero
        rw [List.length_cons] at htop hmore hmost hend
        exact ⟨low, hrun, by omega, by omega, by omega, hend.imp_left (by omega)⟩

/-- The run from a sequence `m` that the summary holds: consecutive records that end at `m`, at most S of them, and as
many as there are (R162). -/
theorem runRecords_consecutive {m : Seq} (hS : 0 < S) (hm : (recordAt summary S m).isSome = true) :
    let run := runRecords summary S m
    ∃ low : Seq, Consecutive summary S low run ∧ low.toNat + run.length = m.toNat + 1 ∧
      0 < run.length ∧ run.length ≤ S ∧
      (run.length = S ∨ low = 0 ∨ low ≠ 0 ∧ recordAt summary S (low - 1) = none) := by
  obtain ⟨e, he⟩ := Option.isSome_iff_exists.mp hm
  simp only [runRecords, he]
  obtain ⟨low, hrun, htop, hmore, hmost, hend⟩ := runBelow_consecutive (S - 1) (.singleton he)
  rw [List.length_singleton] at htop hmore hmost hend
  exact ⟨low, hrun, htop, hmore, by omega, hend.imp_left (by omega)⟩

end run

/-! ## The unfinished set and the playback list (R163) -/

section unfinished

variable {run : List SlotSummary} {unfinished : List UnfinishedEpoch}

@[simp] theorem SlotSummary.ends_iff (epoch : Seq) (e : SlotSummary) :
    e.ends epoch = true ↔ (e.kind = .commit ∨ e.kind = .aborted) ∧ e.epoch = epoch := by
  simp [SlotSummary.ends]

theorem mem_unfinishedOf {u : UnfinishedEpoch} :
    u ∈ unfinishedOf run ↔ u.restored = 0 ∧ u.failed = 0 ∧
      (∃ e ∈ run, e.kind = .openRecord ∧ e.sequence = u.epoch ∧ e.context = u.context) ∧
      ¬ ∃ e ∈ run, (e.kind = .commit ∨ e.kind = .aborted) ∧ e.epoch = u.epoch := by
  have hkept (e : SlotSummary) :
      (e.kind == .openRecord && !run.any (SlotSummary.ends e.sequence)) = true ↔
        e.kind = .openRecord ∧ ¬ ∃ e' ∈ run, (e'.kind = .commit ∨ e'.kind = .aborted) ∧ e'.epoch = e.sequence := by
    simp only [Bool.and_eq_true, beq_iff_eq, Bool.not_eq_true', ← Bool.not_eq_true, List.any_eq_true,
      SlotSummary.ends_iff]
  simp only [unfinishedOf, List.mem_map, List.mem_filter, hkept]
  constructor
  · rintro ⟨e, ⟨hmem, hopen, hnone⟩, rfl⟩
    exact ⟨rfl, rfl, ⟨e, hmem, hopen, rfl, rfl⟩, hnone⟩
  · obtain ⟨epoch, context, restored, failed⟩ := u
    rintro ⟨rfl, rfl, ⟨e, hmem, hopen, rfl, rfl⟩, hnone⟩
    exact ⟨e, ⟨hmem, hopen, hnone⟩, rfl⟩

theorem toPlayBack_iff (unfinished : List UnfinishedEpoch) (e : SlotSummary) :
    toPlayBack unfinished e = true ↔
      e.kind = .capture ∧ ∃ u ∈ unfinished, e.epoch = u.epoch ∧ u.epoch < e.sequence ∧ e.context = u.context := by
  simp only [toPlayBack, Bool.and_eq_true, beq_iff_eq, List.any_eq_true, decide_eq_true_eq, and_assoc,
    @eq_comm _ e.epoch, @eq_comm _ e.context]

theorem mem_playbackOf {q : Seq} :
    q ∈ playbackOf run unfinished ↔ ∃ e ∈ run, e.sequence = q ∧ e.kind = .capture ∧
      ∃ u ∈ unfinished, e.epoch = u.epoch ∧ u.epoch < q ∧ e.context = u.context := by
  simp only [playbackOf, List.mem_reverse, List.mem_map, List.mem_filter, toPlayBack_iff]
  constructor
  · rintro ⟨e, ⟨hmem, hplay⟩, rfl⟩
    exact ⟨e, hmem, rfl, hplay⟩
  · rintro ⟨e, hmem, rfl, hplay⟩
    exact ⟨e, ⟨hmem, hplay⟩, rfl⟩

/-- Records chosen from a run keep its order. -/
theorem pairwise_filter_sequences (p : SlotSummary → Bool)
    (hrun : (run.map fun e => e.sequence.toNat).Pairwise (· < ·)) :
    ((run.filter p).map fun e => e.sequence.toNat).Pairwise (· < ·) :=
  hrun.sublist (List.filter_sublist.map _)

theorem unfinishedOf_ascending (hrun : (run.map fun e => e.sequence.toNat).Pairwise (· < ·)) :
    ((unfinishedOf run).map fun u => u.epoch.toNat).Pairwise (· < ·) := by
  rw [unfinishedOf, List.map_map]
  exact pairwise_filter_sequences _ hrun

theorem playbackOf_descending (hrun : (run.map fun e => e.sequence.toNat).Pairwise (· < ·)) :
    ((playbackOf run unfinished).map fun q => q.toNat).Pairwise (· > ·) := by
  rw [playbackOf, List.map_reverse, List.map_map, List.pairwise_reverse]
  exact pairwise_filter_sequences _ hrun

end unfinished

/-- Settles O10: M, then the run in the form of its lowest sequence, then the unfinished set and the playback list. -/
theorem scanFindsTheRunAndTheUnfinishedEpochs : Obligations.ScanFindsTheRunAndTheUnfinishedEpochs := by
  unfold Obligations.ScanFindsTheRunAndTheUnfinishedEpochs
  refine ⟨fun _ => ⟨highestSeq_eq_none_iff, fun _ => highestSeq_eq_some_iff⟩, fun summary S m hS hm => ?run,
    fun run hrun => ⟨fun _ => mem_unfinishedOf, unfinishedOf_ascending hrun, fun _ => mem_playbackOf,
      playbackOf_descending hrun⟩⟩
  case run =>
    intro run
    obtain ⟨low, hrun, (htop : low.toNat + run.length = m.toNat + 1), hpos, hmost, hend⟩ :=
      runRecords_consecutive hS hm
    have hlow : m.toNat + 1 - run.length = low.toNat := by omega
    refine ⟨hlow ▸ hrun.sequences, hpos, hmost, by omega, hrun.held, hend.imp_right ?stops⟩
    case stops =>
      rintro (rfl | ⟨hzero, hnone⟩)
      · exact .inl (by simpa using htop)
      · have hpred := toNat_pred_add_one hzero
        have hnext : BitVec.ofNat 64 (m.toNat - run.length) = low - 1 := by
          rw [show m.toNat - run.length = (low - 1).toNat by omega, BitVec.ofNat_toNat, BitVec.setWidth_eq]
        exact .inr (hnext ▸ hnone)

end Sys2Proof.Machine

/-! PROOF. O1, O2, O3, O4, O13, O31, O43, O44: the rows of the table by what they do (R45, R135, R136), and the
statements that follow from that: the queue of commands, reset, MEM_READY, the first check on a request, STOPPED and the
responses that are ignored. -/

namespace Sys2Proof.Machine

/-! ## What a row does -/

/-- A row that is neither a reset nor MEM_READY presents its request to the U-port, hands a response or a timeout to the
D-port, or lets a timer expire. -/
inductive RowActs (c : Instr) (s : State) : Prop where
  | request (q : UportRequest) (hrequest : c.request s = some q) (hexec : exec c s = .next (presentRequest q s))
  | response (issue : Byte) (resp : MemResponse) (hrequest : c.request s = none)
      (hexec : exec c s = .next (takeResponse issue resp s))
  | timeout (hrequest : c.request s = none) (hexec : exec c s = .next (responseTimeout s))
  | discard (key : ReadRequest) (hrequest : c.request s = none) (hexec : exec c s = .next (discardExpires key s))
  | patrol (hrequest : c.request s = none) (hexec : exec c s = .next (settle (patrolExpires s)))
  | memReady (hrow : c = .memReadyFoundAsserted)

theorem rowActs (c : Instr) (s : State) (hreset : ∀ cwb ready, c ≠ .reset cwb ready) : RowActs c s := by
  cases hrequest : c.request s with
  | some q => exact .request q hrequest (exec_of_request hrequest)
  | none =>
    cases c with
    | reset cwb ready => exact absurd rfl (hreset cwb ready)
    | memReadyFoundAsserted => exact .memReady rfl
    | responseTimerExpiry => exact .timeout hrequest rfl
    | discardTimerExpiry key => exact .discard key hrequest rfl
    | patrolIntervalExpiry => exact .patrol hrequest rfl
    | landing issue => exact .response issue .done hrequest rfl
    | unbackedWrite issue => exact .response issue .unbacked hrequest rfl
    | sequenceError slot which w => cases which <;> cases hrequest
    | configurationReadResponse issue resp | regionLineReadResponse issue resp | descriptorReadResponse issue resp
    | scanReadResponse issue resp | playbackHeaderReadResponse issue resp | playbackDataReadResponse issue resp
    | playbackRestoreWriteDurable issue resp | recoveryMarkerDurable issue resp | straightReadResponse issue resp
    | deferredFetchResponse issue resp | oldReadResponse issue resp | recordDataDurable issue resp
    | recordHeaderDurable issue resp | openRecordDurable issue resp | commitMarkerDurable issue resp
    | restoreHeaderReadResponse issue resp | restoreDataReadResponse issue resp | restoreWriteDurable issue resp
    | abortedMarkerDurable issue resp | descriptorInvalidateDurable issue resp | formatLineDurable issue resp
    | descriptorWriteDurable issue resp | resultRecordDurable issue resp | statusFirstLineDurable issue resp
    | statusRecordDurable issue resp | patrolReadResponse issue resp | patrolRenewResponse issue resp
    | ignoredResponse issue resp | dataWriteFailed issue resp => exact .response issue resp hrequest rfl
    | _ => cases hrequest

/-! ## The step and the queue of commands (log 2) -/

theorem step_of_front (c : Instr) (s : State) : step { s with pending := c :: s.pending } = exec c s := rfl

theorem step_of_empty {s : State} (h : s.pending = []) : step s = .next s := by
  simp only [step, h]

/-- Settles O1: the two cases of the queue. -/
theorem stepRunsTheFrontCommandOrIdles : Obligations.StepRunsTheFrontCommandOrIdles :=
  ⟨step_of_front, fun _ => step_of_empty⟩

/-! ## MEM_READY and reset (R155, R156) -/

theorem exec_memReady_of_start {s : State} (hstart : s.device = .start) :
    exec .memReadyFoundAsserted s = .next (settle (enterLoad s)) :=
  if_pos hstart

theorem exec_memReady_of_notStart {s : State} (hstart : s.device ≠ .start) :
    exec .memReadyFoundAsserted s = .next s :=
  if_neg hstart

theorem exec_reset_of_ready (cwb : BitVec 16) (s : State) :
    exec (.reset cwb true) s = .next (settle (enterLoad (afterReset cwb s))) := rfl

theorem exec_reset_of_notReady (cwb : BitVec 16) (s : State) :
    exec (.reset cwb false) s = .next (afterReset cwb s) := rfl

/-- The entry into LOAD with a free D-port: the configuration read is issued (R136, R157). -/
theorem settle_enterLoad {s : State} (hport : s.dport.outstanding = none) :
    settle (enterLoad s) =
      issueRequest .startup (.read (s.windowAddr configurationOffset)) (enterLoad s) := by
  have hchoose : chooseUnit (enterLoad s) = enterLoad s := by
    simp [chooseUnit, enterLoad, setStep, updStartup]
  have hfree : (enterLoad s).dport.outstanding = none := by simpa only [enterLoad_frame] using hport
  simp only [settle, hchoose, grant, hfree]
  rfl

theorem windowAddr_configurationOffset (s : State) :
    s.windowAddr configurationOffset = BitVec.ofNat 32 (s.cwb.toNat * 65536) := by
  simp only [State.windowAddr, State.windowBase, configurationOffset, Nat.add_zero]

/-- Settles O2: every kind of row leaves the queue, the straps and the level of MEM_READY. -/
theorem everyCommandAnswersNextAndKeepsTheQueue : Obligations.EveryCommandAnswersNextAndKeepsTheQueue := by
  unfold Obligations.EveryCommandAnswersNextAndKeepsTheQueue
  intro c s
  by_cases hreset : ∃ cwb ready, c = .reset cwb ready
  · obtain ⟨cwb, ready, rfl⟩ := hreset
    cases ready
    · exact ⟨_, exec_reset_of_notReady cwb s, rfl, fun h => absurd rfl (h _ _)⟩
    · refine ⟨_, exec_reset_of_ready cwb s, ?_, fun h => absurd rfl (h _ _)⟩
      simp [afterReset]
  · simp only [not_exists] at hreset
    obtain ⟨q, -, hexec⟩ | ⟨issue, resp, -, hexec⟩ | ⟨-, hexec⟩ | ⟨key, -, hexec⟩ | ⟨-, hexec⟩ | hrow :=
      rowActs c s hreset
    case memReady =>
      subst hrow
      by_cases hstart : s.device = .start
      · exact ⟨_, exec_memReady_of_start hstart, by simp, fun _ => ⟨by simp, fun h => absurd hstart h⟩⟩
      · exact ⟨s, exec_memReady_of_notStart hstart, rfl, fun _ => ⟨rfl, fun _ => rfl⟩⟩
    all_goals exact ⟨_, hexec, by simp, fun _ => ⟨by simp, fun _ => by simp⟩⟩

/-- Settles O3: the state after a reset is `State.reset` but for the straps, the queue and the free draws. -/
theorem resetGivesEveryBlockItsResetValue : Obligations.ResetGivesEveryBlockItsResetValue := by
  unfold Obligations.ResetGivesEveryBlockItsResetValue
  intro cwb s
  have hregions (j : Fin 16) : (Vector.replicate 16 Region.reset)[j] = ⟨0, 0, .off, 0⟩ := by simp [Region.reset]
  have hcontexts (k : Fin 4) : (Vector.replicate 4 Context.reset)[k] = ⟨.closed, none, false, false, 512, 0, 0⟩ := by
    simp [Context.reset]
  have hreserved (k : Fin 4) : (Vector.replicate 4 0)[k] = 0 := by simp
  have hslots (k : Fin 4) : (Vector.replicate 4 CommandSlot.reset)[k] = ⟨.empty, none, none, .idle, none, 0⟩ := by
    simp [CommandSlot.reset]
  have hinterrupt : (afterReset cwb s).interrupt = false := by
    simp [State.interrupt, State.isPending, afterReset, State.reset, StatusUnit.reset]
  exact ⟨_, exec_reset_of_notReady cwb s, rfl, rfl, rfl, hregions, rfl, hcontexts, rfl, rfl, rfl, rfl, rfl, hreserved,
    rfl, rfl, rfl, rfl, rfl, rfl, hslots, rfl, rfl, rfl, rfl, hinterrupt, fun _ => rfl⟩

/-- Settles O4: START is left with the configuration read issued, and no other state is left. -/
theorem memReadyEntersLoadFromStartOnly : Obligations.MemReadyEntersLoadFromStartOnly := by
  unfold Obligations.MemReadyEntersLoadFromStartOnly
  refine ⟨fun s hstart hport => ?start, fun s => exec_memReady_of_notStart, fun cwb s => ?reset⟩
  case start =>
    refine ⟨_, s.dport.issueNumber + 1, exec_memReady_of_start hstart, ?_⟩
    rw [settle_enterLoad hport, windowAddr_configurationOffset]
    exact ⟨rfl, rfl, rfl⟩
  case reset =>
    refine ⟨_, 0 + 1, exec_reset_of_ready cwb s, ?_⟩
    rw [settle_enterLoad (s := afterReset cwb s) rfl, windowAddr_configurationOffset]
    exact ⟨rfl, rfl, rfl, rfl, rfl, rfl⟩

/-! ## The first check on a request (R46, R47) -/

/-- Before RUN every request is answered RETRY. -/
theorem takeRequest_of_starting {s : State}
    (hdevice : s.device = .start ∨ s.device = .load ∨ s.device = .scan ∨ s.device = .playback) (q : UportRequest) :
    takeRequest q s = settle (giveAnswer q.requester .retry s) := by
  obtain h | h | h | h := hdevice <;> cases q <;>
    simp only [takeRequest, judgeWrite, judgeRead, State.judge, h, UportRequest.requester]

/-- In STOPPED every request is answered FAULT STOPPED. -/
theorem takeRequest_of_stopped {s : State} (hdevice : s.device = .stopped) (q : UportRequest) :
    takeRequest q s = settle (giveAnswer q.requester (.fault .stopped) s) := by
  cases q <;> simp only [takeRequest, judgeWrite, judgeRead, State.judge, hdevice, UportRequest.requester, countFault]

/-- Settles O13: the row presents its request, the device state answers it, and nothing follows. -/
theorem deviceStateIsTheFirstCheck : Obligations.DeviceStateIsTheFirstCheck := by
  unfold Obligations.DeviceStateIsTheFirstCheck
  intro s c q hrequest hfree hsettled answered
  have hanswered (a : Answer) : settle (giveAnswer q.requester a s) = giveAnswer q.requester a s := by
    rw [giveAnswer_eq_recorded, settle_recorded_of_settled _ _ hsettled]
  rw [exec_of_request hrequest, presentRequest_of_free hfree]
  refine ⟨fun hdevice => ?_, fun hdevice => ?_⟩
  · rw [takeRequest_of_starting hdevice, hanswered]
    rfl
  · rw [takeRequest_of_stopped hdevice, hanswered]
    rfl

/-! ## STOPPED (R96, R130 to R133, R138, R153) -/

/-- In STOPPED no unit is begun and nothing is granted. -/
theorem settle_of_stopped {s : State} (hdevice : s.device = .stopped) : settle s = s := by
  have hchoose : chooseUnit s = s := by simp [chooseUnit, hdevice]
  cases hport : s.dport.outstanding <;> simp only [settle, hchoose, grant, hport, hdevice]

theorem answers_of_stopped {s : State} (hdevice : s.device = .stopped) (issue : Byte) : s.answers issue = none :=
  if_pos hdevice

theorem patrolExpires_of_stopped {s : State} (hdevice : s.device = .stopped) : patrolExpires s = s := by
  unfold patrolExpires
  split
  · simp [hdevice]
  · rfl

theorem discardExpires_of_stopped {s : State} (hdevice : s.device = .stopped) (key : ReadRequest) :
    discardExpires key s = s := by
  unfold discardExpires
  split
  · rfl
  · simp [hdevice]

/-- Settles O43: a request is answered or kept waiting, and every other row has nothing to act on. -/
theorem stoppedIsLeftByResetOnly : Obligations.StoppedIsLeftByResetOnly := by
  unfold Obligations.StoppedIsLeftByResetOnly
  intro s c hdevice hreset
  refine ⟨fun q hrequest hfree => ?answered, fun q hrequest hheld => ?waits, fun hnone => ?ignored⟩
  case answered =>
    rw [exec_of_request hrequest, presentRequest_of_free hfree, takeRequest_of_stopped hdevice,
      settle_of_stopped (by simpa only [giveAnswer_frame] using hdevice)]
    rfl
  case waits =>
    obtain ⟨r, hr⟩ := Option.isSome_iff_exists.mp hheld
    rw [exec_of_request hrequest]
    simp only [presentRequest, hr]
  case ignored =>
    obtain ⟨q, hrequest, -⟩ | ⟨issue, resp, -, hexec⟩ | ⟨-, hexec⟩ | ⟨key, -, hexec⟩ | ⟨-, hexec⟩ | hrow :=
      rowActs c s hreset
    case request => cases hnone.symm.trans hrequest
    case response => rw [hexec, takeResponse_of_ignored (answers_of_stopped hdevice issue)]
    case timeout => rw [hexec, responseTimeout, if_pos hdevice]
    case discard => rw [hexec, discardExpires_of_stopped hdevice]
    case patrol => rw [hexec, patrolExpires_of_stopped hdevice, settle_of_stopped hdevice]
    case memReady => rw [hrow, exec_memReady_of_notStart (by simp [hdevice])]

/-! ## Timeouts and stray responses (R130, R136, R137) -/

/-- FAIL from the memory is handed over as FAIL, whatever was requested. -/
theorem replyOf_fail (r : DportRequest) : replyOf r .fail = .fail := by
  cases r <;> rfl

theorem responseTimeout_of_idle {s : State} (hport : s.dport.outstanding = none) : responseTimeout s = s := by
  simp only [responseTimeout, hport, ite_self]

/-- In STOPPED, with nothing outstanding, or with another number outstanding, a response answers nothing. -/
theorem answers_of_stray {s : State} {issue : Byte}
    (h : s.device = .stopped ∨ s.dport.outstanding = none ∨ ∃ o, s.dport.outstanding = some o ∧ o.issue ≠ issue) :
    s.answers issue = none := by
  obtain h | h | ⟨o, ho, hissue⟩ := h
  · exact answers_of_stopped h issue
  · simp only [State.answers, h, ite_self]
  · simp only [State.answers, ho, if_neg hissue, ite_self]

/-- Settles O44: the expiry and a FAIL response hand over the same reply; a stray response answers nothing. -/
theorem timeoutsFailAndStrayResponsesAreIgnored : Obligations.TimeoutsFailAndStrayResponsesAreIgnored := by
  unfold Obligations.TimeoutsFailAndStrayResponsesAreIgnored
  refine ⟨fun s => ⟨fun issue client q hcarries => ?timeout, fun hport => ?idle⟩, fun s issue resp hstray => ?stray⟩
  case timeout =>
    have htimeout : exec .responseTimerExpiry s = .next (responseTimeout s) := rfl
    have hresponse : exec (.straightReadResponse issue .fail) s = .next (takeResponse issue .fail s) := rfl
    rw [htimeout, hresponse, responseTimeout_of_carries hcarries, takeResponse_of_carries hcarries, replyOf_fail]
    exact ⟨rfl, rfl⟩
  case idle => exact congrArg _ (responseTimeout_of_idle hport)
  case stray =>
    have hnone := answers_of_stray hstray
    exact ⟨congrArg _ (takeResponse_of_ignored hnone resp), congrArg _ (takeResponse_of_ignored hnone resp),
      congrArg _ (takeResponse_of_ignored hnone .done)⟩

/-! ## The discard timer (R94, R96) -/

/-- Settles O31: the entry of a running timer is freed; without one the command finds nothing to do. -/
theorem discardTimerExpiryFreesTheEntry : Obligations.DiscardTimerExpiryFreesTheEntry := by
  unfold Obligations.DiscardTimerExpiryFreesTheEntry
  intro s r
  have hexec : exec (.discardTimerExpiry r) s = .next (discardExpires r s) := rfl
  refine ⟨fun d hentry hdevice hready htimer => ?expires, fun hhalted => ?halted⟩
  case expires =>
    have hfound : s.findRead r = some d := hentry
    rw [hexec, discardExpires, hfound]
    exact congrArg _ (if_pos ⟨hdevice, hready, htimer⟩)
  case halted =>
    obtain hdevice | htimers := hhalted
    · rw [hexec, discardExpires_of_stopped hdevice]
    · cases hfound : s.findRead r with
      | none => simp only [hexec, discardExpires, hfound]
      | some d =>
        have hnone : d.timer = none :=
          htimers d (List.mem_of_find?_eq_some hfound) (by simpa using List.find?_some hfound)
        simp [hexec, discardExpires, hfound, hnone]

end Sys2Proof.Machine

/-! PROOF. O14, O48, O50, O51, O52, O53: the class of a line, the journal's accounting and live tail, the LOW test, the
causes with their flag, INT_N and the counters. -/

namespace Sys2Proof.Machine

/-! ## The class of a line (R48, R51) -/

section classOf

variable {s : State} {line : Addr}

theorem inWindow_iff : s.inWindow line = true ↔
    s.cwb.toNat * 65536 ≤ line.toNat ∧ line.toNat < s.cwb.toNat * 65536 + 4096 := by
  simp only [State.inWindow, Bool.and_eq_true, decide_eq_true_eq]
  rfl

theorem inRing_iff : s.inRing line = true ↔
    ∃ g, s.journal.geometry = some g ∧ g.base.toNat ≤ line.toNat ∧ line.toNat < g.base.toNat + 128 * g.slots := by
  cases h : s.journal.geometry <;> simp [State.inRing, h]

theorem classOf_of_window (hwindow : s.inWindow line = true) : s.classOf line = .window :=
  if_pos hwindow

theorem classOf_of_ring (hwindow : ¬ s.inWindow line = true) (hring : s.inRing line = true) : s.classOf line = .ring :=
  (if_neg hwindow).trans (if_pos hring)

/-- Outside window and ring the Region Table's lookup decides. -/
theorem classOf_of_table (hwindow : ¬ s.inWindow line = true) (hring : ¬ s.inRing line = true) :
    s.classOf line = ((s.lookupRegion line).map TargetClass.region).getD .plain := by
  rw [State.classOf, if_neg hwindow, if_neg hring]
  cases s.lookupRegion line <;> rfl

/-- The lookup finds the lowest-numbered active entry that contains the line (R51). -/
theorem lookupRegion_of_lowest {j : Fin 16}
    (hcovers : s.regions[j].mode ≠ .off ∧ s.regions[j].base ≤ line ∧ line ≤ s.regions[j].limit)
    (hlowest : ∀ i : Fin 16, i < j →
      ¬ (s.regions[i].mode ≠ .off ∧ s.regions[i].base ≤ line ∧ line ≤ s.regions[i].limit)) :
    s.lookupRegion line = some s.regions[j] := by
  refine List.find?_eq_some_iff_getElem.2 ⟨by simpa [Region.active, and_assoc] using hcovers, j.val, by simp, by simp,
    fun n hn => ?_⟩
  have hlow := hlowest ⟨n, by omega⟩ hn
  simpa [Region.active, and_assoc, or_iff_not_imp_left] using hlow

theorem lookupRegion_of_none
    (hnone : ∀ j : Fin 16, ¬ (s.regions[j].mode ≠ .off ∧ s.regions[j].base ≤ line ∧ line ≤ s.regions[j].limit)) :
    s.lookupRegion line = none := by
  refine List.find?_eq_none.2 fun r hr => ?_
  obtain ⟨n, hn, rfl⟩ := List.getElem_of_mem hr
  have hlow := hnone ⟨n, by simpa using hn⟩
  simpa [Region.active, and_assoc, or_iff_not_imp_left] using hlow

end classOf

/-- Settles O14: the check of each class, then the order of the classes. -/
theorem targetClassInItsOrder : Obligations.TargetClassInItsOrder := by
  unfold Obligations.TargetClassInItsOrder
  refine ⟨?checks, ?order⟩
  case checks =>
    intro s w line
    have hcheck (c : TargetClass) (h : s.classOf line = c) : s.classOf (lineOf w.address) = c := h
    refine ⟨fun h => ?_, fun h => ?_, fun r h => ?_⟩ <;>
      simp only [State.classCheck, hcheck _ h]
    rfl
  case order =>
    intro s line inWindow inRing covers
    have hnotWindow (h : ¬ inWindow) : ¬ s.inWindow line = true := mt inWindow_iff.1 h
    have hnotRing (h : ¬ inRing) : ¬ s.inRing line = true := mt inRing_iff.1 h
    refine ⟨fun h => classOf_of_window (inWindow_iff.2 h),
      fun hw hr => classOf_of_ring (hnotWindow hw) (inRing_iff.2 hr), fun hw hr j hcovers hlowest => ?region,
      fun hw hr hnone => ?plain⟩
    case region =>
      rw [classOf_of_table (hnotWindow hw) (hnotRing hr), lookupRegion_of_lowest hcovers hlowest]
      rfl
    case plain =>
      rw [classOf_of_table (hnotWindow hw) (hnotRing hr), lookupRegion_of_none hnone]
      rfl

/-! ## Used, free and reserved (R9, R11, R12) -/

theorem counting_iff (s : State) : s.counting = true ↔ s.journal.state = .ready ∨ s.journal.state = .formatting := by
  cases h : s.journal.state <;> simp [State.counting, h]

theorem sum_toList_four (v : Vector Nat 4) : v.toList.sum = v[0] + v[1] + v[2] + v[3] := by
  obtain ⟨⟨l⟩, hl⟩ := v
  obtain ⟨a, b, c, d, rfl⟩ : ∃ a b c d, l = [a, b, c, d] := by
    match l, hl with
    | [a, b, c, d], _ => exact ⟨a, b, c, d, rfl⟩
  simp [Vector.toList, Nat.add_assoc]

theorem totalReserved_eq (s : State) :
    s.totalReserved =
      s.journal.reserved[0] + s.journal.reserved[1] + s.journal.reserved[2] + s.journal.reserved[3] :=
  sum_toList_four _

/-- A changed entry of four changes the sum by the difference. -/
theorem sum_toList_set (v : Vector Nat 4) (k : Fin 4) (n : Nat) :
    (v.set k n).toList.sum + v[k] = v.toList.sum + n := by
  have hk : k = 0 ∨ k = 1 ∨ k = 2 ∨ k = 3 := by omega
  rw [sum_toList_four, sum_toList_four]
  obtain rfl | rfl | rfl | rfl := hk <;> simp <;> omega

/-- The reserved count of a context is part of the total. -/
theorem reserved_le_totalReserved (s : State) (k : Fin 4) : s.journal.reserved[k] ≤ s.totalReserved := by
  have h := sum_toList_set s.journal.reserved k 0
  simp only [State.totalReserved]
  omega

theorem used_of_counting {s : State} (hcounting : s.counting = true) (htail : s.journal.tail ≤ s.journal.head) :
    s.used = s.journal.head.toNat - s.journal.tail.toNat := by
  rw [State.used, if_pos hcounting, BitVec.toNat_sub_of_le htail]

theorem used_of_notCounting {s : State} (hcounting : ¬ s.counting = true) : s.used = 0 :=
  if_neg hcounting

theorem free_of_notCounting {s : State} (hcounting : ¬ s.counting = true) : s.free = 0 :=
  if_neg hcounting

theorem free_of_geometry {s : State} {g : Geometry} (hcounting : s.counting = true)
    (hgeometry : s.journal.geometry = some g) : s.free = g.slots - s.used - s.totalReserved := by
  rw [State.free, if_pos hcounting, State.slotCount, hgeometry]

/-- A claim changes the reserved counts only; the LOW test after it touches no block of the journal. -/
theorem claim_journal (k : Requester) (n : Nat) (s : State) :
    (claim k n s).journal =
      { s.journal with reserved := s.journal.reserved.set k (s.journal.reserved[k] + n) } := by
  simp only [claim, lowTest_frame]
  rfl

/-- Used and free are read off the journal alone. -/
theorem counting_congr {s t : State} (h : t.journal.state = s.journal.state) : t.counting = s.counting := by
  simp only [State.counting, h]

theorem used_congr {s t : State} (h : t.journal.state = s.journal.state) (hhead : t.journal.head = s.journal.head)
    (htail : t.journal.tail = s.journal.tail) : t.used = s.used := by
  simp only [State.used, counting_congr h, hhead, htail]

theorem free_congr {s t : State} (h : t.journal = s.journal) : t.free = s.free := by
  have hcounting : t.counting = s.counting := counting_congr (by rw [h])
  have hused : t.used = s.used := used_congr (by rw [h]) (by rw [h]) (by rw [h])
  have hslots : t.slotCount = s.slotCount := by simp only [State.slotCount, h]
  have hreserved : t.totalReserved = s.totalReserved := by simp only [State.totalReserved, h]
  simp only [State.free, hcounting, hused, hslots, hreserved]

theorem claim_used (k : Requester) (n : Nat) (s : State) : (claim k n s).used = s.used :=
  used_congr (by rw [claim_journal]) (by rw [claim_journal]) (by rw [claim_journal])

theorem claim_totalReserved (k : Requester) (n : Nat) (s : State) :
    (claim k n s).totalReserved = s.totalReserved + n := by
  have h := sum_toList_set s.journal.reserved k (s.journal.reserved[k] + n)
  simp only [State.totalReserved, claim_journal]
  omega

theorem claim_free (k : Requester) (n : Nat) (s : State) : (claim k n s).free = s.free - n := by
  have hslots : (claim k n s).slotCount = s.slotCount := by simp only [State.slotCount, claim_journal]
  have hcounting : (claim k n s).counting = s.counting := counting_congr (by rw [claim_journal])
  simp only [State.free, hcounting, hslots, claim_used, claim_totalReserved]
  split <;> omega

/-! ## The live tail (R14) -/

/-- The lowest of a list is one of it and none of it lies below. -/
theorem lowestSeq_cons (d q : Seq) (qs : List Seq) :
    lowestSeq d (q :: qs) ∈ q :: qs ∧ ∀ x ∈ q :: qs, lowestSeq d (q :: qs) ≤ x := by
  induction qs generalizing q with
  | nil => simp [lowestSeq]
  | cons p qs ih =>
    have hfold : lowestSeq d (q :: p :: qs) = lowestSeq d ((if p < q then p else q) :: qs) := rfl
    obtain ⟨hmem, hlow⟩ := ih (if p < q then p else q)
    rw [hfold]
    have hfirst := hlow _ List.mem_cons_self
    have hrest : ∀ x ∈ qs, lowestSeq d ((if p < q then p else q) :: qs) ≤ x := fun x hx => hlow x (.tail _ hx)
    generalize lowestSeq d ((if p < q then p else q) :: qs) = m at hmem hfirst hrest
    by_cases hlt : p < q
    · rw [if_pos hlt] at hmem hfirst
      refine ⟨.tail _ hmem, List.forall_mem_cons.2 ⟨?_, List.forall_mem_cons.2 ⟨hfirst, hrest⟩⟩⟩
      exact BitVec.le_trans hfirst (BitVec.le_of_lt hlt)
    · rw [if_neg hlt] at hmem hfirst
      refine ⟨?_, List.forall_mem_cons.2 ⟨hfirst, List.forall_mem_cons.2 ⟨?_, hrest⟩⟩⟩
      · exact (List.mem_cons.1 hmem).elim (fun h => h ▸ .head _) fun h => .tail _ (.tail _ h)
      · exact BitVec.le_trans hfirst (BitVec.not_lt.1 hlt)

theorem live_iff (c : Context) : c.live = true ↔ c.state ≠ .closed ∧ c.openWritten = true := by
  simp [Context.live]

theorem mem_liveSequences {s : State} {q : Seq} :
    q ∈ s.liveSequences ↔ ∃ k : Fin 4, s.contexts[k].live = true ∧ s.contexts[k].epoch = some q := by
  simp only [State.liveSequences, List.mem_filterMap, List.mem_filter, and_assoc]
  constructor
  · rintro ⟨c, hc, hlive, hepoch⟩
    obtain ⟨n, hn, rfl⟩ := List.getElem_of_mem hc
    exact ⟨⟨n, by simpa using hn⟩, by simpa using hlive, by simpa using hepoch⟩
  · rintro ⟨k, hlive, hepoch⟩
    exact ⟨s.contexts[k], by simp, hlive, hepoch⟩

theorem liveTail_of_none {s : State} (hnone : ∀ q, q ∉ s.liveSequences) : s.liveTail = s.journal.head := by
  rw [State.liveTail, List.eq_nil_iff_forall_not_mem.2 hnone]
  rfl

theorem liveTail_mem {s : State} {q : Seq} (hq : q ∈ s.liveSequences) : s.liveTail ∈ s.liveSequences := by
  obtain ⟨p, ps, hps⟩ := List.exists_cons_of_ne_nil (List.ne_nil_of_mem hq)
  rw [State.liveTail, hps]
  exact (lowestSeq_cons _ _ _).1

theorem liveTail_le {s : State} {q : Seq} (hq : q ∈ s.liveSequences) : s.liveTail ≤ q := by
  obtain ⟨p, ps, hps⟩ := List.exists_cons_of_ne_nil (List.ne_nil_of_mem hq)
  rw [State.liveTail, hps]
  exact (lowestSeq_cons _ _ _).2 q (hps ▸ hq)

/-- Settles O48: used and free by the journal's state, the claim, and the live tail by its two cases. -/
theorem spaceAccountingAndLiveTail : Obligations.SpaceAccountingAndLiveTail := by
  unfold Obligations.SpaceAccountingAndLiveTail
  refine ⟨?accounts, ?tail⟩
  case accounts =>
    intro s g k n hgeometry htail counting reserved
    have hcounts : s.counting = true ↔ counting := counting_iff s
    refine ⟨fun h => ?_, fun h => ?_, canClaim_iff s n, fun _ => ⟨claim_journal k n s, claim_used k n s, claim_free k n s⟩⟩
    · refine ⟨used_of_counting (hcounts.2 h) htail, ?_⟩
      rw [free_of_geometry (hcounts.2 h) hgeometry, totalReserved_eq]
    · exact ⟨used_of_notCounting (mt hcounts.1 h), free_of_notCounting (mt hcounts.1 h)⟩
  case tail =>
    intro s live
    have hlive (k : Fin 4) (q : Seq) : live k q ↔ s.contexts[k].live = true ∧ s.contexts[k].epoch = some q := by
      rw [live_iff, and_assoc]
    have hmem (q : Seq) : q ∈ s.liveSequences ↔ ∃ k, live k q := by simp only [mem_liveSequences, hlive]
    refine ⟨fun hnone => liveTail_of_none fun q hq => ?_, fun ⟨k, q, hq⟩ => ⟨?_, fun k q hq => ?_⟩⟩
    · obtain ⟨k, hk⟩ := (hmem q).1 hq
      exact hnone ⟨k, q, hk⟩
    · exact (hmem _).1 (liveTail_mem ((hmem q).2 ⟨k, hq⟩))
    · exact liveTail_le ((hmem q).2 ⟨k, hq⟩)

/-! ## The LOW test (R16) -/

theorem lowTest_of_crossing {s : State} {freeBefore markBefore : Nat}
    (h : s.journal.state = .ready ∧ markBefore ≤ freeBefore ∧ s.free < s.settings.lowMark) :
    lowTest freeBefore markBefore s = raiseCause .low s := by
  rw [lowTest, if_pos (by rwa [journalReady_iff])]

theorem lowTest_of_noCrossing {s : State} {freeBefore markBefore : Nat}
    (h : ¬ (s.journal.state = .ready ∧ markBefore ≤ freeBefore ∧ s.free < s.settings.lowMark)) :
    lowTest freeBefore markBefore s = s := by
  rw [lowTest, if_neg (by rwa [journalReady_iff])]

/-- Settles O50: a crossing raises LOW, and with a mark of 0 free is never below the mark. -/
theorem lowIsRaisedOnACrossing : Obligations.LowIsRaisedOnACrossing := by
  unfold Obligations.LowIsRaisedOnACrossing
  intro s freeBefore markBefore
  have hnever (hzero : s.settings.lowMark = 0) : ¬ s.free < s.settings.lowMark := by omega
  exact ⟨fun hready hbefore hfree => lowTest_of_crossing ⟨hready, hbefore, hfree⟩, lowTest_of_noCrossing,
    fun hzero => ⟨lowTest_of_noCrossing fun h => hnever hzero h.2.2, if_neg (hnever hzero)⟩, fun h => if_pos h,
    fun h => if_neg (not_lt.2 h)⟩

/-! ## Raises of causes (R128, R171 to R174) -/

theorem Cause.bit_lt (c : Cause) : c.bit < 8 := by
  cases c with
  | result k => simp only [Cause.bit]; omega
  | _ => decide

/-- A cause's mark holds its own bit and no other. -/
theorem Cause.getLsbD_mark (c : Cause) (i : Nat) : c.mark.getLsbD i = decide (i = c.bit) := by
  have hlt := c.bit_lt
  rw [Bool.eq_iff_iff]
  simp only [Cause.mark, BitVec.getLsbD_shiftLeft, BitVec.getLsbD_one, Bool.and_eq_true, Bool.not_eq_true',
    decide_eq_true_eq, decide_eq_false_iff_not]
  omega

/-- Marking a cause changes the pending set exactly when the cause was not pending. -/
theorem or_mark_eq_self_iff (b : Byte) (c : Cause) : b ||| c.mark = b ↔ b.getLsbD c.bit = true := by
  constructor
  · intro h
    rw [← h, BitVec.getLsbD_or, Cause.getLsbD_mark]
    simp
  · intro h
    refine BitVec.eq_of_getLsbD_eq fun i _ => ?_
    rw [BitVec.getLsbD_or, Cause.getLsbD_mark]
    by_cases hi : i = c.bit
    · subst hi
      simp [h]
    · simp [hi]

theorem raiseCause_of_pending {s : State} {c : Cause} (h : s.status.causes.getLsbD c.bit = true) :
    raiseCause c s = s := by
  rw [raiseCause, (or_mark_eq_self_iff _ _).2 h, setCauses, if_pos rfl]

theorem raiseCause_of_notPending {s : State} {c : Cause} (h : s.status.causes.getLsbD c.bit = false) :
    raiseCause c s = { s with
      status := { s.status with causes := s.status.causes ||| c.mark, dirty := true }, jobs := jobsWhenDirty s } := by
  have hchange : s.status.causes ||| c.mark ≠ s.status.causes := by
    rw [ne_eq, or_mark_eq_self_iff, h]
    exact Bool.false_ne_true
  simp [raiseCause_eq, hchange]

/-- Settles O51: a raise of a pending cause, of one that is not, and of ERROR. -/
theorem raisesSetTheFlagAndPlaceOneStatusJob : Obligations.RaisesSetTheFlagAndPlaceOneStatusJob := by
  unfold Obligations.RaisesSetTheFlagAndPlaceOneStatusJob
  intro s job jobs bit
  have hjobs : jobsWhenDirty s = jobs := jobsWhenDirty_eq s
  have hbit (c : Cause) : bit c = c.bit := by
    cases c <;> rfl
  refine ⟨?cause, fun kind address => ?errorRaised⟩
  case cause =>
    intro c causes
    rw [hbit]
    refine ⟨raiseCause_of_pending, fun h => ?_⟩
    rw [raiseCause_of_notPending h, hjobs]
    rfl
  case errorRaised => rw [raiseError_eq, hjobs]

/-! ## INT_N (R172) -/

/-- Two marks meet in a bit exactly when their common marks are not zero. -/
theorem and_ne_zero_iff (a b : Byte) : a &&& b ≠ 0#8 ↔ ∃ n : Fin 8, a.getLsbD n = true ∧ b.getLsbD n = true := by
  constructor
  · intro h
    by_contra hnone
    refine h (BitVec.eq_of_getLsbD_eq fun i hi => ?_)
    have hi := not_exists.1 hnone ⟨i, hi⟩
    rw [BitVec.getLsbD_and, BitVec.getLsbD_zero]
    simpa using hi
  · rintro ⟨n, ha, hb⟩ h
    have hbit : (a &&& b).getLsbD n = true := by rw [BitVec.getLsbD_and, ha, hb, Bool.and_self]
    rw [h, BitVec.getLsbD_zero] at hbit
    cases hbit

/-- Settles O52: STOPPED's bit, or a bit that cause and mask share. -/
theorem interruptFollowsTheUnmaskedCauses : Obligations.InterruptFollowsTheUnmaskedCauses := by
  unfold Obligations.InterruptFollowsTheUnmaskedCauses
  intro s
  rw [← and_ne_zero_iff, State.interrupt, Bool.or_eq_true, bne_iff_ne]
  rfl

/-! ## Counters (R178) -/

theorem toNat_satInc (n : BitVec 16) : (satInc n).toNat = min 65535 (n.toNat + 1) := by
  unfold satInc
  split <;> bv_omega

theorem get_raise_same (n : Counters) (c : Counter) : (n.raise c).get c = satInc (n.get c) := by
  cases c <;> rfl

theorem get_raise_other (n : Counters) {c d : Counter} (h : d ≠ c) : (n.raise c).get d = n.get d := by
  cases c <;> cases d <;> first | rfl | exact absurd rfl h

/-- Settles O53: the counter named rises and saturates, the others stay. -/
theorem countersRiseAndSaturate : Obligations.CountersRiseAndSaturate := by
  unfold Obligations.CountersRiseAndSaturate
  intro c d s before after
  have hsame (h : d = c) : after = min 65535 (before + 1) := by
    subst h
    exact (congrArg BitVec.toNat (get_raise_same _ _)).trans (toNat_satInc _)
  refine ⟨fun h => congrArg BitVec.toNat (get_raise_other _ h), fun h _ => ?_, fun h _ => ?_, rfl⟩ <;>
    · rw [hsame h]
      omega

end Sys2Proof.Machine

/-! PROOF. O5, O6, O7, O8, O9, O11, O12: LOAD, SCAN and PLAYBACK (R157 to R167). First what a reply to a READ keeps and how
reports in a row add up, then the configuration and region lines, the descriptor, the scan, and the steps of playback. -/

namespace Sys2Proof.Machine

/-! ## What a READ hands over (R39, R135, R160) -/

section soundLine

variable {bytes : Line} {st : Vector WordStatus 16}

/-- The line a READ's client can trust: DATA whose statuses all name one and none is UNCORRECTABLE. -/
theorem soundLine_replyOf_read (l : Addr) (resp : MemResponse) :
    (replyOf (.read l) resp).soundLine = (match resp with
      | .data bytes st => if statusesNamed st = true ∧ uncorrectable st = 0 then some bytes else none
      | _ => none) := by
  cases resp with
  | data bytes st =>
    rw [replyOf_read_data]
    cases h : statusesNamed st <;> simp [Reply.soundLine, h]
  | _ => rfl

theorem soundLine_of_readable (l : Addr) (hreadable : ∀ i : Fin 16, st[i] = .clean ∨ st[i] = .corrected) :
    (replyOf (.read l) (.data bytes st)).soundLine = some bytes := by
  rw [replyOf_read_readable l hreadable]
  exact if_pos (uncorrectable_of_readable hreadable)

theorem soundLine_of_unreadable {resp : MemResponse} (l : Addr)
    (hbad : resp.failsRead = true ∨ ∃ bytes st, resp = .data bytes st ∧ ∃ i : Fin 16, st[i] = .uncorrectable) :
    (replyOf (.read l) resp).soundLine = none := by
  obtain hfails | ⟨bytes, st, rfl, i, hi⟩ := hbad
  · obtain h | h := replyOf_failsRead (l := l) hfails <;> rw [h] <;> rfl
  · rw [soundLine_replyOf_read]
    exact if_neg fun h => (uncorrectable_eq_zero st).1 h.2 i hi

end soundLine

/-! ## Reports in a row (R128) -/

/-- ERROR raised for the last of some addresses, and not at all when there is none. -/
def State.reported (s : State) (kind : ErrorKind) : Option Addr → State
  | none => s
  | some a => raiseError kind a s

/-- A further ERROR of the kind replaces the address and places no second job. -/
theorem raiseError_reported (s : State) (kind : ErrorKind) (a : Addr) (x : Option Addr) :
    raiseError kind a (s.reported kind x) = raiseError kind a s := by
  cases x with
  | none => rfl
  | some b =>
    have hcauses : s.status.causes ||| 0x10#8 ||| 0x10#8 = s.status.causes ||| 0x10#8 := by
      rw [BitVec.or_assoc, BitVec.or_self]
    have hjobs : jobsWhenDirty (raiseError kind b s) = jobsWhenDirty s := by
      rw [jobsWhenDirty_of_dirty] <;> rw [raiseError_eq]
    rw [State.reported, raiseError_eq, hjobs]
    simp only [raiseError_eq, hcauses]

/-- The image under `f` of the last element that fails `p`. -/
def lastFailing {α β : Type} (p : α → Bool) (f : α → β) (l : List α) : Option β :=
  (l.reverse.find? fun x => !p x).map f

section lastFailing

variable {α β : Type} {p : α → Bool} {f : α → β}

theorem lastFailing_concat (l : List α) (x : α) :
    lastFailing p f (l ++ [x]) = if p x then lastFailing p f l else some (f x) := by
  cases h : p x <;> simp [lastFailing, h]

theorem lastFailing_eq_none {l : List α} (h : ∀ x ∈ l, p x = true) : lastFailing p f l = none := by
  simpa [lastFailing] using h

/-- With all after it passing, a failing element is the last that fails. -/
theorem lastFailing_of_last {before after : List α} {x : α} (hx : p x = false) (hafter : ∀ y ∈ after, p y = true) :
    lastFailing p f (before ++ x :: after) = some (f x) := by
  have hskip : after.reverse.find? (fun y => !p y) = none := by simpa using hafter
  simp [lastFailing, List.find?_append, hskip, hx]

end lastFailing

/-! ## The configuration line (R157) -/

/-- The settings after some words of the configuration line. -/
def settingsLoaded (bytes : Line) (st : Vector WordStatus 16) (g : Settings) (cs : List ConfigWord) : Settings :=
  cs.foldl (fun g c => if loadable bytes st c then g.load (lineWord bytes c.index) c else g) g

/-- A report reads no setting. -/
theorem raiseError_withSettings (kind : ErrorKind) (a : Addr) (s : State) (g : Settings) :
    raiseError kind a { s with settings := g } = { raiseError kind a s with settings := g } := by
  rw [raiseError_eq, raiseError_eq]
  rfl

theorem windowAddr_reported (s : State) (kind : ErrorKind) (x : Option Addr) (off : Nat) :
    (s.reported kind x).windowAddr off = s.windowAddr off := by
  cases x <;> simp [State.reported, State.windowAddr, State.windowBase]

/-- The words of a configuration line one after another: the settings they load, and one report for the last of those that
do not. -/
theorem foldl_loadWord (bytes : Line) (st : Vector WordStatus 16) (cs : List ConfigWord) (s : State) :
    cs.foldl (loadWord bytes st) s =
      { s.reported .loadInvalid (lastFailing (loadable bytes st) (fun c => s.windowAddr c.offset) cs) with
        settings := settingsLoaded bytes st s.settings cs } := by
  induction cs using List.reverseRecOn with
  | nil => rfl
  | append_singleton cs c ih =>
    rw [List.foldl_concat, ih, lastFailing_concat]
    generalize lastFailing (loadable bytes st) (fun c => s.windowAddr c.offset) cs = x
    cases hload : loadable bytes st c with
    | true => simp only [loadWord, settingsLoaded, List.foldl_concat, hload, if_true]
    | false =>
      have hloaded : settingsLoaded bytes st s.settings (cs ++ [c]) = settingsLoaded bytes st s.settings cs := by
        simp [settingsLoaded, hload]
      rw [hloaded]
      generalize settingsLoaded bytes st s.settings cs = g
      calc loadWord bytes st { s.reported .loadInvalid x with settings := g } c
          = raiseError .loadInvalid ((s.reported .loadInvalid x).windowAddr c.offset)
              { s.reported .loadInvalid x with settings := g } := if_neg (by simp [hload])
        _ = { raiseError .loadInvalid (s.windowAddr c.offset) s with settings := g } := by
          rw [raiseError_withSettings, windowAddr_reported, raiseError_reported]

/-- The settings after all seven words: each field by its own word. -/
theorem settingsLoaded_all (bytes : Line) (st : Vector WordStatus 16) (g : Settings) :
    settingsLoaded bytes st g ConfigWord.all =
      ⟨if loadable bytes st .stagedBase then lineWord bytes 0 else g.stagedBase,
       if loadable bytes st .stagedSlots then lineWord bytes 1 else g.stagedSlots,
       if loadable bytes st .parityCheck then lineWord bytes 2 == 1 else g.parityCheck,
       if loadable bytes st .discardInterval then (lineWord bytes 3).toNat else g.discardInterval,
       if loadable bytes st .patrolInterval then (lineWord bytes 4).toNat else g.patrolInterval,
       if loadable bytes st .lowMark then (lineWord bytes 5).toNat else g.lowMark,
       if loadable bytes st .interruptMask then causeMarks (lineWord bytes 6) else g.interruptMask⟩ := by
  have h0 (b : Bool) (g : Settings) (v : Word) : (if b then g.load v .stagedBase else g) =
      { g with stagedBase := if b then v else g.stagedBase } := by cases b <;> rfl
  have h1 (b : Bool) (g : Settings) (v : Word) : (if b then g.load v .stagedSlots else g) =
      { g with stagedSlots := if b then v else g.stagedSlots } := by cases b <;> rfl
  have h2 (b : Bool) (g : Settings) (v : Word) : (if b then g.load v .parityCheck else g) =
      { g with parityCheck := if b then v == 1 else g.parityCheck } := by cases b <;> rfl
  have h3 (b : Bool) (g : Settings) (v : Word) : (if b then g.load v .discardInterval else g) =
      { g with discardInterval := if b then v.toNat else g.discardInterval } := by cases b <;> rfl
  have h4 (b : Bool) (g : Settings) (v : Word) : (if b then g.load v .patrolInterval else g) =
      { g with patrolInterval := if b then v.toNat else g.patrolInterval } := by cases b <;> rfl
  have h5 (b : Bool) (g : Settings) (v : Word) : (if b then g.load v .lowMark else g) =
      { g with lowMark := if b then v.toNat else g.lowMark } := by cases b <;> rfl
  have h6 (b : Bool) (g : Settings) (v : Word) : (if b then g.load v .interruptMask else g) =
      { g with interruptMask := if b then causeMarks v else g.interruptMask } := by cases b <;> rfl
  simp only [settingsLoaded, ConfigWord.all, List.foldl_cons, List.foldl_nil, h0, h1, h2, h3, h4, h5, h6]
  rfl

/-- Where an element of an ordered list stands: all after it are above it. -/
theorem exists_split_of_pairwise {α : Type} {r : α → α → Prop} {l : List α} {x : α} (h : l.Pairwise r) (hx : x ∈ l) :
    ∃ before after, l = before ++ x :: after ∧ ∀ y ∈ after, r x y := by
  obtain ⟨before, after, rfl⟩ := List.append_of_mem hx
  exact ⟨before, after, rfl, fun y hy => List.rel_of_pairwise_cons (List.pairwise_append.1 h).2.1 hy⟩

/-- The seven words stand in the order of their places. -/
theorem ConfigWord.all_split (c : ConfigWord) :
    ∃ before after, ConfigWord.all = before ++ c :: after ∧ ∀ d ∈ after, c.index < d.index :=
  exists_split_of_pairwise (r := fun c d : ConfigWord => c.index < d.index) (l := all) (by decide) (by cases c <;> decide)

/-- A word may be loaded when it was not reported UNCORRECTABLE and its value is accepted. -/
theorem loadable_eq (bytes : Line) (st : Vector WordStatus 16) (c : ConfigWord) :
    loadable bytes st c =
      ((st[c.index]? != some .uncorrectable) && c.accepts (lineWord bytes c.index)) := by
  rw [loadable, getLsbD_uncorrectable_eq]
  rfl

theorem extractLsb'_zero {n : Nat} (v : BitVec n) (m : Nat) : v.extractLsb' 0 m = v.setWidth m :=
  BitVec.eq_of_toNat_eq (by simp)

theorem causeMarks_eq (v : Word) : causeMarks v = v.setWidth 8 := extractLsb'_zero v 8

/-- A configuration word stands at its index in the window's first line (Table 12-4). -/
theorem configOffset_eq (c : ConfigWord) : c.offset = 4 * c.index := Nat.zero_add _

/-- A start-up response reaches the rule of the controller's step with the D-port free. -/
theorem takeResponse_of_startup {s : State} {issue : Byte} {q : DportRequest} (hcarries : s.carries issue .startup q)
    (resp : MemResponse) :
    takeResponse issue resp s = afterEvent (startupAnswered (replyOf q resp) (releasePort s)) :=
  takeResponse_of_carries hcarries resp

/-- What ends an event depends on the state it leaves only. -/
theorem next_afterEvent_of_eq {o : Host.Outcome State Fault Refusal} {u v : State} (h : o = .next (afterEvent u))
    (huv : u = v) : o = .next (afterEvent v) :=
  huv ▸ h

theorem startupAnswered_of_configuration {s : State} (hstep : s.startup.step = .readConfiguration) (r : Reply) :
    startupAnswered r s = configurationAnswered r s := by
  simp only [startupAnswered, hstep]

theorem configurationAnswered_of_failed {r : Reply} (hr : r = .fail ∨ r = .unbacked) (s : State) :
    configurationAnswered r s =
      setStep (.readRegions false) (raiseError .loadInvalid (s.windowAddr configurationOffset) s) := by
  obtain rfl | rfl := hr <;> rfl

/-- Settles O5: the fold over the seven words, in the closed form of the lemmas above. -/
theorem configurationReadLoadsEachWord : Obligations.ConfigurationReadLoadsEachWord := by
  unfold Obligations.ConfigurationReadLoadsEachWord
  refine ⟨?loads, ?fails⟩
  case loads =>
    intro s issue line bytes st hcarries hstep hnamed v good placed
    have hgood (c : ConfigWord) : good c = loadable bytes st c := (loadable_eq bytes st c).symm
    have hplaced : jobsWhenDirty s = placed := jobsWhenDirty_eq s
    have hexec : exec (.configurationReadResponse issue (.data bytes st)) s = .next (afterEvent
        (setStep (.readRegions false) (ConfigWord.all.foldl (loadWord bytes st) (releasePort s)))) := by
      refine congrArg _ ((takeResponse_of_startup hcarries _).trans ?_)
      rw [startupAnswered_of_configuration (s := releasePort s) hstep, replyOf_read_data, if_pos hnamed]
      rfl
    rw [foldl_loadWord] at hexec
    rw [settingsLoaded_all] at hexec
    simp only [hgood]
    refine ⟨_, hexec, ?frame, rfl, rfl, rfl, rfl, rfl, rfl, ?marks, fun hall => ?allGood, fun c hbad hafter => ?lastBad⟩
    case frame => cases lastFailing (loadable bytes st) (fun c => (releasePort s).windowAddr c.offset) ConfigWord.all with
      | none => rfl
      | some a =>
        simp only [State.reported, raiseError_eq]
        rfl
    case marks => rw [← causeMarks_eq]; rfl
    case allGood =>
      rw [lastFailing_eq_none fun c _ => hall c]
      exact ⟨rfl, rfl⟩
    case lastBad =>
      obtain ⟨before, after, hall, hhigher⟩ := ConfigWord.all_split c
      rw [hall, lastFailing_of_last hbad fun d hd => hafter d (hhigher d hd), ← hplaced, ← configOffset_eq]
      simp only [State.reported, raiseError_eq]
      exact ⟨rfl, rfl⟩
  case fails =>
    intro s issue line resp hcarries hstep hfails
    refine congrArg _ ((takeResponse_of_startup hcarries _).trans ?_)
    rw [startupAnswered_of_configuration (s := releasePort s) hstep,
      configurationAnswered_of_failed (replyOf_failsRead hfails), raiseError_eq, raiseError_eq]
    rfl

/-! ## Host-written region words (R53, R158, R183) -/

/-- The mode field's value of word B (Table 12-5). -/
def RegionMode.field : RegionMode → Nat
  | .off => 0
  | .logged => 1
  | .guarded => 2
  | .readonly => 3

theorem isLineAddress_iff (v : Word) : isLineAddress v = true ↔ v.toNat % 64 = 0 := by
  rw [isLineAddress, beq_iff_eq, extractLsb'_zero]
  bv_omega

/-- Word B names a mode exactly when its low six bits hold the mode's value. -/
theorem wordBMode_eq_some_iff (v : Word) (mode : RegionMode) :
    wordBMode v = some mode ↔ v.toNat % 64 = mode.field := by
  have hlow (n : BitVec 6) : v.extractLsb' 0 6 = n ↔ v.toNat % 64 = n.toNat := by
    rw [extractLsb'_zero]
    bv_omega
  have h0 : v.extractLsb' 0 6 = (0 : BitVec 6) ↔ v.toNat % 64 = 0 := hlow 0
  have h1 : v.extractLsb' 0 6 = (1 : BitVec 6) ↔ v.toNat % 64 = 1 := hlow 1
  have h2 : v.extractLsb' 0 6 = (2 : BitVec 6) ↔ v.toNat % 64 = 2 := hlow 2
  have h3 : v.extractLsb' 0 6 = (3 : BitVec 6) ↔ v.toNat % 64 = 3 := hlow 3
  simp only [wordBMode, h0, h1, h2, h3]
  cases mode <;> simp only [RegionMode.field] <;> split_ifs <;> simp <;> omega

/-- Two spans of bytes are apart when one ends at or before the other's start. -/
theorem spansOverlap_eq_false_iff (a n b m : Nat) : spansOverlap a n b m = false ↔ b + m ≤ a ∨ a + n ≤ b := by
  rw [spansOverlap, Bool.and_eq_false_iff, decide_eq_false_iff_not, decide_eq_false_iff_not, not_lt, not_lt]

/-- The lines from `base` to `limit` are apart from a span of bytes. -/
theorem lineSpan_apart_iff {base limit : Addr} (hle : base ≤ limit) (low n : Nat) :
    spansOverlap base.toNat (limit.toNat + 64 - base.toNat) low n = false ↔
      limit.toNat + 64 ≤ low ∨ low + n ≤ base.toNat := by
  have hle : base.toNat ≤ limit.toNat := hle
  rw [spansOverlap_eq_false_iff]
  omega

/-- Words A and B that can be read make an entry by these tests (R158). -/
theorem regionOfWords_eq_some_iff (window : Nat) (a b : Word) (r : Region) :
    regionOfWords window a b = some r ↔ ∃ mode : RegionMode, b.toNat % 64 = mode.field ∧ a.toNat % 64 = 0 ∧
      (mode ≠ .off → a ≤ lineOf b ∧ ((lineOf b).toNat + 64 ≤ window ∨ window + 4096 ≤ a.toNat)) ∧
      r = ⟨a, lineOf b, mode, a⟩ := by
  simp only [← wordBMode_eq_some_iff, ← isLineAddress_iff]
  cases hmode : wordBMode b with
  | none => simp [regionOfWords, hmode]
  | some mode =>
    have hplaced : (a ≤ wordBLimit b ∧
        spansOverlap a.toNat ((wordBLimit b).toNat + 64 - a.toNat) window Config.windowBytes = false) ↔
        a ≤ lineOf b ∧ ((lineOf b).toNat + 64 ≤ window ∨ window + 4096 ≤ a.toNat) :=
      and_congr_right fun hle => lineSpan_apart_iff hle window 4096
    simp only [regionOfWords, hmode, hplaced, Option.ite_none_right_eq_some, Option.some.injEq, exists_eq_left',
      or_iff_not_imp_left, and_assoc, @eq_comm _ r]
    rfl

/-! ## The region lines (R158) -/

/-- The Region Table after some word pairs of a region line, of which `f` gives the entries that are valid. -/
def regionsLoaded (second : Bool) (f : Fin 8 → Option Region) (v : Vector Region 16) (l : List (Fin 8)) :
    Vector Region 16 :=
  l.foldl (fun v i => v.set (regionIndex second i) ((f i).getD Region.reset)) v

theorem val_regionIndex (second : Bool) (i : Fin 8) :
    (regionIndex second i).val = (if second then 8 else 0) + i.val := by
  refine Nat.mod_eq_of_lt ?_
  split <;> omega

section regionsLoaded

variable {second : Bool} {f : Fin 8 → Option Region} {v : Vector Region 16} {l : List (Fin 8)}

theorem regionsLoaded_concat (i : Fin 8) :
    regionsLoaded second f v (l ++ [i]) =
      (regionsLoaded second f v l).set (regionIndex second i) ((f i).getD Region.reset) :=
  List.foldl_concat ..

/-- An entry that one of the pairs is for takes what that pair gives. -/
theorem regionsLoaded_getElem_of_mem {i : Fin 8} (hi : i ∈ l) :
    (regionsLoaded second f v l)[regionIndex second i] = (f i).getD Region.reset := by
  induction l using List.reverseRecOn with
  | nil => cases hi
  | append_singleton l x ih =>
    rw [regionsLoaded_concat, Fin.getElem_fin, Vector.getElem_set]
    by_cases hx : x = i
    · subst hx
      exact if_pos rfl
    · rw [if_neg, ← Fin.getElem_fin, ih (by simpa [Ne.symm hx] using hi)]
      rw [val_regionIndex, val_regionIndex]
      omega

/-- An entry that no pair is for stays. -/
theorem regionsLoaded_getElem_of_notMem {j : Fin 16} (hj : ∀ i, j ≠ regionIndex second i) :
    (regionsLoaded second f v l)[j] = v[j] := by
  induction l using List.reverseRecOn with
  | nil => rfl
  | append_singleton l x ih =>
    rw [regionsLoaded_concat, Fin.getElem_fin, Vector.getElem_set, if_neg fun h => hj x (Fin.ext h.symm),
      ← Fin.getElem_fin, ih]

/-- Which half of the table a region line is for. -/
theorem exists_regionIndex_iff (j : Fin 16) : (∃ i, j = regionIndex second i) ↔ decide (8 ≤ j.val) = second := by
  constructor
  · rintro ⟨i, rfl⟩
    rw [val_regionIndex]
    cases second <;> simp
  · intro hhalf
    have hlow : (if second then 8 else 0) ≤ j.val ∧ j.val < (if second then 8 else 0) + 8 := by
      cases second <;> simp at hhalf ⊢ <;> omega
    refine ⟨⟨j.val - (if second then 8 else 0), by omega⟩, Fin.ext ?_⟩
    rw [val_regionIndex]
    exact (Nat.add_sub_cancel' hlow.1).symm

theorem regionsLoaded_none_getElem (second : Bool) (v : Vector Region 16) (j : Fin 16) :
    (regionsLoaded second (fun _ => none) v (List.finRange 8))[j] =
      if decide (8 ≤ j.val) = second then Region.reset else v[j] := by
  by_cases hj : ∃ i, j = regionIndex second i
  · rw [if_pos ((exists_regionIndex_iff j).1 hj)]
    obtain ⟨i, rfl⟩ := hj
    rw [regionsLoaded_getElem_of_mem (List.mem_finRange i), Option.getD_none]
  · rw [if_neg (mt (exists_regionIndex_iff j).2 hj), regionsLoaded_getElem_of_notMem (not_exists.1 hj)]

end regionsLoaded

/-- The state with another Region Table. -/
def State.withRegions (s : State) (v : Vector Region 16) : State := { s with regions := v }

section withRegions

variable (s : State) (v : Vector Region 16)

@[simp] theorem windowBase_withRegions : (s.withRegions v).windowBase = s.windowBase := rfl

@[simp] theorem windowAddr_withRegions (off : Nat) : (s.withRegions v).windowAddr off = s.windowAddr off := rfl

@[simp] theorem setRegion_withRegions (j : Fin 16) (r : Region) :
    setRegion j r (s.withRegions v) = s.withRegions (v.set j r) := rfl

@[simp] theorem raiseError_withRegions (kind : ErrorKind) (a : Addr) :
    raiseError kind a (s.withRegions v) = (raiseError kind a s).withRegions v := by
  simp only [State.withRegions, raiseError_eq]
  rfl

end withRegions

@[simp] theorem windowBase_reported (s : State) (kind : ErrorKind) (x : Option Addr) :
    (s.reported kind x).windowBase = s.windowBase := by
  cases x <;> simp [State.reported, State.windowBase]

@[simp] theorem reported_some (s : State) (kind : ErrorKind) (a : Addr) :
    s.reported kind (some a) = raiseError kind a s := rfl

/-- The word pairs of a region line one after another: the entries they install, and one report for the last that is not
valid. -/
theorem foldl_loadRegion (second : Bool) (bytes : Line) (st : Vector WordStatus 16) (l : List (Fin 8)) (s : State) :
    l.foldl (loadRegion second bytes st) s =
      (s.reported .loadInvalid (lastFailing (fun i => (regionOfLine s.windowBase bytes st i).isSome)
        (fun i => s.windowAddr (wordAOffset (regionIndex second i))) l)).withRegions
          (regionsLoaded second (regionOfLine s.windowBase bytes st) s.regions l) := by
  induction l using List.reverseRecOn with
  | nil => rfl
  | append_singleton l i ih =>
    rw [List.foldl_concat, ih, lastFailing_concat, regionsLoaded_concat]
    cases hregion : regionOfLine s.windowBase bytes st i with
    | some r => simp [loadRegion, hregion]
    | none => simp [loadRegion, hregion, windowAddr_reported, raiseError_reported]

/-- A region line that cannot be read: its eight entries OFF. -/
theorem foldl_setRegion_reset (second : Bool) (l : List (Fin 8)) (s : State) :
    l.foldl (fun s i => setRegion (regionIndex second i) Region.reset s) s =
      s.withRegions (regionsLoaded second (fun _ => none) s.regions l) := by
  induction l using List.reverseRecOn with
  | nil => rfl
  | append_singleton l i ih => rw [List.foldl_concat, ih, regionsLoaded_concat]; rfl

theorem startupAnswered_of_regions {s : State} {second : Bool} (hstep : s.startup.step = .readRegions second) (r : Reply) :
    startupAnswered r s = regionLineAnswered second r s := by
  simp only [startupAnswered, hstep]

theorem regionLineAnswered_of_failed {r : Reply} (hr : r = .fail ∨ r = .unbacked) (second : Bool) (s : State) :
    regionLineAnswered second r s =
      setStep (if second then .readDescriptor else .readRegions true) (regionLineFailed second s) := by
  obtain rfl | rfl := hr <;> rfl

/-- A word pair makes an entry when both its words are readable and they are valid by R158. -/
theorem regionOfLine_eq_some_iff (window : Nat) (bytes : Line) (st : Vector WordStatus 16) (i : Fin 8) (r : Region) :
    regionOfLine window bytes st i = some r ↔
      st[2 * i.val]? ≠ some .uncorrectable ∧ st[2 * i.val + 1]? ≠ some .uncorrectable ∧
      regionOfWords window (lineWord bytes (2 * i.val)) (lineWord bytes (2 * i.val + 1)) = some r := by
  simp only [regionOfLine, getLsbD_uncorrectable_eq, Bool.or_eq_true, beq_iff_eq, Option.ite_none_left_eq_some,
    not_or, and_assoc, ne_eq]

theorem wordAOffset_regionIndex_zero (second : Bool) :
    wordAOffset (regionIndex second 0) = if second then 0x140 else 0x100 := by
  cases second <;> rfl

theorem wordAOffset_eq (j : Fin 16) : wordAOffset j = 0x100 + 8 * j.val := rfl

/-- Settles O6: the fold over the eight word pairs, in the closed form of the lemmas above. -/
theorem regionLineReadInstallsEachEntry : Obligations.RegionLineReadInstallsEachEntry := by
  unfold Obligations.RegionLineReadInstallsEachEntry
  refine ⟨?loads, ?fails⟩
  case loads =>
    intro s issue line second bytes st hcarries hstep hnamed base wordB limit entry valid placed
    have hplaced : jobsWhenDirty s = placed := jobsWhenDirty_eq s
    have hentry (i : Fin 8) : entry i = regionIndex second i := Fin.ext (val_regionIndex second i).symm
    have hregion (i : Fin 8) (r : Region) : regionOfLine (releasePort s).windowBase bytes st i = some r ↔
        ∃ mode, valid i mode ∧ r = ⟨base i, limit i, mode, base i⟩ := by
      rw [regionOfLine_eq_some_iff, regionOfWords_eq_some_iff]
      have hfield (mode : RegionMode) : mode.field = (match mode with
          | .off => 0
          | .logged => 1
          | .guarded => 2
          | .readonly => 3) := by cases mode <;> rfl
      constructor
      · rintro ⟨ha, hb, mode, hmode, hbase, hplace, rfl⟩
        exact ⟨mode, ⟨ha, hb, hbase, hmode.trans (hfield mode), hplace⟩, rfl⟩
      · rintro ⟨mode, ⟨ha, hb, hbase, hmode, hplace⟩, rfl⟩
        exact ⟨ha, hb, mode, hmode.trans (hfield mode).symm, hbase, hplace, rfl⟩
    have hvalid (i : Fin 8) : (regionOfLine (releasePort s).windowBase bytes st i).isSome = true ↔ ∃ mode, valid i mode := by
      simp only [Option.isSome_iff_exists, hregion]
      exact ⟨fun ⟨_, mode, h, _⟩ => ⟨mode, h⟩, fun ⟨mode, h⟩ => ⟨_, mode, h, rfl⟩⟩
    have hinvalid (i : Fin 8) (h : ∀ mode, ¬ valid i mode) :
        (regionOfLine (releasePort s).windowBase bytes st i).isSome = false := by
      rw [← Bool.not_eq_true, hvalid]
      exact fun ⟨mode, hmode⟩ => h mode hmode
    have hexec : exec (.regionLineReadResponse issue (.data bytes st)) s = .next (afterEvent
        (setStep (if second then .readDescriptor else .readRegions true)
          ((List.finRange 8).foldl (loadRegion second bytes st) (releasePort s)))) := by
      refine congrArg _ ((takeResponse_of_startup hcarries _).trans ?_)
      rw [startupAnswered_of_regions (s := releasePort s) hstep, replyOf_read_data, if_pos hnamed]
      rfl
    rw [foldl_loadRegion] at hexec
    simp only [hentry]
    refine ⟨_, hexec, ?frame, fun i mode h => ?installed, fun i h => ?reset, fun j hj => ?others, fun hall => ?allGood,
      fun i hbad hafter => ?lastBad⟩
    case frame =>
      generalize lastFailing _ _ _ = x
      cases x with
      | none => rfl
      | some a =>
        simp only [State.reported, raiseError_eq]
        rfl
    case installed =>
      refine (regionsLoaded_getElem_of_mem (List.mem_finRange i)).trans ?_
      have hr := (hregion i _).2 ⟨mode, h, rfl⟩
      exact congrArg (Option.getD · Region.reset) hr
    case reset =>
      refine (regionsLoaded_getElem_of_mem (List.mem_finRange i)).trans ?_
      exact congrArg (Option.getD · Region.reset) (Option.isSome_eq_false_iff.1 (hinvalid i h) |> Option.isNone_iff_eq_none.1)
    case others => exact regionsLoaded_getElem_of_notMem hj
    case allGood =>
      rw [lastFailing_eq_none fun i _ => (hvalid i).2 (hall i)]
      exact ⟨rfl, rfl⟩
    case lastBad =>
      obtain ⟨before, after, hsplit, hhigher⟩ :=
        exists_split_of_pairwise (List.pairwise_lt_finRange 8) (List.mem_finRange i)
      rw [hsplit, lastFailing_of_last (x := i) (hinvalid i hbad) fun j hj => (hvalid j).2 (hafter j (hhigher j hj)), ← hplaced,
        wordAOffset_eq]
      simp only [State.reported, raiseError_eq]
      exact ⟨rfl, rfl⟩
  case fails =>
    intro s issue line second resp hcarries hstep hfails
    have hexec : exec (.regionLineReadResponse issue resp) s = .next (afterEvent
        (setStep (if second then .readDescriptor else .readRegions true) (regionLineFailed second (releasePort s)))) := by
      refine congrArg _ ((takeResponse_of_startup hcarries _).trans ?_)
      rw [startupAnswered_of_regions (s := releasePort s) hstep,
        regionLineAnswered_of_failed (replyOf_failsRead hfails)]
    rw [regionLineFailed, foldl_setRegion_reset, wordAOffset_regionIndex_zero, raiseError_withRegions] at hexec
    refine ⟨{ releasePort s with
      regions := regionsLoaded second (fun _ => none) s.regions (List.finRange 8)
      startup := { s.startup with step := if second then .readDescriptor else .readRegions true } }, ?_, rfl, fun j => ?_⟩
    · refine next_afterEvent_of_eq hexec ?_
      rw [raiseError_eq, raiseError_eq]
      rfl
    · exact regionsLoaded_none_getElem second s.regions j

end Sys2Proof.Machine

/-! PROOF. O7, O8, O9, O11, O12: the reads of the descriptor, of the scan and of playback, and the writes of playback. -/

namespace Sys2Proof.Machine

/-! ## The entry into RUN (R169) -/

/-- The entry into RUN with the Patrol Unit OFF, as one record update under the raise. -/
theorem enterRun_of_off {s : State} (hpatrol : s.patrol.state = .off) :
    enterRun s = raiseCause .started { s with
      device := .run, startup := { s.startup with step := .idle }, patrol := s.patrolAtRun } := by
  rw [enterRun, patrolEnterRun_of_off hpatrol] <;> try rw [raiseCause_eq]
  · rw [raiseCause_eq]
    rfl
  all_goals rfl

/-- The entry into RUN from LOAD or SCAN: the outcome's counts are 0. -/
theorem enterRunUnplayed_of_off {s : State} (hpatrol : s.patrol.state = .off) :
    enterRunUnplayed s = raiseCause .started { s with
      device := .run
      startup := { s.startup with step := .idle, rolledBack := 0, linesRestored := 0, linesFailed := 0 }
      patrol := s.patrolAtRun } :=
  enterRun_of_off hpatrol

/-! ## The descriptor (R17, R159, R181) -/

theorem placed_iff (window : Nat) (g : Geometry) :
    g.placed window = true ↔ g.base.toNat % 128 = 0 ∧ 64 ≤ g.slots ∧ g.slots ≤ 65536 ∧
      g.base.toNat + 128 * g.slots ≤ 2 ^ 32 ∧
      (g.base.toNat + 128 * g.slots ≤ window ∨ window + 4096 ≤ g.base.toNat) := by
  simp only [Geometry.placed, Bool.and_eq_true, Bool.not_eq_true', beq_iff_eq, decide_eq_true_eq,
    spansOverlap_eq_false_iff, and_assoc]
  rw [or_comm]
  rfl

theorem decodeDescriptor_eq (window : Nat) (l : Line) :
    decodeDescriptor window l =
      if lineWord l 0 = 0x0001B416#32 ∧ lineWord l 15 = crc32 (l.setWidth 480) ∧
        Geometry.placed window ⟨lineWord l 1, (lineWord l 2).toNat⟩ = true
      then some ⟨lineWord l 1, (lineWord l 2).toNat⟩ else none := by
  rw [← extractLsb'_zero l 480]
  rfl

theorem startupAnswered_of_descriptor {s : State} (hstep : s.startup.step = .readDescriptor) (r : Reply) :
    startupAnswered r s = descriptorAnswered r s := by
  simp only [startupAnswered, hstep]

theorem descriptorAnswered_of_unreadable {r : Reply} (h : r.soundLine = none) (s : State) :
    descriptorAnswered r s = descriptorUnreadable s := by
  simp only [descriptorAnswered, h]

theorem descriptorAnswered_of_valid {s : State} {r : Reply} {line : Line} {g : Geometry} (hline : r.soundLine = some line)
    (hvalid : decodeDescriptor s.windowBase line = some g) : descriptorAnswered r s = descriptorValid g s := by
  simp only [descriptorAnswered, hline, hvalid]

theorem descriptorAnswered_of_invalid {s : State} {r : Reply} {line : Line} (hline : r.soundLine = some line)
    (hinvalid : decodeDescriptor s.windowBase line = none) : descriptorAnswered r s = descriptorInvalid s := by
  simp only [descriptorAnswered, hline, hinvalid]

/-- Settles O7: what can be read of the descriptor line, then R17's tests. -/
theorem descriptorReadEntersScanOrRun : Obligations.DescriptorReadEntersScanOrRun := by
  unfold Obligations.DescriptorReadEntersScanOrRun
  intro s issue line hcarries hstep hpatrol absent
  have hexec (resp : MemResponse) : exec (.descriptorReadResponse issue resp) s =
      .next (afterEvent (descriptorAnswered (replyOf (.read line) resp) (releasePort s))) := by
    refine congrArg _ ((takeResponse_of_startup hcarries _).trans ?_)
    rw [startupAnswered_of_descriptor (s := releasePort s) hstep]
  have habsent (u : State) (hu : u = releasePort s ∨ ∃ kind a, u = raiseError kind a (releasePort s)) :
      descriptorInvalid u = absent u := by
    have hoff : u.patrol.state = .off := by
      obtain rfl | ⟨kind, a, rfl⟩ := hu
      · exact hpatrol
      · simpa using hpatrol
    rw [descriptorInvalid, enterRunUnplayed_of_off (by simpa using hoff)]
    obtain rfl | ⟨kind, a, rfl⟩ := hu
    · rfl
    · rw [raiseError_eq]
      rfl
  refine ⟨?readable, fun resp hbad => ?unreadable⟩
  case readable =>
    intro bytes st hreadable S base valid
    have hline := soundLine_of_readable (bytes := bytes) line hreadable
    have hvalid : valid ↔ lineWord bytes 0 = 0x0001B416#32 ∧ lineWord bytes 15 = crc32 (bytes.setWidth 480) ∧
        Geometry.placed s.windowBase ⟨lineWord bytes 1, (lineWord bytes 2).toNat⟩ = true := by
      rw [placed_iff]
    have hdecode := decodeDescriptor_eq (releasePort s).windowBase bytes
    refine ⟨fun h => ?_, fun h => ?_⟩
    · have hsome := hdecode.trans (if_pos (hvalid.1 h))
      exact next_afterEvent_of_eq (hexec _) (descriptorAnswered_of_valid hline hsome)
    · have hnone := hdecode.trans (if_neg (mt hvalid.2 h))
      exact next_afterEvent_of_eq (hexec _)
        ((descriptorAnswered_of_invalid hline hnone).trans (habsent _ (.inl rfl)))
  case unreadable =>
    refine next_afterEvent_of_eq (hexec resp) ?_
    rw [descriptorAnswered_of_unreadable (soundLine_of_unreadable line hbad), descriptorUnreadable,
      habsent _ (.inr ⟨_, _, rfl⟩)]
    rfl

/-! ## The scan (R160 to R165) -/

theorem startupAnswered_of_slot {s : State} (hstep : s.startup.step = .readSlot) (r : Reply) :
    startupAnswered r s = scanAnswered r s := by
  simp only [startupAnswered, hstep]

theorem ring_of_geometry {s : State} {g : Geometry} (h : s.journal.geometry = some g) : s.ring = g := by
  simp only [State.ring, h, Option.getD_some]

theorem slotCount_of_geometry {s : State} {g : Geometry} (h : s.journal.geometry = some g) : s.slotCount = g.slots := by
  simp only [State.slotCount, h]

theorem scanAnswered_of_unreadable {r : Reply} (h : r.soundLine = none) (s : State) :
    scanAnswered r s = scanFails (s.ring.slotHeader s.startup.nextSlot) s := by
  simp only [scanAnswered, h]

/-- The state with the header line of the scan's slot recorded. -/
def State.slotRecorded (s : State) (line : Line) : State :=
  { s with startup := { s.startup with
    summary := s.startup.summary ++ [summarize s.slotCount s.startup.nextSlot line]
    nextSlot := s.startup.nextSlot + 1 } }

theorem scanAnswered_of_more {s : State} {r : Reply} {line : Line} (hline : r.soundLine = some line)
    (hmore : s.startup.nextSlot + 1 < s.slotCount) : scanAnswered r s = setStep .readSlot (s.slotRecorded line) := by
  simp only [scanAnswered, hline, if_pos hmore]
  rfl

theorem scanAnswered_of_last {s : State} {r : Reply} {line : Line} (hline : r.soundLine = some line)
    (hlast : ¬ s.startup.nextSlot + 1 < s.slotCount) : scanAnswered r s = scanEnds (s.slotRecorded line) := by
  simp only [scanAnswered, hline, if_neg hlast]
  rfl

/-- A scan that fails enters RUN with the journal ABSENT and one ERROR. -/
theorem scanFails_of_off {s : State} (hpatrol : s.patrol.state = .off) (addr : Addr) :
    scanFails addr s = raiseCause .started (raiseError .scanFailed addr { s with
      device := .run
      journal := { s.journal with state := .absent .scanFailed, head := 0, tail := 0 }
      startup := { s.startup with step := .idle, rolledBack := 0, linesRestored := 0, linesFailed := 0 }
      patrol := s.patrolAtRun }) := by
  rw [scanFails, enterRunUnplayed_of_off (by simpa using hpatrol), raiseError_eq, raiseError_eq]
  rfl

theorem exec_scanReadResponse {s : State} {issue : Byte} {line : Addr} (hcarries : s.carries issue .startup (.read line))
    (hstep : s.startup.step = .readSlot) (resp : MemResponse) :
    exec (.scanReadResponse issue resp) s =
      .next (afterEvent (scanAnswered (replyOf (.read line) resp) (releasePort s))) := by
  refine congrArg _ ((takeResponse_of_startup hcarries _).trans ?_)
  rw [startupAnswered_of_slot (s := releasePort s) hstep]

/-- Settles O8: a header line recorded before the last slot, and a scan that fails. -/
theorem scanReadRecordsItsSlotOrFails : Obligations.ScanReadRecordsItsSlotOrFails := by
  unfold Obligations.ScanReadRecordsItsSlotOrFails
  intro s issue line g hcarries hdevice hstep hgeometry hpatrol i
  have hslots : (releasePort s).slotCount = g.slots := slotCount_of_geometry (s := releasePort s) hgeometry
  refine ⟨fun bytes st hreadable hmore => ?recorded, fun resp hbad => ?fails⟩
  case recorded =>
    refine next_afterEvent_of_eq (exec_scanReadResponse hcarries hstep _) ?_
    rw [scanAnswered_of_more (s := releasePort s) (soundLine_of_readable line hreadable) (hslots ▸ hmore),
      State.slotRecorded, hslots, summarize]
    cases h : decodeHeader bytes <;> simp only [setStep, updStartup] <;> rw [← hstep] <;> rfl
  case fails =>
    refine next_afterEvent_of_eq (exec_scanReadResponse hcarries hstep _) ?_
    rw [scanAnswered_of_unreadable (soundLine_of_unreadable line hbad), scanFails_of_off (s := releasePort s) hpatrol,
      ring_of_geometry (s := releasePort s) hgeometry]
    rfl

/-- The head after the scan: one above the highest sequence, which is not the last count, or 0 (R162). -/
theorem takeHead_eq {m : Option Seq} (hlast : ∀ q, m = some q → q ≠ lastSequence) (s : State) :
    takeHead m s = { s with journal := { s.journal with head := (m.map (· + 1)).getD 0 } } := by
  cases m with
  | none => rfl
  | some q => exact if_neg (hlast q rfl)

/-- The LOW test at READY reads none of the device state, the controller and the Patrol Unit. -/
theorem lowTestAtReady_of_entering (s : State) (d : DeviceState) (u : Startup) (p : Patrol) :
    lowTestAtReady { s with device := d, startup := u, patrol := p } =
      { lowTestAtReady s with device := d, startup := u, patrol := p } := by
  have hfree : ({ s with device := d, startup := u, patrol := p } : State).free = s.free := free_congr rfl
  unfold lowTestAtReady
  rw [hfree]
  split
  · rw [raiseCause_eq, raiseCause_eq]
    rfl
  · rfl

theorem patrolAtRun_congr {s t : State} (hsettings : t.settings = s.settings) (hregions : t.regions = s.regions)
    (hpatrol : t.patrol = s.patrol) : t.patrolAtRun = s.patrolAtRun := by
  have hfirst : t.firstActive 0 = s.firstActive 0 := by simp only [State.firstActive, hregions]
  simp only [State.patrolAtRun, hfirst, hsettings, hpatrol]

/-- Becoming READY in RUN at the end of the scan, with the Patrol Unit OFF. -/
theorem enterRunUnplayed_becomeReady {s : State} (hpatrol : s.patrol.state = .off) :
    enterRunUnplayed (becomeReady s) = raiseCause .started (lowTestAtReady { s with
      device := .run
      journal := { s.journal with state := .ready, tail := s.journal.head }
      startup := { s.startup with step := .idle, rolledBack := 0, linesRestored := 0, linesFailed := 0 }
      patrol := s.patrolAtRun }) := by
  have hpatrolAtRun : (becomeReady s).patrolAtRun = s.patrolAtRun := patrolAtRun_congr (by simp) (by simp) (by simp)
  have hstartup : (becomeReady s).startup = s.startup := by simp
  rw [enterRunUnplayed_of_off (by simpa using hpatrol), hpatrolAtRun, hstartup]
  exact congrArg _ (lowTestAtReady_of_entering _ _ _ _).symm

/-- Becoming READY in RUN at the end of start-up, with the Patrol Unit OFF. -/
theorem enterRun_becomeReady {s : State} (hpatrol : s.patrol.state = .off) :
    enterRun (becomeReady s) = raiseCause .started (lowTestAtReady { s with
      device := .run
      journal := { s.journal with state := .ready, tail := s.journal.head }
      startup := { s.startup with step := .idle }
      patrol := s.patrolAtRun }) := by
  have hpatrolAtRun : (becomeReady s).patrolAtRun = s.patrolAtRun := patrolAtRun_congr (by simp) (by simp) (by simp)
  have hstartup : (becomeReady s).startup = s.startup := by simp
  rw [enterRun_of_off (by simpa using hpatrol), hpatrolAtRun, hstartup]
  exact congrArg _ (lowTestAtReady_of_entering _ _ _ _).symm

/-- The run that the scan finds in a summary (R162). -/
def foundRun (summary : List (Option SlotSummary)) (slots : Nat) : List SlotSummary :=
  match highestSeq summary with
  | none => []
  | some q => runRecords summary slots q

theorem foundRun_of_none {summary : List (Option SlotSummary)} (h : highestSeq summary = none) (slots : Nat) :
    foundRun summary slots = [] := by
  simp only [foundRun, h]

theorem foundRun_of_some {summary : List (Option SlotSummary)} {q : Seq} (h : highestSeq summary = some q)
    (slots : Nat) : foundRun summary slots = runRecords summary slots q := by
  simp only [foundRun, h]

/-- The state with what the scan found, the controller's next step still to be set. -/
def State.scanFound (s : State) : State :=
  recordFindings (highestSeq s.startup.summary) (foundRun s.startup.summary s.slotCount) s

theorem unfinished_scanFound (s : State) :
    s.scanFound.startup.unfinished = unfinishedOf (foundRun s.startup.summary s.slotCount) := rfl

section scanEnds

variable {s : State}

theorem scanEnds_of_finished (h : unfinishedOf (foundRun s.startup.summary s.slotCount) = []) :
    scanEnds s = enterRunUnplayed (becomeReady (takeHead (highestSeq s.startup.summary) s.scanFound)) := by
  rw [← unfinished_scanFound] at h
  cases hm : highestSeq s.startup.summary <;>
    simp only [State.scanFound, foundRun, hm] at h <;> simp only [scanEnds, State.scanFound, foundRun, hm, h]

theorem scanEnds_of_unfinished {e : UnfinishedEpoch} {rest : List UnfinishedEpoch} {q : Seq}
    (hm : highestSeq s.startup.summary = some q)
    (h : unfinishedOf (foundRun s.startup.summary s.slotCount) = e :: rest) :
    scanEnds s =
      if q.toNat - e.epoch.toNat + 1 + (rest.length + 1) ≤ s.slotCount then
        enterPlayback (takeHead (some q) s.scanFound)
      else scanFails (s.ring.headerLine e.epoch) s.scanFound := by
  rw [← unfinished_scanFound] at h
  simp only [State.scanFound, foundRun, hm] at h
  simp only [scanEnds, State.scanFound, foundRun, hm, h, markersFit, decide_eq_true_eq, Nat.add_comm]

end scanEnds

/-- Settles O9: the end of the scan by the unfinished set and the space for its markers. -/
theorem lastScanReadEndsTheScan : Obligations.LastScanReadEndsTheScan := by
  unfold Obligations.LastScanReadEndsTheScan
  intro s issue line g bytes st hcarries hdevice hstep hgeometry hjournal hpatrol hreadable hlast summary m run
    unfinished found next hsequence
  have hslots : (releasePort s).slotCount = g.slots := slotCount_of_geometry (s := releasePort s) hgeometry
  have hexec : exec (.scanReadResponse issue (.data bytes st)) s =
      .next (afterEvent (scanEnds ((releasePort s).slotRecorded bytes))) := by
    refine next_afterEvent_of_eq (exec_scanReadResponse hcarries hstep _) (scanAnswered_of_last
      (s := releasePort s) (soundLine_of_readable line hreadable) ?_)
    rw [hslots]
    exact not_lt.2 hlast.ge
  have hrun : run = foundRun summary g.slots := by
    simp only [run, m, foundRun]
    cases highestSeq summary <;> rfl
  have hrecorded : (releasePort s).slotRecorded bytes =
      { releasePort s with startup := { s.startup with summary := summary, nextSlot := g.slots } } := by
    have hnextSlot : (releasePort s).startup.nextSlot + 1 = g.slots := hlast
    rw [State.slotRecorded, hslots, hnextSlot]
    rfl
  have hslotsRecorded : ((releasePort s).slotRecorded bytes).slotCount = g.slots := hslots
  have hhighest : highestSeq ((releasePort s).slotRecorded bytes).startup.summary = m := by rw [hrecorded]
  have hfoundRun : foundRun ((releasePort s).slotRecorded bytes).startup.summary
      ((releasePort s).slotRecorded bytes).slotCount = run := by
    rw [hslotsRecorded, hrecorded, hrun]
  have hscanFound : ((releasePort s).slotRecorded bytes).scanFound =
      { releasePort s with startup := found s.startup.step } := by
    rw [State.scanFound, hfoundRun, hhighest, hrecorded]
    unfold recordFindings
    simp only [found, unfinished, updStartup]
    generalize run.head? = first, m = highest
    cases first <;> cases highest <;> rfl
  have hnext : (m.map (· + 1)).getD 0 = next := by
    simp only [next]
    cases m <;> rfl
  refine ⟨fun hfinished => ?finished, fun e rest q hunfinished hm hfit => ?fit,
    fun e rest q hunfinished hm hfull => ?full⟩
  case finished =>
    refine next_afterEvent_of_eq hexec ?_
    rw [scanEnds_of_finished (by rw [hfoundRun]; exact hfinished), hhighest, takeHead_eq hsequence, hscanFound, hnext,
      enterRunUnplayed_becomeReady (by exact hpatrol)]
    rfl
  case fit =>
    refine next_afterEvent_of_eq hexec ?_
    rw [scanEnds_of_unfinished (hhighest.trans hm) (by rw [hfoundRun]; exact hunfinished), hslotsRecorded,
      if_pos (by simpa [hunfinished] using hfit), ← hm, takeHead_eq hsequence, hscanFound, hnext]
    cases hplayback : playbackOf run unfinished <;> simp only [enterPlayback, playNext, updStartup, setStep, found, hplayback] <;> rfl
  case full =>
    refine next_afterEvent_of_eq hexec ?_
    rw [scanEnds_of_unfinished (hhighest.trans hm) (by rw [hfoundRun]; exact hunfinished), hslotsRecorded,
      if_neg (by simpa [hunfinished] using hfull), hscanFound,
      scanFails_of_off (s := { releasePort s with startup := found s.startup.step }) hpatrol,
      ring_of_geometry (s := (releasePort s).slotRecorded bytes) hgeometry]
    rfl

/-! ## Playback (R39, R40, R166 to R168) -/

theorem startupAnswered_of_playHeader {s : State} (hstep : s.startup.step = .playHeader) (r : Reply) :
    startupAnswered r s = playHeaderAnswered r s := by
  simp only [startupAnswered, hstep]

theorem startupAnswered_of_playData {s : State} {header : Option Line} (hstep : s.startup.step = .playData header)
    (r : Reply) : startupAnswered r s = playDataAnswered header r s := by
  simp only [startupAnswered, hstep]

theorem startupAnswered_of_playWrite {s : State} {line : Addr} {image : Line} {poison : WordMask} {good : Bool}
    (hstep : s.startup.step = .playWrite line image poison good) (r : Reply) :
    startupAnswered r s = playWriteAnswered good r s := by
  simp only [startupAnswered, hstep]

theorem startupAnswered_of_marker {s : State} {i : Nat} (hstep : s.startup.step = .marker i) (r : Reply) :
    startupAnswered r s = markerAnswered i r s := by
  simp only [startupAnswered, hstep]

/-- The header in a line read is usable when it decodes to a record as expected (R39). -/
theorem header_eq_some_iff (x : Expected) (line : Option Line) (h : Header) :
    x.header line = some h ↔ line.bind decodeHeader = some h ∧ h.sequence = x.sequence ∧ h.kind = .capture ∧
      h.context = x.context ∧ h.epoch = x.epoch := by
  unfold Expected.header
  cases line.bind decodeHeader with
  | none => simp
  | some h' =>
    simp only [Option.ite_none_right_eq_some, Option.some.injEq]
    constructor
    · rintro ⟨hmatches, rfl⟩
      exact ⟨rfl, hmatches⟩
    · rintro ⟨rfl, hmatches⟩
      exact ⟨hmatches, rfl⟩

theorem restoreImage_of_matching {h : Header} {r : Reply} {bytes : Line} {bad : WordMask}
    (hdata : matchingData h r = some (bytes, bad)) : restoreImage (some h) r = .write bytes (h.poison ||| bad) true := by
  simp only [restoreImage, hdata]

theorem restoreImage_of_notMatching {h : Header} {r : Reply} (hdata : matchingData h r = none) :
    restoreImage (some h) r = .write 0 allWords false := by
  simp only [restoreImage, hdata]

theorem matchingData_of_check {h : Header} {bytes : Line} {st : Vector WordStatus 16} (hcheck : crc32 bytes = h.dataCheck) :
    matchingData h (.data bytes st) = some (bytes, uncorrectable st) := if_pos hcheck

/-- A data read that fails, or whose line does not carry the header's check, leaves nothing to restore (R39). -/
theorem matchingData_eq_none {h : Header} {resp : MemResponse} (line : Addr)
    (hbad : resp.failsRead = true ∨ ∃ bytes st, resp = .data bytes st ∧ crc32 bytes ≠ h.dataCheck) :
    matchingData h (replyOf (.read line) resp) = none := by
  by_cases hfails : resp.failsRead = true
  · obtain hreply | hreply := replyOf_failsRead (l := line) hfails <;> rw [hreply] <;> rfl
  · obtain hfailed | ⟨bytes, st, rfl, hcheck⟩ := hbad
    · exact absurd hfailed hfails
    · have hnamed : statusesNamed st = true := by simpa [MemResponse.failsRead] using hfails
      simp only [replyOf_read_data, hnamed, if_true, matchingData, if_neg hcheck]

section playData

variable {s : State} {header : Option Line} {r : Reply}

theorem playDataAnswered_of_write {h : Header} {image : Line} {poison : WordMask} {good : Bool}
    (hheader : s.playExpected.header header = some h) (himage : restoreImage (some h) r = .write image poison good) :
    playDataAnswered header r s = setStep (.playWrite h.line image poison good) s := by
  simp only [playDataAnswered, hheader, himage]

theorem playDataAnswered_of_noHeader (hheader : s.playExpected.header header = none) :
    playDataAnswered header r s = playStepEnds false s := by
  simp only [playDataAnswered, hheader]

end playData

/-- The state with one line of playback counted against its epoch and in the outcome, and the next step begun. -/
def State.linePlayed (good : Bool) (s : State) : State :=
  { s with startup := { s.startup with
    unfinished := s.startup.unfinished.map fun u =>
      if u.epoch = s.playExpected.epoch then
        (if good then { u with restored := u.restored + 1 } else { u with failed := u.failed + 1 })
      else u
    linesRestored := if good then satInc s.startup.linesRestored else s.startup.linesRestored
    linesFailed := if good then s.startup.linesFailed else satInc s.startup.linesFailed
    position := s.startup.position + 1
    step := if s.startup.position + 1 < s.startup.playback.length then .playHeader else .marker 0 } }

/-- The end of a restore step of playback counts its line; a line that is not good raises RESTORE_FAILS. -/
theorem playStepEnds_eq (good : Bool) (s : State) :
    playStepEnds good s = if good then s.linePlayed good else count .restoreFails (s.linePlayed good) := by
  cases good <;> rfl

/-- Settles O11: the two reads of a playback restore step. -/
theorem playbackReadsFormTheRestoreWrite : Obligations.PlaybackReadsFormTheRestoreWrite := by
  unfold Obligations.PlaybackReadsFormTheRestoreWrite
  refine ⟨fun s issue line resp hcarries hstep => ?_, ?_⟩
  · refine congrArg _ ((takeResponse_of_startup hcarries _).trans ?_)
    rw [startupAnswered_of_playHeader (s := releasePort s) hstep, playHeaderAnswered, soundLine_replyOf_read]
    cases resp <;> rfl
  · intro s issue line header resp hcarries hstep x usable
    have hexec : exec (.playbackDataReadResponse issue resp) s =
        .next (afterEvent (playDataAnswered header (replyOf (.read line) resp) (releasePort s))) := by
      refine congrArg _ ((takeResponse_of_startup hcarries _).trans ?_)
      rw [startupAnswered_of_playData (s := releasePort s) hstep]
    have hexpected : (releasePort s).playExpected = x := rfl
    have husable (h : Header) : usable h ↔ (releasePort s).playExpected.header header = some h :=
      (header_eq_some_iff x header h).symm
    refine ⟨fun h hheader => ⟨fun bytes st hdata hnamed hcheck => ?good, fun hbad => ?bad⟩, fun hnone => ?noHeader⟩
    case good =>
      subst hdata
      refine next_afterEvent_of_eq hexec (playDataAnswered_of_write ((husable h).1 hheader) ?_)
      rw [replyOf_read_data, if_pos hnamed]
      exact restoreImage_of_matching (matchingData_of_check hcheck)
    case bad =>
      exact next_afterEvent_of_eq hexec (playDataAnswered_of_write ((husable h).1 hheader)
        (restoreImage_of_notMatching (matchingData_eq_none line hbad)))
    case noHeader =>
      have hheader : (releasePort s).playExpected.header header = none :=
        Option.eq_none_iff_forall_ne_some.2 fun h hh => hnone ⟨h, (husable h).2 hh⟩
      exact next_afterEvent_of_eq hexec ((playDataAnswered_of_noHeader hheader).trans (playStepEnds_eq false _))

theorem markerDone_of_more {s : State} {i : Nat} (hmore : i + 1 < s.startup.unfinished.length) :
    markerDone i s = { s with startup := { s.startup with
      rolledBack := satInc s.startup.rolledBack, step := .marker (i + 1) } } := if_pos hmore

theorem markerDone_of_last {s : State} {i : Nat} (hlast : ¬ i + 1 < s.startup.unfinished.length) :
    markerDone i s = enterRun (becomeReady
      { s with startup := { s.startup with rolledBack := satInc s.startup.rolledBack } }) := if_neg hlast

/-- Settles O12: the writes of playback, durable and failed. -/
theorem playbackWritesDurableGoOnToRun : Obligations.PlaybackWritesDurableGoOnToRun := by
  unfold Obligations.PlaybackWritesDurableGoOnToRun
  refine ⟨?restore, ?marker⟩
  case restore =>
    intro s issue q line image poison good hcarries hwrite hstep u
    have hexec (resp : MemResponse) : exec (.playbackRestoreWriteDurable issue resp) s =
        .next (afterEvent (playWriteAnswered good (replyOf q resp) (releasePort s))) := by
      refine congrArg _ ((takeResponse_of_startup hcarries _).trans ?_)
      rw [startupAnswered_of_playWrite (s := releasePort s) hstep]
    refine ⟨next_afterEvent_of_eq (hexec _) ?_, fun resp hfails => next_afterEvent_of_eq (hexec _) ?_⟩
    · rw [replyOf_done_of_isWrite hwrite]
      exact playStepEnds_eq good (releasePort s)
    · obtain hreply | hreply := replyOf_failsWrite hwrite hfails <;> rw [hreply] <;> rfl
  case marker =>
    intro s issue q i hcarries hwrite hstep
    have hexec (resp : MemResponse) : exec (.recoveryMarkerDurable issue resp) s =
        .next (afterEvent (markerAnswered i (replyOf q resp) (releasePort s))) := by
      refine congrArg _ ((takeResponse_of_startup hcarries _).trans ?_)
      rw [startupAnswered_of_marker (s := releasePort s) hstep]
    have hdone : markerAnswered i (replyOf q .done) (releasePort s) = markerDone i (releasePort s) := by
      rw [replyOf_done_of_isWrite hwrite]
      rfl
    refine ⟨fun hmore => ?_, fun hlast hpatrol => ?_, fun resp hfails => ?_⟩
    · exact next_afterEvent_of_eq (hexec _) (hdone.trans (markerDone_of_more (s := releasePort s) hmore))
    · refine next_afterEvent_of_eq (hexec _) (hdone.trans ((markerDone_of_last (s := releasePort s) hlast).trans ?_))
      exact enterRun_becomeReady hpatrol
    · refine next_afterEvent_of_eq (hexec _) ?_
      obtain hreply | hreply := replyOf_failsWrite hwrite hfails <;> rw [hreply] <;> rfl

end Sys2Proof.Machine

/-! PROOF. O16, O17, O59: what the entry of an accepted write holds, the acceptance of bare writes and captures, and the
part after reset. -/

namespace Sys2Proof.Machine

/-! ## The part after reset (R155) -/

theorem reset_coherent : State.reset.Coherent := by
  refine ⟨by decide, by decide, by decide, by decide, by decide, by decide, by decide, ?_, ?_, by decide, ?_, ?_, ?_, ?_, ?_⟩
    <;> simp [State.reset, Dport.reset]

theorem reset_startupCoherent : State.reset.StartupCoherent := by
  refine ⟨?_, ?_, ?_, ?_, ?_⟩ <;> simp [State.stepAllowed, State.reset, Dport.reset, Startup.reset, Journal.reset, Patrol.reset]

theorem reset_owes (k : Requester) (opcode : BitVec 4) (step : JobStep → Prop) : ¬ State.reset.owes k opcode step := by
  simp [State.owes, State.closeQueued, State.reset]

theorem reset_jobsCoherent : State.reset.JobsCoherent where
  fits := by simp [State.reset]
  unit := trivial
  inFlight := by decide
  decided := by decide
  oneStatus := by decide
  dirty := by decide
  formats := fun k h => absurd h (reset_owes k _ _)
  formatsOnce := fun k _ h => absurd h (reset_owes k _ _)
  places := by decide

theorem reset_accounted : State.reset.Accounted where
  ring := by simp [State.reset, Journal.reset]
  ringHeld := by decide
  ready := by decide
  tailAtHead := by decide
  space := by decide
  closed := by simp [State.reset, Journal.reset]
  balance := by decide
  limit := by decide
  opening := fun k => iff_of_false (by revert k; decide) (reset_owes k _ _)
  opened := by decide
  written := by decide
  epoch := by decide
  closing := fun k => iff_of_false (by revert k; decide) (reset_owes k _ _)
  aborting := fun k => iff_of_false (by revert k; decide) (reset_owes k _ _)
  endsLast := by simp [State.reset]
  landed := by simp [State.reset]
  captures := by simp [State.reset]
  capturing := by simp [State.reset]
  captureOnce := by decide
  recorded := by simp [State.reset]
  restoring := by simp [State.reset]
  restoreLine := by simp [State.reset]
  restored := by simp [State.reset]
  begun := by simp [State.reset]
  issued := fun h => absurd h (by decide)

/-- Settles O59: after reset nothing is queued, held, begun or outstanding, and every context is CLOSED. -/
theorem resetStateIsCoherent : Obligations.ResetStateIsCoherent :=
  ⟨reset_coherent, reset_startupCoherent, by decide, reset_jobsCoherent, reset_accounted⟩

/-! ## What a posted entry holds (R44, R64, R118, R119) -/

/-- The byte mask marks the request's bytes. -/
theorem getLsbD_byteMaskAt {off n i : Nat} (hfits : off + n ≤ 64) (hi : i < 64) :
    (byteMaskAt off n).getLsbD i = true ↔ off ≤ i ∧ i < off + n := by
  simp only [byteMaskAt, BitVec.getLsbD_shiftLeft, BitVec.getLsbD_ushiftRight, BitVec.getLsbD_allOnes, hi, decide_true,
    Bool.true_and, Bool.and_eq_true, Bool.not_eq_true', decide_eq_false_iff_not, decide_eq_true_eq]
  omega

theorem getLsbD_bytesToLine (bytes : List Byte) {m : Nat} (hm : m < 512) :
    (bytesToLine bytes).getLsbD m = (bytes[m / 8]?.getD 0).getLsbD (m % 8) := by
  induction bytes generalizing m with
  | nil => simp [bytesToLine]
  | cons b bs ih =>
    simp only [bytesToLine, BitVec.getLsbD_or, BitVec.getLsbD_shiftLeft, BitVec.getLsbD_setWidth, hm, decide_true,
      Bool.true_and]
    by_cases hfirst : m < 8
    · have hdiv : m / 8 = 0 := by omega
      have hmod : m % 8 = m := by omega
      simp [hfirst, hdiv, hmod]
    · have hdiv : m / 8 = (m - 8) / 8 + 1 := by omega
      have hmod : m % 8 = (m - 8) % 8 := by omega
      have hb : b.getLsbD m = false := BitVec.getLsbD_of_ge _ _ (by omega)
      rw [ih (by omega), hdiv, hmod]
      simp [hfirst, hb]

/-- The line that carries bytes from byte `off` on has them there, and zeros elsewhere. -/
theorem lineByte_placeBytes {off i : Nat} {bytes : List Byte} (hfits : off + bytes.length ≤ 64) (hi : i < 64) :
    (placeBytes off bytes).extractLsb' (8 * i) 8 = (if off ≤ i then bytes[i - off]?.getD 0 else 0) := by
  apply BitVec.eq_of_getLsbD_eq
  intro m hm
  simp only [placeBytes, BitVec.getLsbD_extractLsb', BitVec.getLsbD_shiftLeft, hm, decide_true, Bool.true_and]
  have hin : 8 * i + m < 512 := by omega
  by_cases hoff : off ≤ i
  · have hnot : ¬ 8 * i + m < 8 * off := by omega
    have hdiv : (8 * i + m - 8 * off) / 8 = i - off := by omega
    have hmod : (8 * i + m - 8 * off) % 8 = m := by omega
    simp [hin, hnot, hoff, getLsbD_bytesToLine bytes (show 8 * i + m - 8 * off < 512 by omega), hdiv, hmod]
  · have hbelow : 8 * i + m < 8 * off := by omega
    simp [hbelow, hoff]

theorem length_filter_mod_two {α : Type} (p : α → Bool) (l : List α) :
    (l.filter p).length % 2 = if l.foldr (fun x odd => p x ^^ odd) false then 1 else 0 := by
  induction l with
  | nil => rfl
  | cons x xs ih =>
    simp only [List.filter_cons, List.foldr_cons]
    by_cases hx : p x = true <;> by_cases hxs : xs.foldr (fun x odd => p x ^^ odd) false = true <;>
      simp_all <;> omega

theorem oddOnes_eq_foldr (b : Byte) : oddOnes b = (List.range 8).foldr (fun n odd => b.getLsbD n ^^ odd) false := by
  simp [oddOnes, List.range_succ]

/-- A byte has bad parity when its nine bits hold an even number of ones. -/
theorem badParity_iff (b : BusByte) : badParity b = true ↔
    (((List.range 8).filter fun n => b.value.getLsbD n).length + (if b.parity then 1 else 0)) % 2 = 0 := by
  have hcount := length_filter_mod_two (fun n => b.value.getLsbD n) (List.range 8)
  rw [← oddOnes_eq_foldr] at hcount
  simp only [badParity, parityBit, bne_iff_ne]
  cases hodd : oddOnes b.value <;> cases hparity : b.parity <;> simp [hodd] at hcount ⊢ <;> omega

/-- A word is damaged when one of its bytes has bad parity. -/
theorem getLsbD_damagedWords {bytes : List BusByte} {off word : Nat} (hfits : off + bytes.length ≤ 64) (hword : word < 16) :
    (damagedWords off bytes).getLsbD word = true ↔
      ∃ i b, bytes[i]? = some b ∧ (off + i) / 4 = word ∧ badParity b = true := by
  induction bytes generalizing off with
  | nil => simp [damagedWords]
  | cons c cs ih =>
    have hhead : (if badParity c then 1#16 <<< (off / 4) else 0).getLsbD word = true ↔
        off / 4 = word ∧ badParity c = true := by
      cases badParity c
      · simp
      · simp [hword]
        omega
    rw [damagedWords, BitVec.getLsbD_or, Bool.or_eq_true, hhead, ih (by simp at hfits; omega)]
    constructor
    · rintro (⟨hplace, hbad⟩ | ⟨i, b, hget, hplace, hbad⟩)
      · exact ⟨0, c, rfl, hplace, hbad⟩
      · exact ⟨i + 1, b, hget, by omega, hbad⟩
    · rintro ⟨i, b, hget, hplace, hbad⟩
      cases i with
      | zero =>
        obtain rfl : c = b := by simpa using hget
        exact .inl ⟨hplace, hbad⟩
      | succ i => exact .inr ⟨i, b, by simpa using hget, by omega, hbad⟩

/-! ## An accepted write (R60, R61) -/

section acceptedWrite

variable {s : State} {w : WriteRequest}

theorem judge_of_accepted {a : Admitted} (hrun : s.device = .run)
    (hshape : w.bytes.length ∈ [1, 2, 4, 8, 16, 32, 64] ∧ w.address.toNat % w.bytes.length = 0)
    (hclass : s.classCheck w = .ok a) (hroom : s.queue.entries.length < 16) : s.judge w = .accept a := by
  have hfull : s.queueFull = false := decide_eq_false (Nat.not_le.mpr hroom)
  simp only [State.judge, hrun, malformed_eq_false hshape, hclass, hfull, Bool.false_eq_true, if_false]

theorem exec_writeRequest_of_accepted {a : Admitted} (hfree : s.uport.inProgress = none) (hjudge : s.judge w = .accept a) :
    exec (.writeRequest w) s = .next (settle (acceptWrite w a s)) := by
  rw [exec_writeRequest_of_free hfree, judgeWrite, hjudge]

theorem reportParity_eq (poison : WordMask) (addr : Addr) (s : State) :
    reportParity poison addr s = if poison = 0 then s else raiseError .writeParity addr (count .parityErrors s) := rfl

end acceptedWrite

/-- Settles O16: the entry's three masks by their bits, and the acceptance by the judgement. -/
theorem bareWriteIsPosted : Obligations.BareWriteIsPosted := by
  unfold Obligations.BareWriteIsPosted
  refine ⟨fun off n i => getLsbD_byteMaskAt, fun off bytes i => lineByte_placeBytes, fun off bytes word hfits hword => ?_, ?_⟩
  · simp only [getLsbD_damagedWords hfits hword, badParity_iff]
  · intro s w context hrun hfree hroom hsize haligned hclass off poison entry posted
    rw [exec_writeRequest_of_accepted hfree (judge_of_accepted hrun ⟨hsize, haligned⟩ hclass hroom)]
    rfl

/-- Settles O17: the claim and the insert, then the acceptance of its entry. -/
theorem captureClaimsInsertsAndIsPosted : Obligations.CaptureClaimsInsertsAndIsPosted := by
  unfold Obligations.CaptureClaimsInsertsAndIsPosted
  intro s w hrun hfree hroom hsize haligned hclass k off line poison entry claimed posted
  rw [exec_writeRequest_of_accepted hfree (judge_of_accepted hrun ⟨hsize, haligned⟩ hclass hroom)]
  have hentry : appendEntry (s.entryOf w .capture) (makeEffects w .capture s) = { claimed with
      held := s.held ++ [⟨line, k, .capturing, none⟩], queue := ⟨s.queue.entries ++ [entry], s.queue.nextNumber + 1⟩ } := by
    have hheld : (claim w.requester 1 s).held = s.held := by simp
    have hqueue : (claim w.requester 1 s).queue = s.queue := by simp
    simp only [makeEffects, insertHeld, appendEntry, hheld, hqueue]
    rfl
  rw [acceptWrite, hentry]
  rfl

end Sys2Proof.Machine

/-! PROOF. O19: the window rules in their order, and the refusals of the words that are not command words. -/

namespace Sys2Proof.Machine

/-! ## The window map by offset (R182, Table 12-4) -/

theorem windowWord_of_deviceOwned {n : Nat}
    (h : 0x40 ≤ n ∧ n < 0x80 ∨ 0x240 ≤ n ∧ n < 0x280 ∨ 0x300 ≤ n ∧ n < 0x380) : windowWord n = .deviceOwned := by
  unfold windowWord
  obtain h | h | h := h <;> repeat rw [if_neg (by omega)]
  all_goals rw [if_pos (by omega)]

theorem windowWord_of_unlisted {n : Nat}
    (h : 0x1C ≤ n ∧ n < 0x40 ∨ 0x84 ≤ n ∧ n < 0x100 ∨ 0x180 ≤ n ∧ n < 0x200 ∨ 0x280 ≤ n ∧ n < 0x300 ∨ 0x380 ≤ n) :
    windowWord n = .unlisted := by
  unfold windowWord
  obtain h | h | h | h | h := h <;> repeat rw [if_neg (by omega)]
  all_goals rw [if_pos (by omega)]

/-- The fourth word of each command slot is unlisted. -/
theorem windowWord_of_slotEnd {n : Nat} (hlow : 0x200 ≤ n) (hhigh : n < 0x240) (hplace : n % 16 = 12) :
    windowWord n = .unlisted := by
  unfold windowWord
  repeat rw [if_neg (by omega)]
  rw [if_pos hhigh, dif_neg (by omega)]

theorem windowWord_of_command {n : Nat} (hlow : 0x200 ≤ n) (hhigh : n < 0x240) (haligned : n % 4 = 0)
    (hplace : n % 16 ≠ 12) :
    ∃ word : Fin 3, windowWord n = .command (Fin.ofNat 4 ((n - 0x200) / 16)) word := by
  have hword : (n - 0x200) % 16 / 4 < 3 := by omega
  refine ⟨⟨(n - 0x200) % 16 / 4, hword⟩, ?_⟩
  unfold windowWord
  rw [if_neg (by omega), if_neg (by omega), if_neg (by omega), if_neg (by omega), if_neg (by omega), if_neg (by omega),
    if_neg (by omega), if_pos hhigh, dif_pos hword]

/-- The words the host writes that belong to no slot. -/
def WindowWord.isShared : WindowWord → Bool
  | .config _ => true
  | .acknowledge => true
  | .regionA _ => true
  | .regionB _ => true
  | .command _ _ => false
  | .deviceOwned => false
  | .unlisted => false

theorem windowWord_isShared {n : Nat} (h : n < 0x1C ∨ n = 0x80 ∨ 0x100 ≤ n ∧ n < 0x180) :
    (windowWord n).isShared = true := by
  have hall : ∀ i : Fin 7, (ConfigWord.all[i.val]?).isSome = true := by decide
  obtain hconfig | rfl | hregion := h
  · obtain ⟨c, hc⟩ := Option.isSome_iff_exists.1 (hall ⟨n / 4, by omega⟩)
    simp only [windowWord, if_pos hconfig, hc]
    rfl
  · rfl
  · unfold windowWord
    repeat rw [if_neg (by omega)]
    rw [if_pos (by omega)]
    split <;> rfl

/-! ## The window rules in their order (R58) -/

section windowWrite

variable {s : State} {k : Requester} {n : Nat} {bytes : List BusByte}

theorem classCheck_of_windowFault {f : FaultReason} (hn : n < 4096)
    (hcheck : s.windowCheck ⟨k, s.windowAddr n, bytes⟩ = .error f) :
    s.classCheck ⟨k, s.windowAddr n, bytes⟩ = .error f := by
  simp only [State.classCheck, State.classOf, inWindow_windowAddr s n hn, if_true, hcheck]

theorem windowCheck_of_size (hsize : bytes.length ≠ 4) :
    s.windowCheck ⟨k, s.windowAddr n, bytes⟩ = .error .malformed := if_pos hsize

theorem windowCheck_of_deviceOwned (hn : n < 4096) (hsize : bytes.length = 4) (hword : windowWord n = .deviceOwned) :
    s.windowCheck ⟨k, s.windowAddr n, bytes⟩ = .error .protectedWord := by
  simp only [State.windowCheck, hsize, ne_eq, not_true_eq_false, if_false, windowOffset_windowAddr s n hn, hword]

theorem windowCheck_of_unlisted (hn : n < 4096) (hsize : bytes.length = 4) (hword : windowWord n = .unlisted) :
    s.windowCheck ⟨k, s.windowAddr n, bytes⟩ = .error .malformed := by
  simp only [State.windowCheck, hsize, ne_eq, not_true_eq_false, if_false, windowOffset_windowAddr s n hn, hword]

theorem windowCheck_of_command {j : Requester} {word : Fin 3} (hn : n < 4096) (hsize : bytes.length = 4)
    (hword : windowWord n = .command j word) :
    s.windowCheck ⟨k, s.windowAddr n, bytes⟩ = s.hostWordCheck ⟨k, s.windowAddr n, bytes⟩ (.command j word) := by
  simp only [State.windowCheck, hsize, ne_eq, not_true_eq_false, if_false, windowOffset_windowAddr s n hn, hword]

theorem windowCheck_of_foreign {j : Requester} {word : Fin 3} (hn : n < 4096) (hsize : bytes.length = 4)
    (hword : windowWord n = .command j word) (hforeign : k ≠ j) :
    s.windowCheck ⟨k, s.windowAddr n, bytes⟩ = .error .protectedWord := by
  rw [windowCheck_of_command hn hsize hword]
  simp only [State.hostWordCheck, bne_iff_ne, ne_eq, hforeign, not_false_eq_true, if_true]

theorem hostWordCheck_of_parity {word : WindowWord} {w : WriteRequest} (hshared : word.isShared = true)
    (hparity : (s.settings.parityCheck && w.bytes.any badParity) = true) : s.hostWordCheck w word = .error .parity := by
  cases word <;> simp [WindowWord.isShared] at hshared <;> simp only [State.hostWordCheck, hparity, if_true] <;> rfl

theorem windowCheck_of_sharedParity (hn : n < 4096) (hsize : bytes.length = 4) (hshared : (windowWord n).isShared = true)
    (hparity : (s.settings.parityCheck && bytes.any badParity) = true) :
    s.windowCheck ⟨k, s.windowAddr n, bytes⟩ = .error .parity := by
  have hcheck := hostWordCheck_of_parity (s := s) (w := ⟨k, s.windowAddr n, bytes⟩) hshared hparity
  cases hword : windowWord n <;> rw [hword] at hshared hcheck <;> simp [WindowWord.isShared] at hshared <;>
    simp only [State.windowCheck, hsize, ne_eq, not_true_eq_false, if_false, windowOffset_windowAddr s n hn, hword] <;>
    exact hcheck

theorem windowCheck_of_ownParity {word : Fin 3} (hn : n < 4096) (hsize : bytes.length = 4)
    (hword : windowWord n = .command k word) (hparity : (s.settings.parityCheck && bytes.any badParity) = true) :
    s.windowCheck ⟨k, s.windowAddr n, bytes⟩ = .error .parity := by
  rw [windowCheck_of_command hn hsize hword]
  simp only [State.hostWordCheck, bne_self_eq_false, Bool.false_eq_true, if_false, hparity, if_true]

/-- A fault of the window rules counts nothing. -/
theorem countFault_of_windowFault {f : FaultReason} (hf : f = .malformed ∨ f = .protectedWord ∨ f = .parity) (s : State) :
    countFault f s = s := by
  obtain rfl | rfl | rfl := hf <;> rfl

/-- A window write that the rules refuse is answered FAULT, and nothing follows. -/
theorem exec_windowWrite_of_fault {off : BitVec 12} {f : FaultReason} (hfree : s.uport.inProgress = none)
    (hsettled : s.Settled) (hcount : countFault f s = s)
    (hjudge : s.judge ⟨k, s.windowAddr off.toNat, bytes⟩ = .fault f) :
    exec (.windowWrite k off bytes) s = .next (giveAnswer k (.fault f) s) := by
  have h := exec_writeRequest_of_fault hfree hsettled hjudge
  rw [hcount] at h
  exact h

theorem windowAddr_mod_four (n : Nat) (hn : n < 4096) : (s.windowAddr n).toNat % 4 = n % 4 := by
  rw [toNat_windowAddr s n hn, State.windowBase]
  omega

/-- Of window writes that are not one aligned 4-byte write, some fail the shape check and the others the window rules. -/
theorem judge_of_windowShape (hrun : s.device = .run) (hn : n < 4096) (hshape : bytes.length ≠ 4 ∨ n % 4 ≠ 0) :
    s.judge ⟨k, s.windowAddr n, bytes⟩ = .fault .malformed := by
  cases hmalformed : malformed (s.windowAddr n) bytes.length with
  | true => exact judge_of_malformed hrun hmalformed
  | false =>
    have hsize : bytes.length ≠ 4 := by
      rintro h
      have hbad : malformed (s.windowAddr n) 4 = true :=
        (malformed_iff _ _).2 fun hok => hshape.elim (· h) (· (windowAddr_mod_four n hn ▸ hok.2))
      rw [h, hbad] at hmalformed
      exact absurd hmalformed (by simp)
    exact judge_of_classFault hrun hmalformed (classCheck_of_windowFault hn (windowCheck_of_size hsize))

theorem judge_of_windowFault {f : FaultReason} (hrun : s.device = .run) (hn : n < 4096) (hsize : bytes.length = 4)
    (haligned : n % 4 = 0) (hcheck : s.windowCheck ⟨k, s.windowAddr n, bytes⟩ = .error f) :
    s.judge ⟨k, s.windowAddr n, bytes⟩ = .fault f :=
  judge_of_classFault hrun (by rw [hsize]; exact malformed_windowAddr s n hn haligned) (classCheck_of_windowFault hn hcheck)

end windowWrite

/-! ## The word's own checks (R52, R53, R54, R98, R100) -/

section hostWord

variable {s : State} {c : Instr} {off : Nat} {w : WordWrite}

/-- A host-written word of the requester's own at its place: not device-owned, not unlisted, of no other slot. -/
structure OwnWord (off : Nat) (w : WordWrite) : Prop where
  below : off < 4096
  aligned : off % 4 = 0
  notDeviceOwned : windowWord off ≠ .deviceOwned
  notUnlisted : windowWord off ≠ .unlisted
  own : ∀ k n, windowWord off = .command k n → w.requester = k

theorem OwnWord.of_shared (hbelow : off < 4096) (haligned : off % 4 = 0) (h : (windowWord off).isShared = true) :
    OwnWord off w where
  below := hbelow
  aligned := haligned
  notDeviceOwned hword := by simp [hword, WindowWord.isShared] at h
  notUnlisted hword := by simp [hword, WindowWord.isShared] at h
  own k n hword := by simp [hword, WindowWord.isShared] at h

/-- A word that fails its own check is answered FAULT, full queue or not, and nothing follows. -/
theorem exec_of_wordFault {f : FaultReason} (hrow : c.wordAt = some (off, w)) (hown : OwnWord off w) (h : s.judgesWord w)
    (hsettled : s.Settled) (hcount : countFault f s = s) (hcheck : s.wordCheck (windowWord off) w.value = .error f) :
    exec c s = .next (giveAnswer w.requester (.fault f) s) := by
  have hrefused := wordWriteAt_of_refused h hown.below hown.aligned hown.notDeviceOwned hown.notUnlisted hown.own hcheck
  rw [hcount, giveAnswer_eq_recorded, settle_recorded_of_settled _ _ hsettled, ← giveAnswer_eq_recorded] at hrefused
  rw [exec_of_wordAt hrow, hrefused]

/-- A word that passes its own check on a full queue is answered RETRY, and nothing follows. -/
theorem exec_of_wordRetry {e : WindowEffect} (hrow : c.wordAt = some (off, w)) (hown : OwnWord off w) (h : s.judgesWord w)
    (hsettled : s.Settled) (hfull : s.queue.entries.length = 16)
    (hcheck : s.wordCheck (windowWord off) w.value = .ok e) :
    exec c s = .next (giveAnswer w.requester .retry s) := by
  have hclass : s.classCheck ⟨w.requester, s.windowAddr off, wordBytes w⟩ = .ok (.window e) := by
    rw [classCheck_windowAddr h hown.below hown.notDeviceOwned hown.notUnlisted hown.own, hcheck]
  have hjudge := judge_of_queueFull h.1 (malformed_windowAddr s off hown.below hown.aligned) hclass
    (queueFull_of_length hfull)
  rw [exec_of_wordAt hrow]
  exact exec_writeRequest_of_retry h.2.1 hsettled hjudge

/-- A word that is refused MALFORMED exactly for a bad value. -/
theorem exec_of_wordChecked {bad : Prop} (hrow : c.wordAt = some (off, w)) (hown : OwnWord off w) (h : s.judgesWord w)
    (hsettled : s.Settled) (hbad : bad → s.wordCheck (windowWord off) w.value = .error .malformed)
    (hgood : ¬ bad → ∃ e, s.wordCheck (windowWord off) w.value = .ok e) :
    (bad → exec c s = .next (giveAnswer w.requester (.fault .malformed) s)) ∧
      (¬ bad → s.queue.entries.length = 16 → exec c s = .next (giveAnswer w.requester .retry s)) := by
  refine ⟨fun hb => exec_of_wordFault hrow hown h hsettled rfl (hbad hb), fun hb hfull => ?_⟩
  obtain ⟨e, he⟩ := hgood hb
  exact exec_of_wordRetry hrow hown h hsettled hfull he

end hostWord

/-- Bits 31 to 8 are zero exactly in a value of one byte. -/
theorem validMarks_iff (v : Word) : validMarks v = true ↔ v.toNat ≤ 255 := by
  rw [validMarks, beq_iff_eq]
  constructor
  · intro h
    have := congrArg BitVec.toNat h
    simp [Nat.shiftRight_eq_div_pow] at this
    have := v.isLt
    omega
  · intro h
    apply BitVec.eq_of_toNat_eq
    simp [Nat.shiftRight_eq_div_pow]
    omega

/-- The values a configuration word refuses (Table 6-2). -/
def ConfigWord.outOfRange (v : Nat) : ConfigWord → Prop
  | .stagedBase => False
  | .stagedSlots => False
  | .parityCheck => 1 < v
  | .discardInterval => v = 0 ∨ 255 < v
  | .patrolInterval => 65535 < v
  | .lowMark => 65535 < v
  | .interruptMask => 255 < v

theorem accepts_iff (c : ConfigWord) (v : Word) : c.accepts v = true ↔ ¬ c.outOfRange v.toNat := by
  cases c with
  | parityCheck =>
    simp only [ConfigWord.accepts, ConfigWord.outOfRange, Bool.or_eq_true, beq_iff_eq, not_lt]
    constructor
    · rintro (rfl | rfl) <;> decide
    · intro h
      obtain h0 | h1 : v.toNat = 0 ∨ v.toNat = 1 := by omega
      · exact .inl (BitVec.eq_of_toNat_eq h0)
      · exact .inr (BitVec.eq_of_toNat_eq h1)
  | interruptMask => simp [ConfigWord.accepts, ConfigWord.outOfRange, validMarks_iff]
  | discardInterval => simp [ConfigWord.accepts, ConfigWord.outOfRange]; omega
  | _ => simp [ConfigWord.accepts, ConfigWord.outOfRange]

section wordCheck

variable {s : State}

theorem wordCheck_config_of_outOfRange {c : ConfigWord} {v : Word} (h : c.outOfRange v.toNat) :
    s.wordCheck (.config c) v = .error .malformed :=
  if_neg fun hok => (accepts_iff c v).1 hok h

theorem wordCheck_config_of_inRange {c : ConfigWord} {v : Word} (h : ¬ c.outOfRange v.toNat) :
    s.wordCheck (.config c) v = .ok (.setting c v) :=
  if_pos ((accepts_iff c v).2 h)

theorem regionsLocked_iff : s.regionsLocked = true ↔
    (∃ k : Fin 4, s.contexts[k].state ≠ .closed) ∨ s.journal.state = .formatting := by
  have hclosed : s.allClosed = true ↔ ∀ k : Fin 4, s.contexts[k].state = .closed := by
    simp [State.allClosed, Vector.all_toList, Fin.forall_iff]
  rw [State.regionsLocked, Bool.or_eq_true, Bool.not_eq_true', ← Bool.not_eq_true, hclosed, not_forall, beq_iff_eq]

/-- The third group of word B's checks fails by the order of base and limit, the window, or the ring (R53). -/
theorem regionPlaced_iff (base limit : Addr) : s.regionPlaced base limit = true ↔
    base ≤ limit ∧ (limit.toNat + 64 ≤ s.windowBase ∨ s.windowBase + 4096 ≤ base.toNat) ∧
      ∀ g, s.journal.geometry = some g → limit.toNat + 64 ≤ g.base.toNat ∨ g.base.toNat + 128 * g.slots ≤ base.toNat := by
  simp only [State.regionPlaced, Bool.and_eq_true, decide_eq_true_eq, Bool.not_eq_true', and_assoc]
  refine and_congr_right fun hle => and_congr (lineSpan_apart_iff hle _ _) ?_
  rw [State.overlapsRing]
  cases s.journal.geometry with
  | none => simp
  | some g => simpa using lineSpan_apart_iff hle _ _

/-- The same of a region that ends with the line of an address: it meets neither the window nor the ring. -/
theorem regionPlaced_lineOf_iff (base v : Addr) : s.regionPlaced base (lineOf v) = true ↔
    ¬ (v.toNat / 64 * 64 < base.toNat ∨
      (base.toNat < s.windowBase + 4096 ∧ s.windowBase < v.toNat / 64 * 64 + 64) ∨
      ∃ g, s.journal.geometry = some g ∧
        (base.toNat < g.base.toNat + 128 * g.slots ∧ g.base.toNat < v.toNat / 64 * 64 + 64)) := by
  rw [regionPlaced_iff, BitVec.le_def, toNat_lineOf v]
  constructor
  · rintro ⟨hle, hwindow, hring⟩ (hbelow | ⟨hlow, hhigh⟩ | ⟨g, hg, hlow, hhigh⟩)
    · omega
    · omega
    · have := hring g hg
      omega
  · intro hno
    obtain ⟨hbelow, hwindow, hring⟩ := not_or.1 hno |>.imp_right not_or.1
    refine ⟨by omega, by omega, fun g hg => ?_⟩
    by_contra hmeets
    exact hring ⟨g, hg, by omega⟩

/-- What word B's value installs (R53). -/
theorem wordBInstall_of_mode {j : Fin 16} {v : Word} {mode : RegionMode} (hmode : v.toNat % 64 = mode.field)
    (hplaced : mode ≠ .off → s.regionPlaced s.regions[j].staged (lineOf v) = true) :
    s.wordBInstall j v = some ⟨s.regions[j].staged, lineOf v, mode, s.regions[j].staged⟩ := by
  simp only [State.wordBInstall, (wordBMode_eq_some_iff v mode).2 hmode]
  exact if_pos (or_iff_not_imp_left.2 hplaced)

theorem wordBInstall_of_noMode {j : Fin 16} {v : Word} (hmode : 4 ≤ v.toNat % 64) : s.wordBInstall j v = none := by
  have hnone : wordBMode v = none := by
    rw [Option.eq_none_iff_forall_ne_some]
    intro mode h
    have := (wordBMode_eq_some_iff v mode).1 h
    cases mode <;> simp [RegionMode.field] at this <;> omega
  simp only [State.wordBInstall, hnone]

theorem wordBInstall_of_notPlaced {j : Fin 16} {v : Word} (hmode : v.toNat % 64 ≠ 0)
    (hplaced : s.regionPlaced s.regions[j].staged (lineOf v) = false) : s.wordBInstall j v = none := by
  cases h : wordBMode v with
  | none => simp only [State.wordBInstall, h]
  | some mode =>
    have hnotOff : mode ≠ .off := by
      rintro rfl
      exact hmode ((wordBMode_eq_some_iff v .off).1 h)
    simp only [State.wordBInstall, h]
    exact if_neg (not_or.2 ⟨hnotOff, fun hok => absurd (hplaced.symm.trans hok) (by decide)⟩)

end wordCheck

/-- The row of a shared window word at its place. -/
theorem OwnWord.of_isShared {w : WordWrite} {n : Nat} (haligned : n % 4 = 0)
    (h : n < 0x1C ∨ n = 0x80 ∨ 0x100 ≤ n ∧ n < 0x180) : OwnWord n w :=
  .of_shared (by omega) haligned (windowWord_isShared h)

/-- A configuration word's row is refused MALFORMED exactly out of its range. -/
theorem exec_of_configChecked {s : State} {i : Instr} {w : WordWrite} (c : ConfigWord)
    (hrow : i.wordAt = some (4 * c.index, w)) (h : s.judgesWord w) (hsettled : s.Settled) :
    (c.outOfRange w.value.toNat → exec i s = .next (giveAnswer w.requester (.fault .malformed) s)) ∧
      (¬ c.outOfRange w.value.toNat → s.queue.entries.length = 16 → exec i s = .next (giveAnswer w.requester .retry s)) := by
  have hword : windowWord (4 * c.index) = .config c := by rw [← configOffset_eq, windowWord_configOffset]
  have hown : OwnWord (4 * c.index) w := .of_isShared (by omega) (.inl (by cases c <;> decide))
  refine exec_of_wordChecked hrow hown h hsettled (fun hbad => ?_) (fun hgood => ⟨.setting c w.value, ?_⟩) <;> rw [hword]
  · exact wordCheck_config_of_outOfRange hbad
  · exact wordCheck_config_of_inRange hgood

theorem wordCheck_region_of_locked {s : State} (h : s.regionsLocked = true) (j : Fin 16) (v : Word) :
    s.wordCheck (.regionA j) v = .error .regionLocked ∧ s.wordCheck (.regionB j) v = .error .regionLocked :=
  ⟨if_pos h, if_pos h⟩

theorem wordCheck_regionA_of_unlocked {s : State} (h : s.regionsLocked = false) (j : Fin 16) (v : Word) :
    s.wordCheck (.regionA j) v = if isLineAddress v then .ok (.stageBase j v) else .error .malformed := by
  simp only [State.wordCheck, h, Bool.false_eq_true, if_false]

theorem wordCheck_regionB_of_install {s : State} {j : Fin 16} {v : Word} {r : Region} (h : s.regionsLocked = false)
    (hinstall : s.wordBInstall j v = some r) : s.wordCheck (.regionB j) v = .ok (.install j r) := by
  simp only [State.wordCheck, h, Bool.false_eq_true, if_false, hinstall]

theorem wordCheck_regionB_of_noInstall {s : State} {j : Fin 16} {v : Word} (h : s.regionsLocked = false)
    (hinstall : s.wordBInstall j v = none) : s.wordCheck (.regionB j) v = .error .malformed := by
  simp only [State.wordCheck, h, Bool.false_eq_true, if_false, hinstall]

theorem exists_field_of_lt {n : Nat} (h : n < 4) : ∃ mode : RegionMode, n = mode.field := by
  obtain rfl | rfl | rfl | rfl : n = 0 ∨ n = 1 ∨ n = 2 ∨ n = 3 := by omega
  exacts [⟨.off, rfl⟩, ⟨.logged, rfl⟩, ⟨.guarded, rfl⟩, ⟨.readonly, rfl⟩]

/-- Settles O19: the shape and the window rules, each row as WINDOW_WRITE, and the words' own checks. -/
theorem refusedWindowWritesChangeNothing : Obligations.RefusedWindowWritesChangeNothing := by
  unfold Obligations.RefusedWindowWritesChangeNothing
  refine ⟨?rules, ?rows, ?words⟩
  case rules =>
    intro s k off bytes hrun hfree hsettled n refused commandWord foreign
    have hn : n < 4096 := off.isLt
    have hfault (f : FaultReason) (hf : f = .malformed ∨ f = .protectedWord ∨ f = .parity) (hsize : bytes.length = 4)
        (haligned : n % 4 = 0) (hcheck : s.windowCheck ⟨k, s.windowAddr n, bytes⟩ = .error f) :
        exec (.windowWrite k off bytes) s = refused f :=
      exec_windowWrite_of_fault hfree hsettled (countFault_of_windowFault hf s)
        (judge_of_windowFault hrun hn hsize haligned hcheck)
    refine ⟨fun hshape => ?_, fun hsize haligned hplace => ?_, fun hsize haligned hplace => ?_,
      fun hsize haligned hforeign => ?_, fun hsize haligned hplace hparity hbad => ?_⟩
    · exact exec_windowWrite_of_fault hfree hsettled rfl (judge_of_windowShape hrun hn hshape)
    · exact hfault _ (by simp) hsize haligned (windowCheck_of_deviceOwned hn hsize (windowWord_of_deviceOwned hplace))
    · have hword : windowWord n = .unlisted := by
        obtain h | h | h | h | h | h := hplace
        iterate 5 exact windowWord_of_unlisted (by omega)
        exact windowWord_of_slotEnd h.1 h.2.1 h.2.2
      exact hfault _ (by simp) hsize haligned (windowCheck_of_unlisted hn hsize hword)
    · obtain ⟨⟨hlow, hhigh, hslot⟩, hother⟩ := hforeign
      obtain ⟨word, hword⟩ := windowWord_of_command hlow hhigh haligned hslot
      refine hfault _ (by simp) hsize haligned (windowCheck_of_foreign hn hsize hword fun hk => hother ?_)
      rw [hk]
      exact (Nat.mod_eq_of_lt (by omega)).symm
    · have hdamaged : (s.settings.parityCheck && bytes.any badParity) = true := by
        rw [hparity, Bool.true_and, List.any_eq_true]
        exact hbad
      have hshared (h : n < 0x1C ∨ n = 0x80 ∨ 0x100 ≤ n ∧ n < 0x180) :
          exec (.windowWrite k off bytes) s = refused .parity :=
        hfault _ (by simp) hsize haligned (windowCheck_of_sharedParity hn hsize (windowWord_isShared h) hdamaged)
      obtain h | h | h | ⟨⟨hlow, hhigh, hslot⟩, hown⟩ := hplace
      · exact hshared (.inl h)
      · exact hshared (.inr (.inl h))
      · exact hshared (.inr (.inr h))
      · obtain ⟨word, hword⟩ := windowWord_of_command hlow hhigh haligned hslot
        have hk : Fin.ofNat 4 ((n - 0x200) / 16) = k := by
          have hplace : (n - 0x200) / 16 = k.val := by
            by_contra h
            exact hown ⟨⟨hlow, hhigh, hslot⟩, h⟩
          rw [hplace, Fin.ofNat_val_eq_self]
        rw [hk] at hword
        exact hfault _ (by simp) hsize haligned (windowCheck_of_ownParity hn hsize hword hdamaged)
  case rows =>
    intro s c off w hrow
    have hplace : off < 4096 ∧ off % 4 = 0 := by
      cases c with
      | sequenceError k which u => cases which <;> simp [Instr.wordAt] at hrow <;> omega
      | _ => simp [Instr.wordAt] at hrow <;> omega
    exact ⟨hplace.1, hplace.2, by rw [exec_of_wordAt hrow, exec_windowWrite_wordBytes hplace.1]⟩
  case words =>
    intro s w h hsettled v refused again full locked checked
    have hlocked : locked ↔ s.regionsLocked = true := regionsLocked_iff.symm
    refine ⟨exec_of_configChecked .stagedBase rfl h hsettled, exec_of_configChecked .stagedSlots rfl h hsettled,
      exec_of_configChecked .parityCheck rfl h hsettled, exec_of_configChecked .discardInterval rfl h hsettled,
      exec_of_configChecked .patrolInterval rfl h hsettled, exec_of_configChecked .lowMark rfl h hsettled,
      exec_of_configChecked .interruptMask rfl h hsettled, ?acknowledge, ?regions⟩
    case acknowledge =>
      refine exec_of_wordChecked (off := 0x80) rfl (.of_isShared rfl (.inr (.inl rfl))) h hsettled (fun hbad => ?_)
        (fun hgood => ⟨.acknowledge w.value, ?_⟩)
      · exact if_neg fun hok => absurd ((validMarks_iff _).1 hok) (by omega)
      · exact if_pos ((validMarks_iff _).2 (not_lt.1 hgood))
    case regions =>
      intro j base spanEnd meets
      have hA : OwnWord (0x100 + 8 * j.val) w := .of_isShared (by omega) (by omega)
      have hB : OwnWord (0x104 + 8 * j.val) w := .of_isShared (by omega) (by omega)
      have hwordA : windowWord (0x100 + 8 * j.val) = .regionA j := windowWord_wordAOffset j
      have hwordB : windowWord (0x104 + 8 * j.val) = .regionB j := windowWord_wordBOffset j
      refine ⟨fun hl => ⟨?lockedA, ?lockedB⟩, fun hl => ?wordA, fun hl => ?wordB⟩
      case lockedA =>
        exact exec_of_wordFault rfl hA h hsettled rfl
          (by rw [hwordA]; exact (wordCheck_region_of_locked (hlocked.1 hl) j w.value).1)
      case lockedB =>
        exact exec_of_wordFault rfl hB h hsettled rfl
          (by rw [hwordB]; exact (wordCheck_region_of_locked (hlocked.1 hl) j w.value).2)
      case wordA =>
        have hunlocked : s.regionsLocked = false := Bool.eq_false_iff.2 (mt hlocked.2 hl)
        refine exec_of_wordChecked rfl hA h hsettled (fun hbad => ?_) (fun hgood => ⟨.stageBase j w.value, ?_⟩) <;>
          rw [hwordA, wordCheck_regionA_of_unlocked hunlocked]
        · exact if_neg (mt (isLineAddress_iff _).1 hbad)
        · exact if_pos ((isLineAddress_iff _).2 (not_not.1 hgood))
      case wordB =>
        have hunlocked : s.regionsLocked = false := Bool.eq_false_iff.2 (mt hlocked.2 hl)
        have hplaced : s.regionPlaced s.regions[j].staged (lineOf w.value) = true ↔
            ¬ (v / 64 * 64 < base ∨ meets s.windowBase (s.windowBase + 4096) ∨
              ∃ g, s.journal.geometry = some g ∧ meets g.base.toNat (g.base.toNat + 128 * g.slots)) :=
          regionPlaced_lineOf_iff s.regions[j].staged w.value
        refine exec_of_wordChecked rfl hB h hsettled (fun hbad => ?_) (fun hgood => ?_) <;> rw [hwordB]
        · refine wordCheck_regionB_of_noInstall hunlocked ?_
          obtain hmode | ⟨hmode, hbad⟩ := hbad
          · exact wordBInstall_of_noMode hmode
          · exact wordBInstall_of_notPlaced hmode (Bool.eq_false_iff.2 fun hok => hplaced.1 hok hbad)
        · obtain ⟨hmode, hgood⟩ := not_or.1 hgood
          obtain ⟨mode, hfield⟩ := exists_field_of_lt (not_le.1 hmode)
          have hnotOff (hm : mode ≠ .off) : v % 64 ≠ 0 := by
            rw [show v % 64 = mode.field from hfield]
            cases mode <;> simp [RegionMode.field] at hm ⊢
          exact ⟨_, wordCheck_regionB_of_install hunlocked (wordBInstall_of_mode hfield fun hm =>
            hplaced.2 fun hbad => hgood ⟨hnotOff hm, hbad⟩)⟩

end Sys2Proof.Machine

/-! PROOF. O20, O21: the settings, the acknowledge word and the region words at their acceptance. -/

namespace Sys2Proof.Machine

/-! ## A shared window word at its acceptance (R56, R58, R97) -/

/-- A shared word whose own check passes is accepted with the effect the check names, as its row and as WINDOW_WRITE. -/
theorem exec_of_wordAccepted {s : State} {i : Instr} {off : Nat} {w : WordWrite} {e : WindowEffect} {u : State}
    (hrow : i.wordAt = some (off, w)) (hown : OwnWord off w) (h : s.takesWord w)
    (hcheck : s.wordCheck (windowWord off) w.value = .ok e) (hclose : e.commandClose = false) (htaken : windowTaken e s = u) :
    exec i s = .next (s.wordAccepted off w false u) ∧
      exec (.windowWrite w.requester (BitVec.ofNat 12 off) (wordBytes w)) s = .next (s.wordAccepted off w false u) := by
  have haccepted : wordWriteAt off w s = s.wordAccepted off w false u := by
    rw [wordWriteAt_of_accepted h hown.below hown.aligned hown.notDeviceOwned hown.notUnlisted hown.own hcheck, hclose,
      htaken]
  rw [exec_of_wordAt hrow, exec_windowWrite_wordBytes hown.below, haccepted]
  exact ⟨rfl, rfl⟩

theorem exec_of_configAccepted {s : State} {i : Instr} {w : WordWrite} {u : State} (c : ConfigWord)
    (hrow : i.wordAt = some (4 * c.index, w)) (h : s.takesWord w) (hrange : ¬ c.outOfRange w.value.toNat)
    (htaken : settingTaken c w.value s = u) :
    exec i s = .next (s.wordAccepted (4 * c.index) w false u) ∧
      exec (.windowWrite w.requester (BitVec.ofNat 12 (4 * c.index)) (wordBytes w)) s =
        .next (s.wordAccepted (4 * c.index) w false u) := by
  have hword : windowWord (4 * c.index) = .config c := by rw [← configOffset_eq, windowWord_configOffset]
  refine exec_of_wordAccepted (e := .setting c w.value) hrow (.of_isShared (by omega) (.inl (by cases c <;> decide))) h ?_
    rfl htaken
  rw [hword]
  exact wordCheck_config_of_inRange hrange

theorem extractLsb'_append_four (x y z u : Byte) :
    (x ++ y ++ z ++ u).extractLsb' 0 8 = u ∧ (x ++ y ++ z ++ u).extractLsb' 8 8 = z ∧
      (x ++ y ++ z ++ u).extractLsb' 16 8 = y ∧ (x ++ y ++ z ++ u).extractLsb' 24 8 = x := by
  refine ⟨?_, ?_, ?_, ?_⟩ <;> refine BitVec.eq_of_getLsbD_eq fun i hi => ?_ <;>
    simp only [BitVec.getLsbD_extractLsb', BitVec.getLsbD_append, hi, decide_true, Bool.true_and] <;>
    grind

theorem getLsbD_append_four (x y z u : Bool) :
    let p := BitVec.ofBool x ++ BitVec.ofBool y ++ BitVec.ofBool z ++ BitVec.ofBool u
    p.getLsbD 0 = u ∧ p.getLsbD 1 = z ∧ p.getLsbD 2 = y ∧ p.getLsbD 3 = x := by
  cases x <;> cases y <;> cases z <;> cases u <;> decide

/-- Any four bytes of the bus are the bytes of one window word. -/
theorem exists_wordBytes (k : Requester) {bytes : List BusByte} (hsize : bytes.length = 4) :
    ∃ w : WordWrite, w.requester = k ∧ wordBytes w = bytes := by
  match bytes, hsize with
  | [a, b, c, d], _ =>
    refine ⟨⟨k, d.value ++ c.value ++ b.value ++ a.value,
      BitVec.ofBool d.parity ++ BitVec.ofBool c.parity ++ BitVec.ofBool b.parity ++ BitVec.ofBool a.parity⟩, rfl, ?_⟩
    simp only [wordBytes, extractLsb'_append_four, getLsbD_append_four]

/-! ## The Patrol Unit's judgement outside a step (R147, R148, R151) -/

theorem patrolRejudge_eq (s : State) : patrolRejudge s = { s with patrol :=
    if s.patrol.state = .read ∨ s.patrol.state = .renew then s.patrol
    else if s.patrolEnabled then { s.patrol with state := .wait, timer := some s.settings.patrolInterval }
    else { s.patrol with state := .off, timer := none } } := by
  rw [patrolRejudge]
  cases hstate : s.patrol.state <;> simp only [patrolSettle] <;> cases s.patrolEnabled <;>
    simp [patrolToWait, patrolToOff, updPatrol]

theorem patrolInstall_eq (s : State) : patrolInstall s = { s with patrol :=
    if s.patrol.state = .read ∨ s.patrol.state = .renew then { s.patrol with cursor := s.firstActive 0, placed := true }
    else if s.patrolEnabled then
      { s.patrol with state := .wait, cursor := s.firstActive 0, timer := some s.settings.patrolInterval }
    else { s.patrol with state := .off, cursor := s.firstActive 0, timer := none } } := by
  have henabled : (placeCursor s).patrolEnabled = s.patrolEnabled := rfl
  rw [patrolInstall, patrolRejudge_eq, henabled]
  cases hstate : s.patrol.state <;> simp [placeCursor, updPatrol, hstate]

/-! ## Settings and the acknowledge word (R16, R99, R100, R173) -/

theorem value_toNat_eq_zero_iff (v : Word) : v.toNat = 0 ↔ v = 0 :=
  ⟨fun h => BitVec.eq_of_toNat_eq h, fun h => h ▸ rfl⟩

/-- The marks an acknowledge word leaves. -/
theorem getLsbD_acknowledged (causes : Byte) (v : Word) (n : Nat) :
    (causes &&& ~~~(causeMarks v &&& 0x7F#8)).getLsbD n =
      (causes.getLsbD n && !(v.getLsbD n && decide (n < 7))) := by
  by_cases hn : n < 8
  · have hseven : (0x7F#8).getLsbD n = decide (n < 7) := by
      interval_cases n <;> rfl
    simp only [causeMarks_eq, BitVec.getLsbD_and, BitVec.getLsbD_not, BitVec.getLsbD_setWidth, hn, hseven, decide_true,
      Bool.true_and]
  · simp [BitVec.getLsbD_of_ge causes n (by omega)]

theorem acknowledge_of_unchanged {s : State} {ack : Byte}
    (h : s.status.causes &&& ~~~(ack &&& 0x7F#8) = s.status.causes) : acknowledge ack s = s := by
  rw [acknowledge, setCauses, if_pos h]

theorem acknowledge_of_changed {s : State} {ack : Byte}
    (h : s.status.causes &&& ~~~(ack &&& 0x7F#8) ≠ s.status.causes) : acknowledge ack s =
      { setDirty s with status := { (setDirty s).status with causes := s.status.causes &&& ~~~(ack &&& 0x7F#8) } } := by
  rw [acknowledge, setCauses, if_neg h, setDirty_eq, setDirty_eq]
  rfl

theorem causes_acknowledge (s : State) (ack : Byte) :
    (acknowledge ack s).status.causes = s.status.causes &&& ~~~(ack &&& 0x7F#8) := by
  rw [acknowledge, setCauses_eq]

/-- Settles O20: each word's own effect, at its acceptance. -/
theorem settingsAndAcknowledgeActAtAcceptance : Obligations.SettingsAndAcknowledgeActAtAcceptance := by
  unfold Obligations.SettingsAndAcknowledgeActAtAcceptance
  refine ⟨fun k bytes hsize => exists_wordBytes k hsize, ?words⟩
  case words =>
    intro s w h writes set
    refine ⟨exec_of_configAccepted .stagedBase rfl h id rfl, exec_of_configAccepted .stagedSlots rfl h id rfl,
      fun hrange => ?parity, fun hrange => ?discard, fun hrange => ?patrol, fun hrange => ?low, fun hrange => ?mask,
      fun hrange => ?acknowledge⟩
    case parity =>
      refine exec_of_configAccepted .parityCheck rfl h ?_ rfl
      obtain hv | hv := hrange <;> rw [hv] <;> exact not_lt.2 (by decide)
    case discard => exact exec_of_configAccepted .discardInterval rfl h (not_or.2 ⟨by omega, by omega⟩) rfl
    case patrol =>
      refine exec_of_configAccepted .patrolInterval rfl h (not_lt.2 hrange) ?_
      have henabled : (set { s.settings with patrolInterval := w.value.toNat }).patrolEnabled = true ↔
          w.value ≠ 0 ∧ ∃ j : Fin 16, s.regions[j].mode ≠ .off := by
        refine (State.patrolEnabled_iff (s := set { s.settings with patrolInterval := w.value.toNat }) h.1.1).trans ?_
        rw [Ne, Ne, ← value_toNat_eq_zero_iff]
      refine (patrolRejudge_eq (set { s.settings with patrolInterval := w.value.toNat })).trans ?_
      simp only [henabled]
      rfl
    case low =>
      refine exec_of_configAccepted .lowMark rfl h (not_lt.2 hrange) ?_
      have hfree : (set { s.settings with lowMark := w.value.toNat }).free = s.free := free_congr rfl
      show lowTest s.free s.settings.lowMark (set { s.settings with lowMark := w.value.toNat }) = _
      split
      · next hcrossing => exact lowTest_of_crossing (by rw [hfree]; exact hcrossing)
      · next hno => exact lowTest_of_noCrossing (by rw [hfree]; exact hno)
    case mask =>
      refine exec_of_configAccepted .interruptMask rfl h (not_lt.2 hrange) ?_
      simp only [settingTaken, Settings.load, causeMarks_eq]
      rfl
    case acknowledge =>
      refine ⟨acknowledge (causeMarks w.value) s, exec_of_wordAccepted (e := .acknowledge w.value) (off := 0x80) rfl
        (.of_isShared rfl (.inr (.inl rfl))) h (if_pos ((validMarks_iff _).2 hrange)) rfl rfl, fun n => ?_, fun hsame => ?_,
        fun hchanged => ?_⟩ <;> rw [causes_acknowledge] at *
      · exact getLsbD_acknowledged _ _ _
      · exact acknowledge_of_unchanged hsame
      · exact acknowledge_of_changed hchanged

/-- Settles O21: word A's staged base, and word B's install with what the Patrol Unit makes of it. -/
theorem regionWordsStageAndInstall : Obligations.RegionWordsStageAndInstall := by
  unfold Obligations.RegionWordsStageAndInstall
  intro s j w h hclosed hformatting writes
  have hunlocked : s.regionsLocked = false :=
    Bool.eq_false_iff.2 fun hl => (regionsLocked_iff.1 hl).elim (fun ⟨k, hk⟩ => hk (hclosed k)) hformatting
  refine ⟨?wordA, ?wordB⟩
  case wordA =>
    intro haligned
    refine exec_of_wordAccepted (e := .stageBase j w.value) rfl (.of_isShared (by omega) (by omega)) h ?_ rfl rfl
    rw [← wordAOffset_eq, windowWord_wordAOffset, wordCheck_regionA_of_unlocked hunlocked]
    exact if_pos ((isLineAddress_iff _).2 haligned)
  case wordB =>
    intro mode hmode base limit clear hplaced u
    have hfield : w.value.toNat % 64 = mode.field := by
      rw [hmode]
      cases mode <;> rfl
    have hinstall : s.wordBInstall j w.value = some ⟨base, limit, mode, base⟩ :=
      wordBInstall_of_mode hfield fun hm => (regionPlaced_iff _ _).2
        ⟨(hplaced hm).1, (hplaced hm).2.1.symm, fun g hg => ((hplaced hm).2.2 g hg).symm⟩
    refine exec_of_wordAccepted (e := .install j ⟨base, limit, mode, base⟩) rfl (.of_isShared (by omega) (by omega)) h ?_
      rfl ?_
    · have hword : windowWord (0x104 + 8 * j.val) = .regionB j := windowWord_wordBOffset j
      rw [hword]
      exact wordCheck_regionB_of_install hunlocked hinstall
    · have henabled : u.patrolEnabled = true ↔ s.settings.patrolInterval ≠ 0 ∧ (u.firstActive 0).isSome = true := by
        rw [State.patrolEnabled_iff (s := u) h.1.1, ← State.anyActive_iff]
        rfl
      refine (patrolInstall_eq u).trans ?_
      simp only [henabled]
      rfl

end Sys2Proof.Machine

/-! PROOF. O23, O25, O26: the command words that are refused, and the taking of the commands other than OPEN. -/

namespace Sys2Proof.Machine

/-! ## The words of a slot at their places (R101, R182) -/

theorem windowWord_slotPlace (k : Requester) (n : Fin 3) : windowWord (0x200 + 4 * n.val + 16 * k.val) = .command k n := by
  have hoff : 0x200 + 4 * n.val + 16 * k.val = commandOffset k n := by
    simp only [commandOffset]
    omega
  rw [hoff, windowWord_commandOffset]

theorem OwnWord.of_slotPlace {w : WordWrite} {k : Requester} (hreq : w.requester = k) (n : Fin 3) :
    OwnWord (0x200 + 4 * n.val + 16 * k.val) w where
  below := by omega
  aligned := by omega
  notDeviceOwned h := by simp [windowWord_slotPlace] at h
  notUnlisted h := by simp [windowWord_slotPlace] at h
  own j m h := by
    rw [windowWord_slotPlace] at h
    cases h
    exact hreq

section slotWord

variable {s : State} {k : Requester} {w : WordWrite} {n : Fin 3} {i : Instr}

/-- A word of the requester's own slot whose check fails is answered FAULT, full queue or not. -/
theorem exec_of_slotFault {f : FaultReason} (hrow : i.wordAt = some (0x200 + 4 * n.val + 16 * k.val, w))
    (hreq : w.requester = k) (h : s.judgesWord w) (hsettled : s.Settled) (hcount : countFault f s = s)
    (hcheck : s.slots[k].check k n w.value = .error f) :
    exec i s = .next (giveAnswer w.requester (.fault f) s) :=
  exec_of_wordFault hrow (.of_slotPlace hreq n) h hsettled hcount (by rw [windowWord_slotPlace]; exact hcheck)

/-- A word of the requester's own slot whose check passes is answered RETRY on a full queue. -/
theorem exec_of_slotRetry {e : WindowEffect} (hrow : i.wordAt = some (0x200 + 4 * n.val + 16 * k.val, w))
    (hreq : w.requester = k) (h : s.judgesWord w) (hsettled : s.Settled) (hfull : s.queue.entries.length = 16)
    (hcheck : s.slots[k].check k n w.value = .ok e) : exec i s = .next (giveAnswer k .retry s) :=
  hreq ▸ exec_of_wordRetry hrow (.of_slotPlace hreq n) h hsettled hfull (by rw [windowWord_slotPlace]; exact hcheck)

/-- A word of another requester's slot is answered FAULT PROTECTED, whatever its parity. -/
theorem exec_of_slotForeign (hrow : i.wordAt = some (0x200 + 4 * n.val + 16 * k.val, w)) (hforeign : w.requester ≠ k)
    (h : s.judgesWord w) (hsettled : s.Settled) :
    exec i s = .next (giveAnswer w.requester (.fault .protectedWord) s) := by
  have hjudge := judge_of_windowFault (bytes := wordBytes w) h.1 (by omega) rfl (by omega)
    (windowCheck_of_foreign (s := s) (by omega) rfl (windowWord_slotPlace k n) hforeign)
  rw [exec_of_wordAt hrow]
  exact exec_writeRequest_of_fault h.2.1 hsettled hjudge

end slotWord

/-! ## The checks of words on an EXECUTING slot, and of any closing word (R104 to R106) -/

section check

variable {c : CommandSlot} (k : Requester) (v : Word)

theorem CommandSlot.closing_executing (hphase : c.phase = .executing) (inOrder : Bool) :
    c.closing k inOrder = .error .busy := if_pos hphase

theorem CommandSlot.check_word2 : c.check k 2 v = c.closing k (c.staging == .word1) := by
  rw [CommandSlot.check, if_neg (by decide), if_neg (by decide)]

theorem CommandSlot.check_word1_of_notWord0 (hstaging : c.staging ≠ .word0) : c.check k 1 v = c.closing k false := by
  rw [CommandSlot.check, if_neg (by decide), if_pos rfl, if_neg hstaging]

theorem CommandSlot.closing_idle (hphase : c.phase = .idle) (inOrder : Bool) : ∃ e, c.closing k inOrder = .ok e := by
  cases inOrder
  · exact ⟨_, CommandSlot.closing_outOfOrder k hphase⟩
  · exact ⟨.close k, by simp [CommandSlot.closing, hphase]⟩

end check

/-- The rows that write word 2 of slot `k`. -/
def closingRows (k : Requester) (w : WordWrite) : List Instr :=
  [.openCommand k w, .commitCommand k w, .abortCommand k w, .drainCommand k w, .reportCommand k w,
   .clearCountersCommand k w, .reinitCommand k w, .unknownOpcode k w, .sequenceError k .word2 w]

theorem wordAt_closingRows {k : Requester} {w : WordWrite} {i : Instr} (h : i ∈ closingRows k w) :
    i.wordAt = some (0x200 + 4 * (2 : Fin 3).val + 16 * k.val, w) := by
  simp only [closingRows, List.mem_cons, List.not_mem_nil, or_false] at h
  obtain rfl | rfl | rfl | rfl | rfl | rfl | rfl | rfl | rfl := h <;> rfl

/-- Settles O23: BUSY by the slot's check, PROTECTED by the window rules, RETRY by the full queue. -/
theorem busyAndForeignCommandWordsChangeNothing : Obligations.BusyAndForeignCommandWordsChangeNothing := by
  unfold Obligations.BusyAndForeignCommandWordsChangeNothing
  intro s k w h hsettled refused closing
  have hrow : ∀ i ∈ closing, i.wordAt = some (0x200 + 4 * (2 : Fin 3).val + 16 * k.val, w) := fun i => wordAt_closingRows
  refine ⟨fun hreq hphase => ⟨fun i hi => ?_, fun hstaging => ?_⟩, fun hforeign i hi => ?_, fun hreq hfull => ?_⟩
  · refine exec_of_slotFault (hrow i hi) hreq h hsettled rfl ?_
    rw [CommandSlot.check_word2, CommandSlot.closing_executing k hphase]
  · have hcheck : s.slots[k].check k 1 w.value = .error .busy := by
      rw [CommandSlot.check_word1_of_notWord0 k _ hstaging, CommandSlot.closing_executing k hphase]
    exact ⟨exec_of_slotFault (n := 1) rfl hreq h hsettled rfl hcheck,
      exec_of_slotFault (n := 1) rfl hreq h hsettled rfl hcheck⟩
  · simp only [List.mem_append, List.mem_cons, List.not_mem_nil, or_false] at hi
    obtain hi | rfl | rfl | rfl := hi
    · exact exec_of_slotForeign (hrow i hi) hforeign h hsettled
    · exact exec_of_slotForeign (n := 0) rfl hforeign h hsettled
    · exact exec_of_slotForeign (n := 1) rfl hforeign h hsettled
    · exact exec_of_slotForeign (n := 1) rfl hforeign h hsettled
  · refine ⟨exec_of_slotRetry (n := 0) rfl hreq h hsettled hfull (CommandSlot.check_word0 k w.value), fun hword1 => ?_,
      fun hphase i hi => ?_⟩
    · have hcheck : ∃ e, s.slots[k].check k 1 w.value = .ok e := by
        by_cases hstaging : s.slots[k].staging = .word0
        · exact ⟨_, CommandSlot.check_word1_of_word0 k _ hstaging⟩
        · exact ⟨_, CommandSlot.check_word1_outOfOrder k _ (hword1.resolve_left hstaging) hstaging⟩
      obtain ⟨e, he⟩ := hcheck
      exact ⟨exec_of_slotRetry (n := 1) rfl hreq h hsettled hfull he, exec_of_slotRetry (n := 1) rfl hreq h hsettled hfull he⟩
    · obtain ⟨e, he⟩ := CommandSlot.closing_idle (c := s.slots[k]) k hphase (s.slots[k].staging == .word1)
      exact exec_of_slotRetry (hrow i hi) hreq h hsettled hfull ((CommandSlot.check_word2 k _).trans he)

/-! ## The taking of the other commands (R109 to R114) -/

section taking

variable {s : State} {k : Requester} {tag : Byte} {opcode : BitVec 4}

/-- The state with slot `k`'s staged command closed. -/
def State.slotClosed (s : State) (k : Requester) (d : Decision) (u : State) : State :=
  { u with slots := s.slots.set k { s.slots[k] with
      staging := .empty, word := none, argA := none, phase := .executing, decision := some d } }

theorem commandTaken_slots (opcode : BitVec 4) (a : Word) (s : State) : (commandTaken k opcode a s).slots = s.slots := by
  unfold commandTaken
  split_ifs <;> simp

/-- The taking of a staged command whose verdict is known. -/
theorem takeCommand_of_verdict {v : Verdict} (hword : s.slots[k].word = some ⟨opcode, tag⟩)
    (hverdict : s.verdict k opcode (s.slots[k].argA.getD 0) = v) :
    takeCommand k s = s.slotClosed k ⟨⟨opcode, tag⟩, v⟩
      (if v = .taken then commandTaken k opcode (s.slots[k].argA.getD 0) s else s) := by
  simp only [takeCommand, CommandSlot.stagedWord, hword, Option.getD_some, hverdict]
  refine closeSlot_of_slots ?_ k _
  split
  · exact commandTaken_slots _ _ _
  · rfl

/-- A closing word in order whose command is refused: the slot alone changes. -/
theorem exec_of_refusedCommand {i : Instr} {w : WordWrite} {reason : ResultReason}
    (hrow : i.wordAt = some (0x208 + 16 * k.val, w)) (htakes : s.takesWord w) (hreq : w.requester = k)
    (hphase : s.slots[k].phase = .idle) (hstaging : s.slots[k].staging = .word1)
    (hword : s.slots[k].word = some ⟨opcode, tag⟩)
    (hverdict : s.verdict k opcode (s.slots[k].argA.getD 0) = .refused reason) :
    exec i s = .next (s.wordAccepted (0x208 + 16 * k.val) w true (s.slotClosed k ⟨⟨opcode, tag⟩, .refused reason⟩ s)) := by
  rw [exec_of_closingWord hrow htakes hreq hphase hstaging, takeCommand_of_verdict hword hverdict, if_neg (by simp)]

/-- A closing word in order whose command is taken. -/
theorem exec_of_takenCommand {i : Instr} {w : WordWrite} {u : State}
    (hrow : i.wordAt = some (0x208 + 16 * k.val, w)) (htakes : s.takesWord w) (hreq : w.requester = k)
    (hphase : s.slots[k].phase = .idle) (hstaging : s.slots[k].staging = .word1)
    (hword : s.slots[k].word = some ⟨opcode, tag⟩)
    (hverdict : s.verdict k opcode (s.slots[k].argA.getD 0) = .taken)
    (htaken : commandTaken k opcode (s.slots[k].argA.getD 0) s = u) :
    exec i s = .next (s.wordAccepted (0x208 + 16 * k.val) w true (s.slotClosed k ⟨⟨opcode, tag⟩, .taken⟩ u)) := by
  rw [exec_of_closingWord hrow htakes hreq hphase hstaging, takeCommand_of_verdict hword hverdict, if_pos rfl, htaken]

theorem endVerdict_eq (s : State) (k : Requester) :
    s.endVerdict k = if s.contexts[k].state = .opened then .taken else .refused .state := rfl

/-- The verdict on each opcode (R108 to R114). -/
theorem verdict_of_commit (a : Word) : s.verdict k 2 a = s.endVerdict k := rfl
theorem verdict_of_abort (a : Word) : s.verdict k 3 a = s.endVerdict k := rfl
theorem verdict_of_drain (a : Word) : s.verdict k 4 a = .taken := rfl
theorem verdict_of_report (a : Word) : s.verdict k 5 a = .taken := rfl
theorem verdict_of_clearCounters (a : Word) : s.verdict k 6 a = .taken := rfl
theorem verdict_of_reinit (a : Word) : s.verdict k 7 a = s.reinitVerdict := rfl

theorem verdict_of_unknown (h : opcode = 0 ∨ 8 ≤ opcode.toNat) (a : Word) : s.verdict k opcode a = .refused .opcode := by
  have hunknown (n : BitVec 4) (h0 : n ≠ 0) (h8 : n.toNat < 8) : opcode ≠ n := by
    rintro rfl
    exact h.elim h0 fun hle => absurd hle (by omega)
  rw [State.verdict]
  iterate 7 rw [if_neg (hunknown _ (by decide) (by decide))]

end taking

/-- Settles O25: the verdicts of R109 to R112 and R114, and what a taken COMMIT and ABORT do. -/
theorem otherCommandsAreJudgedAndTaken : Obligations.OtherCommandsAreJudgedAndTaken := by
  unfold Obligations.OtherCommandsAreJudgedAndTaken
  refine ⟨?endEpoch, ?others⟩
  case endEpoch =>
    intro s k w tag opcode htakes hreq hphase hstaging hword accepted context
    refine ⟨fun hcommit => ?commit, fun habort => ?abort⟩
    case commit =>
      subst hcommit
      split
      · next hopen =>
        exact exec_of_takenCommand rfl htakes hreq hphase hstaging hword
          ((verdict_of_commit _).trans (if_pos hopen)) rfl
      · next hopen =>
        exact exec_of_refusedCommand rfl htakes hreq hphase hstaging hword
          ((verdict_of_commit _).trans (if_neg hopen))
    case abort =>
      subst habort
      split
      · next hopen =>
        exact exec_of_takenCommand rfl htakes hreq hphase hstaging hword
          ((verdict_of_abort _).trans (if_pos hopen)) rfl
      · next hopen =>
        exact exec_of_refusedCommand rfl htakes hreq hphase hstaging hword
          ((verdict_of_abort _).trans (if_neg hopen))
  case others =>
    intro s k w tag opcode htakes hreq hphase hstaging hword accepted
    refine ⟨fun h => ?_, fun h => ?_, fun h => ?_, fun h => ?_⟩
    · subst h
      exact exec_of_takenCommand rfl htakes hreq hphase hstaging hword (verdict_of_drain _) rfl
    · subst h
      exact exec_of_takenCommand rfl htakes hreq hphase hstaging hword (verdict_of_report _) rfl
    · subst h
      exact exec_of_takenCommand rfl htakes hreq hphase hstaging hword (verdict_of_clearCounters _) rfl
    · exact exec_of_refusedCommand rfl htakes hreq hphase hstaging hword (verdict_of_unknown h _)

/-! ## REINIT (R18, R113) -/

section reinit

variable {s : State}

theorem reinitBusy_iff : (s.allClosed = false ∨ s.journal.state = .formatting) ↔
    (∃ j : Fin 4, s.contexts[j].state ≠ .closed) ∨ s.journal.state = .formatting := by
  rw [← regionsLocked_iff, State.regionsLocked, Bool.or_eq_true, Bool.not_eq_true', beq_iff_eq]

/-- An active region is apart from the ring, its span empty when its limit lies below its base. -/
theorem regionsOverlap_eq_false_iff (g : Geometry) : s.regionsOverlap g = false ↔
    ∀ j : Fin 16, s.regions[j].mode ≠ .off →
      g.base.toNat + 128 * g.slots ≤ s.regions[j].base.toNat ∨
        max s.regions[j].base.toNat (s.regions[j].limit.toNat + 64) ≤ g.base.toNat := by
  have hspan (r : Region) : spansOverlap g.base.toNat (128 * g.slots) r.base.toNat (r.limit.toNat + 64 - r.base.toNat) = false ↔
      g.base.toNat + 128 * g.slots ≤ r.base.toNat ∨ max r.base.toNat (r.limit.toNat + 64) ≤ g.base.toNat := by
    rw [spansOverlap_eq_false_iff]
    omega
  simp only [← hspan]
  simp [State.regionsOverlap, Fin.forall_iff, Vector.any_eq_false]

theorem stagedValid_iff : s.stagedValid = true ↔
    let base := s.settings.stagedBase.toNat
    let S := s.settings.stagedSlots.toNat
    let apart (low high : Nat) : Prop := base + 128 * S ≤ low ∨ high ≤ base
    base % 128 = 0 ∧ 64 ≤ S ∧ S ≤ 65536 ∧ base + 128 * S ≤ 2 ^ 32 ∧ apart s.windowBase (s.windowBase + 4096) ∧
      ∀ j : Fin 16, s.regions[j].mode ≠ .off →
        apart s.regions[j].base.toNat (max s.regions[j].base.toNat (s.regions[j].limit.toNat + 64)) := by
  rw [State.stagedValid, Bool.and_eq_true, Bool.not_eq_true', placed_iff, regionsOverlap_eq_false_iff]
  simp only [and_assoc]
  rfl

end reinit

/-- Settles O26: R113's order of refusals, and what a taken REINIT does to the journal. -/
theorem reinitIsJudgedAndTaken : Obligations.ReinitIsJudgedAndTaken := by
  unfold Obligations.ReinitIsJudgedAndTaken
  intro s k w tag htakes hreq hphase hstaging hword accepted base S apart busy valid
  have hbusy : busy ↔ (s.allClosed = false ∨ s.journal.state = .formatting) := reinitBusy_iff.symm
  have hvalid : valid ↔ s.stagedValid = true := stagedValid_iff.symm
  refine ⟨fun hb => ?state, fun hb hv => ?geometry, fun hb hv => ?taken⟩
  case state =>
    exact exec_of_refusedCommand rfl htakes hreq hphase hstaging hword ((verdict_of_reinit _).trans (if_pos (hbusy.1 hb)))
  case geometry =>
    refine exec_of_refusedCommand rfl htakes hreq hphase hstaging hword ((verdict_of_reinit _).trans ?_)
    rw [State.reinitVerdict, if_neg (mt hbusy.2 hb), if_pos (Bool.eq_false_iff.2 (mt hvalid.2 hv))]
  case taken =>
    refine exec_of_takenCommand rfl htakes hreq hphase hstaging hword ((verdict_of_reinit _).trans ?_) rfl
    rw [State.reinitVerdict, if_neg (mt hbusy.2 hb), if_neg (by rw [hvalid.1 hv]; decide)]

end Sys2Proof.Machine

/-! PROOF. O29, O32: the straight read's response, the order in which the freed U-port takes what waited, and what sends
deferred reads back. -/

namespace Sys2Proof.Machine

/-! ## The U-port's order (R45) -/

theorem presentRequest_of_busy {s : State} {r : ReadRequest} (h : s.uport.inProgress = some r) (q : UportRequest) :
    presentRequest q s = { s with uport := { s.uport with waiting := s.uport.waiting ++ [q] } } := by
  simp only [presentRequest, h]

theorem takeWaiting_of_busy {s : State} {r : ReadRequest} (h : s.uport.inProgress = some r) (q : UportRequest)
    (qs : List UportRequest) :
    takeWaiting (q :: qs) s = { s with uport := { s.uport with waiting := q :: qs } } := by
  simp only [takeWaiting, h]

theorem takeWaiting_of_free {s : State} (h : s.uport.inProgress = none) (q : UportRequest) (qs : List UportRequest) :
    takeWaiting (q :: qs) s = takeWaiting qs (takeRequest q s) := by
  simp only [takeWaiting, h]

theorem portFreed_of_busy {s : State} {r : ReadRequest} (h : s.uport.inProgress = some r) : portFreed s = s := by
  simp only [portFreed, h]

theorem portFreed_of_free {s : State} (h : s.uport.inProgress = none) : portFreed s = takeWaiting s.uport.waiting s := by
  simp only [portFreed, h]

/-- The command that presents a request is taken at a free U-port. -/
theorem exec_command_of_free {s : State} (h : s.uport.inProgress = none) (q : UportRequest) :
    exec q.command s = .next (takeRequest q s) := by
  rw [exec_of_request (q := q) (by cases q <;> rfl), presentRequest_of_free h]

/-- The waiting requests are taken oldest first, until none waits or one holds the U-port. -/
theorem exists_takesInOrder_of_takeWaiting (qs : List UportRequest) (s : State) :
    ∃ taken rest u, qs = taken ++ rest ∧ takesInOrder taken s u ∧ (rest = [] ∨ u.uport.inProgress.isSome = true) ∧
      takeWaiting qs s = { u with uport := { u.uport with waiting := rest } } := by
  induction qs generalizing s with
  | nil => exact ⟨[], [], s, rfl, rfl, .inl rfl, rfl⟩
  | cons q qs ih =>
    cases hport : s.uport.inProgress with
    | some r => exact ⟨[], q :: qs, s, rfl, rfl, .inr (by simp [hport]), takeWaiting_of_busy hport q qs⟩
    | none =>
      obtain ⟨taken, rest, u, hqs, htaken, hends, heq⟩ := ih (takeRequest q s)
      exact ⟨q :: taken, rest, u, by rw [hqs]; rfl, ⟨hport, _, exec_command_of_free hport q, htaken⟩, hends,
        (takeWaiting_of_free hport q qs).trans heq⟩

/-! ## The straight read's response (R83, R84) -/

theorem exec_straightReadResponse {s : State} {issue : Byte} {line : Addr}
    (hcarries : s.carries issue .straightRead (.read line)) (resp : MemResponse) :
    exec (.straightReadResponse issue resp) s =
      .next (afterEvent (straightAnswered (replyOf (.read line) resp) (releasePort s))) := by
  rw [show exec (.straightReadResponse issue resp) s = .next (takeResponse issue resp s) from rfl,
    takeResponse_of_carries hcarries, handToClient]

theorem straightAnswered_of_data {s : State} {r : ReadRequest} (h : s.uport.inProgress = some r)
    (hsize : r.size ∈ [1, 2, 4, 8, 16, 32, 64]) (bytes : Line) (st : Vector WordStatus 16) :
    straightAnswered (.data bytes st) s =
      answerRead r (bytesFrom bytes (offsetInLine r.address) r.size)
        ((List.range (max 1 (r.size / 4))).map fun i => st[offsetInLine r.address / 4 + i]? == some .uncorrectable)
        { s with uport := { s.uport with inProgress := none } } := by
  simp only [straightAnswered, h, poisonFlags_uncorrectable st _ hsize]

theorem straightAnswered_of_failed {s : State} {r : ReadRequest} (h : s.uport.inProgress = some r) {reply : Reply}
    (hreply : reply = .fail ∨ reply = .unbacked) :
    straightAnswered reply s =
      giveAnswer r.requester (.fault .memory) { s with uport := { s.uport with inProgress := none } } := by
  obtain rfl | rfl := hreply <;> simp only [straightAnswered, h]

/-- Settles O29: a held port keeps requests waiting, a freed one takes them in order, and the response answers the read. -/
theorem straightReadResponseAnswersTheRead : Obligations.StraightReadResponseAnswersTheRead := by
  unfold Obligations.StraightReadResponseAnswersTheRead
  refine ⟨fun s c q r hrequest hport => ?held, fun s => ?freed, ?answered⟩
  case held => rw [exec_of_request hrequest, presentRequest_of_busy hport]
  case freed =>
    cases hport : s.uport.inProgress with
    | some r => exact ⟨[], s.uport.waiting, s, rfl, rfl, .inr (by simp [hport]), portFreed_of_busy hport⟩
    | none =>
      rw [portFreed_of_free hport]
      exact exists_takesInOrder_of_takeWaiting _ _
  case answered =>
    intro s issue line r hcarries hport hsize haligned off freed
    have hheld : (releasePort s).uport.inProgress = some r := hport
    refine ⟨?data, fun resp hfails => ?failed⟩
    case data =>
      intro bytes st hnamed data flags answered
      refine next_afterEvent_of_eq (exec_straightReadResponse hcarries _) ?_
      rw [replyOf_read_data, if_pos hnamed, straightAnswered_of_data hheld hsize]
      rfl
    case failed =>
      exact next_afterEvent_of_eq (exec_straightReadResponse hcarries _)
        (straightAnswered_of_failed hheld (replyOf_failsRead hfails))

/-! ## Entries sent back (R92, R93) -/

theorem countTimes_eq (c : Counter) (n : Nat) (s : State) :
    countTimes c n s = { s with status := { s.status with
      counters := (fun m => m.raise c)^[n] s.status.counters } } := by
  induction n generalizing s with
  | zero => rfl
  | succ n ih => rw [countTimes, ih]; rfl

/-- Raising REQUEUES `n` times. -/
theorem raise_requeues_iterate (n : Nat) (m : Counters) :
    (fun m => Counters.raise m .requeues)^[n] m = { m with
      requeues := ((fun m => Counters.raise m .requeues)^[n] m).requeues } ∧
    ((fun m => Counters.raise m .requeues)^[n] m).requeues.toNat = min 65535 (m.requeues.toNat + n) := by
  induction n generalizing m with
  | zero => exact ⟨rfl, by have := m.requeues.isLt; simp; omega⟩
  | succ n ih =>
    obtain ⟨hothers, hcount⟩ := ih (m.raise .requeues)
    rw [Function.iterate_succ_apply]
    refine ⟨hothers, hcount.trans ?_⟩
    have hraise : (m.raise .requeues).requeues.toNat = min 65535 (m.requeues.toNat + 1) := toNat_satInc m.requeues
    rw [hraise]
    omega

/-- The entries that `hit` names changed by `f`, those of them in the Read List withdrawn, and REQUEUES raised for each
READY one: what an accepted write and a taken ABORT both do. -/
def readsSentBack (hit : DeferredRead → Bool) (f : DeferredRead → DeferredRead) (s : State) : State :=
  countTimes .requeues (s.reads.countP fun d => hit d && d.state == .ready)
    { s with
      reads := s.reads.map fun d => if hit d then f d else d
      dport := { s.dport with readList := s.dport.readList.filter fun m =>
        !((s.reads.filter fun d => hit d && d.state == .waiting).map fun d => ReadMember.deferred d.key).contains m } }

theorem overtakeReads_eq (line : Addr) (n : BitVec 32) (s : State) :
    overtakeReads line n s = readsSentBack (fun d => lineOf d.key.address == line) (DeferredRead.overtaken n) s := rfl

theorem takeBackReads_eq (k : Requester) (s : State) :
    takeBackReads k s = readsSentBack (fun d => s.holds k (lineOf d.key.address))
      (fun d => d.takenBack (s.newestNumber (lineOf d.key.address))) s := rfl

section readsSentBack

variable (hit : DeferredRead → Bool) (f : DeferredRead → DeferredRead) (s : State)

theorem reads_readsSentBack :
    (readsSentBack hit f s).reads = s.reads.map fun d => if hit d then f d else d := by
  rw [readsSentBack, countTimes_eq]

theorem readsSentBack_eq :
    readsSentBack hit f s = { s with
      reads := (readsSentBack hit f s).reads
      dport := { s.dport with readList := (readsSentBack hit f s).dport.readList }
      status := (readsSentBack hit f s).status } := by
  rw [readsSentBack, countTimes_eq]

theorem status_readsSentBack :
    (readsSentBack hit f s).status = { s.status with
      counters := { s.status.counters with requeues := (readsSentBack hit f s).status.counters.requeues } } := by
  rw [readsSentBack, countTimes_eq]
  exact congrArg (fun m => { s.status with counters := m }) (raise_requeues_iterate _ _).1

theorem requeues_readsSentBack :
    (readsSentBack hit f s).status.counters.requeues.toNat = min 65535 (s.status.counters.requeues.toNat +
      (s.reads.filter fun d => hit d && d.state == .ready).length) := by
  rw [readsSentBack, countTimes_eq, ← List.countP_eq_length_filter]
  exact (raise_requeues_iterate _ _).2

theorem reads_readsSentBack_getElem? {i : Nat} {d : DeferredRead} (h : s.reads[i]? = some d) :
    (readsSentBack hit f s).reads[i]? = some (if hit d then f d else d) := by
  rw [reads_readsSentBack, List.getElem?_map, h, Option.map_some]

/-- The Read List loses the members whose entries are hit: each deferred member has a WAITING entry. -/
theorem readList_readsSentBack (hcoherent : s.Coherent) {p : ReadMember → Bool} (hstraight : p .straight = true)
    (hdeferred : ∀ d, p (.deferred d.key) = !hit d) :
    (readsSentBack hit f s).dport.readList = s.dport.readList.filter p := by
  rw [readsSentBack, countTimes_eq]
  refine List.filter_congr fun m hm => ?_
  cases m with
  | straight =>
    rw [hstraight]
    simp
  | deferred key =>
    obtain ⟨d, hd, rfl, hwaiting⟩ := hcoherent.deferredWaits key hm
    have hwithdrawn : ((s.reads.filter fun d => hit d && d.state == .waiting).map fun d =>
        ReadMember.deferred d.key).contains (.deferred d.key) = hit d := by
      cases hh : hit d with
      | true => simpa using ⟨d, ⟨hd, hh, hwaiting⟩, rfl⟩
      | false =>
        have hkey : ∀ e : DeferredRead, e.key = d.key → hit e = false := by
          intro e he
          have h := hdeferred e
          rw [he, hdeferred d, hh] at h
          simpa using h.symm
        simp only [List.contains_eq_mem, List.mem_map, List.mem_filter, decide_eq_false_iff_not]
        rintro ⟨e, ⟨-, he⟩, hek⟩
        rw [hkey e (by injection hek), Bool.false_and] at he
        exact absurd he (by simp)
    rw [hwithdrawn, hdeferred]

end readsSentBack

/-- Settles O32: both ways to send entries back, each as the common change. -/
theorem writesAndAbortsSendDeferredReadsBack : Obligations.WritesAndAbortsSendDeferredReadsBack := by
  unfold Obligations.WritesAndAbortsSendDeferredReadsBack
  refine ⟨?overtaken, ?takenBack⟩
  case overtaken =>
    intro s line n hcoherent hit t
    have ht : t = readsSentBack (fun d => lineOf d.key.address == line) (DeferredRead.overtaken n) s :=
      overtakeReads_eq line n s
    have hbeq (d : DeferredRead) : (lineOf d.key.address == line) = decide (hit d) := rfl
    rw [ht]
    refine ⟨readsSentBack_eq _ _ s, status_readsSentBack _ _ s, by rw [reads_readsSentBack, List.length_map],
      fun i d hd => ?_, readList_readsSentBack _ _ s hcoherent rfl fun d => rfl, requeues_readsSentBack _ _ s⟩
    rw [reads_readsSentBack_getElem? _ _ s hd, hbeq]
    refine ⟨fun hh => ?_, fun hh hstate => ?_, fun hh hstate => ?_, fun hh hstate => ?_⟩ <;> simp only [hh]
    · rfl
    all_goals simp only [DeferredRead.overtaken, hstate]; rfl
  case takenBack =>
    intro s k hcoherent held hit t
    have ht : t = readsSentBack (fun d => s.holds k (lineOf d.key.address))
        (fun d => d.takenBack (s.newestNumber (lineOf d.key.address))) s := takeBackReads_eq k s
    have hholds (d : DeferredRead) : s.holds k (lineOf d.key.address) = hit d := rfl
    rw [ht]
    refine ⟨readsSentBack_eq _ _ s, status_readsSentBack _ _ s, by rw [reads_readsSentBack, List.length_map],
      fun i d hd => ?_, readList_readsSentBack _ _ s hcoherent rfl fun d => rfl, requeues_readsSentBack _ _ s⟩
    rw [reads_readsSentBack_getElem? _ _ s hd, hholds]
    refine ⟨fun hh => ?_, fun hh hstate => ?_, fun hh hstate => ?_⟩
    · obtain hh | hstate := hh
      · rw [hh]
        rfl
      · simp only [DeferredRead.takenBack, hstate, ite_self]
    all_goals simp only [hh, DeferredRead.takenBack, hstate]; rfl

end Sys2Proof.Machine

/-! PROOF. O37, O54: the bits at a place of a value laid out by concatenation, and with them the layouts of the header line,
the descriptor, the result record and the status record. -/

namespace Sys2Proof.Machine

/-! ## Bits at a place -/

/-- The `width` bits of a value from bit `low` up, as a number. -/
def bitsAt {m : Nat} (v : BitVec m) (low width : Nat) : Nat := (v >>> low).toNat % 2 ^ width

section bitsAt

variable {m n : Nat}

theorem bitsAt_eq (v : BitVec m) (low width : Nat) : bitsAt v low width = v.toNat / 2 ^ low % 2 ^ width := by
  rw [bitsAt, BitVec.toNat_ushiftRight, Nat.shiftRight_eq_div_pow]

/-- A field below the join lies in the low part. -/
theorem bitsAt_append_low (hi : BitVec m) (lo : BitVec n) {low width : Nat} (h : low + width ≤ n) :
    bitsAt (hi ++ lo) low width = bitsAt lo low width := by
  obtain ⟨d, hd⟩ := Nat.exists_eq_add_of_le h
  have hpow : 2 ^ n = 2 ^ low * (2 ^ width * 2 ^ d) := by rw [hd, pow_add, pow_add, mul_assoc]
  have hfactor : hi.toNat * 2 ^ n = 2 ^ low * (2 ^ width * (2 ^ d * hi.toNat)) := by
    rw [hpow, mul_comm hi.toNat, mul_assoc, mul_assoc]
  rw [bitsAt_eq, bitsAt_eq, BitVec.toNat_append, ← Nat.shiftLeft_add_eq_or_of_lt lo.isLt, Nat.shiftLeft_eq, hfactor,
    Nat.mul_add_div (by positivity), Nat.mul_add_mod]

/-- A field above the join lies in the high part. -/
theorem bitsAt_append_high (hi : BitVec m) (lo : BitVec n) {low width : Nat} (h : n ≤ low) :
    bitsAt (hi ++ lo) low width = bitsAt hi (low - n) width := by
  obtain ⟨d, rfl⟩ := Nat.exists_eq_add_of_le h
  rw [bitsAt_eq, bitsAt_eq, BitVec.toNat_append, ← Nat.shiftLeft_add_eq_or_of_lt lo.isLt, Nat.shiftLeft_eq,
    Nat.add_sub_cancel_left, Nat.pow_add, ← Nat.div_div_eq_div_mul, mul_comm, Nat.mul_add_div (by positivity),
    Nat.div_eq_of_lt lo.isLt, Nat.add_zero]

theorem bitsAt_whole (v : BitVec m) : bitsAt v 0 m = v.toNat := by
  rw [bitsAt_eq, Nat.pow_zero, Nat.div_one, Nat.mod_eq_of_lt v.isLt]

theorem toNat_extractLsb'_eq (v : BitVec m) (low width : Nat) : (v.extractLsb' low width).toNat = bitsAt v low width := by
  rw [bitsAt_eq, BitVec.extractLsb'_toNat, Nat.shiftRight_eq_div_pow]

theorem eq_extractLsb'_iff (v : BitVec m) (low : Nat) {width : Nat} (x : BitVec width) :
    v.extractLsb' low width = x ↔ bitsAt v low width = x.toNat := by
  rw [← BitVec.toNat_inj, toNat_extractLsb'_eq]

/-- A field of a value's low part is that field of the value. -/
theorem bitsAt_extractLsb' (v : BitVec m) {low width k : Nat} (h : low + width ≤ k) :
    bitsAt (v.extractLsb' 0 k) low width = bitsAt v low width := by
  obtain ⟨d, rfl⟩ := Nat.exists_eq_add_of_le h
  rw [bitsAt_eq, toNat_extractLsb'_eq, bitsAt_eq, bitsAt_eq, Nat.pow_zero, Nat.div_one, Nat.add_assoc, Nat.pow_add,
    Nat.mod_mul_right_div_self, Nat.pow_add, Nat.mod_mul_right_mod]

theorem setWidth_append (hi : BitVec m) (lo : BitVec n) : (hi ++ lo).setWidth n = lo := by
  apply BitVec.eq_of_toNat_eq
  rw [BitVec.toNat_setWidth, BitVec.toNat_append, ← Nat.shiftLeft_add_eq_or_of_lt lo.isLt, Nat.shiftLeft_eq,
    Nat.mul_add_mod_self_right, Nat.mod_eq_of_lt lo.isLt]

theorem toNat_lineWord (l : Line) (i : Nat) : (lineWord l i).toNat = bitsAt l (32 * i) 32 := toNat_extractLsb'_eq l _ _

end bitsAt

/-! ## The check code (R6) -/

theorem crcRemainder_succ {w : Nat} (v : BitVec w) (n : Nat) :
    crcRemainder v (n + 1) = if (crcRemainder v n).getLsbD 0 = v.getLsbD n then crcRemainder v n >>> 1
      else (crcRemainder v n >>> 1) ^^^ (0x04C11DB7#32).reverse := by
  have hreverse : (0x04C11DB7#32).reverse = 0xEDB88320#32 := by decide +kernel
  rw [crcRemainder, crcBit, hreverse]
  cases (crcRemainder v n).getLsbD 0 <;> cases v.getLsbD n <;> rfl

/-! ## The header line (R4, R6, R180) -/

theorem setWidth_encode (h : Header) : h.encode.setWidth 480 = h.body := setWidth_append _ _

/-- A header line's fields at their places, zeros between them. -/
theorem encode_fields (h : Header) :
    bitsAt h.encode 0 64 = h.sequence.toNat ∧ bitsAt h.encode 64 8 = h.kind.code.toNat ∧
    bitsAt h.encode 72 8 = h.context.toNat ∧ bitsAt h.encode 80 8 = h.origin.toNat ∧
    bitsAt h.encode 96 32 = h.line.toNat ∧ bitsAt h.encode 128 64 = h.epoch.toNat ∧
    bitsAt h.encode 192 16 = h.poison.toNat ∧ bitsAt h.encode 224 32 = h.dataCheck.toNat ∧
    bitsAt h.encode 256 16 = h.restored.toNat ∧ bitsAt h.encode 272 16 = h.failed.toNat ∧
    bitsAt h.encode 480 32 = (crc32 h.body).toNat ∧ bitsAt h.encode 88 8 = 0 ∧ bitsAt h.encode 208 16 = 0 ∧
    bitsAt h.encode 288 192 = 0 := by
  simp (disch := omega) only [Header.encode, bitsAt_append_high, bitsAt_whole, Nat.reduceSub]
  simp (disch := omega) only [Header.body, bitsAt_append_low, bitsAt_append_high, bitsAt_whole, Nat.reduceSub]
  simp

theorem ofCode_eq_some_iff (b : Byte) (kind : RecordKind) : RecordKind.ofCode b = some kind ↔ b = kind.code := by
  unfold RecordKind.ofCode
  cases kind <;> simp only [RecordKind.code] <;> grind

/-- A line reads as a header exactly when its check matches and its kind byte holds a kind (R6). -/
theorem decodeHeader_eq_some_iff (l : Line) (h : Header) : decodeHeader l = some h ↔
    bitsAt l 0 64 = h.sequence.toNat ∧ bitsAt l 64 8 = h.kind.code.toNat ∧
    bitsAt l 72 8 = h.context.toNat ∧ bitsAt l 80 8 = h.origin.toNat ∧
    bitsAt l 96 32 = h.line.toNat ∧ bitsAt l 128 64 = h.epoch.toNat ∧
    bitsAt l 192 16 = h.poison.toNat ∧ bitsAt l 224 32 = h.dataCheck.toNat ∧
    bitsAt l 256 16 = h.restored.toNat ∧ bitsAt l 272 16 = h.failed.toNat ∧
    bitsAt l 480 32 = (crc32 (l.setWidth 480)).toNat := by
  obtain ⟨sequence, kind, context, origin, line, epoch, poison, dataCheck, restored, failed⟩ := h
  simp only [decodeHeader, Option.ite_none_right_eq_some, Option.map_eq_some_iff, ofCode_eq_some_iff, Header.mk.injEq,
    ← extractLsb'_zero, eq_extractLsb'_iff]
  simp (disch := omega) only [bitsAt_extractLsb']
  constructor
  · rintro ⟨hcheck, _, hkind, hsequence, rfl, hfields⟩
    grind
  · intro hfields
    exact ⟨by grind, kind, by grind⟩

theorem decodeHeader_encode (h : Header) : decodeHeader h.encode = some h := by
  rw [decodeHeader_eq_some_iff, setWidth_encode]
  grind [encode_fields h]

/-! ## The descriptor (R17, R181) -/

theorem descriptor_fields (g : Geometry) :
    bitsAt g.encode 0 32 = 0x0001B416 ∧ bitsAt g.encode 32 32 = g.base.toNat ∧
    bitsAt g.encode 64 32 = g.slots % 2 ^ 32 ∧ bitsAt g.encode 96 384 = 0 ∧
    bitsAt g.encode 480 32 = (crc32 g.body).toNat := by
  simp (disch := omega) only [Geometry.encode, bitsAt_append_high, bitsAt_whole, Nat.reduceSub]
  simp (disch := omega) only [Geometry.body, bitsAt_append_low, bitsAt_append_high, bitsAt_whole, Nat.reduceSub]
  simp only [Config.descriptorFormat, BitVec.toNat_ofNat, Nat.zero_mod, and_true]

theorem setWidth_descriptor (g : Geometry) : g.encode.setWidth 480 = g.body := setWidth_append _ _

/-- The words of a descriptor line. -/
theorem lineWord_descriptor (g : Geometry) :
    lineWord g.encode 0 = 0x0001B416#32 ∧ lineWord g.encode 1 = g.base ∧
    lineWord g.encode 2 = BitVec.ofNat 32 g.slots ∧ lineWord g.encode 15 = crc32 (g.encode.setWidth 480) := by
  obtain ⟨hformat, hbase, hslots, -, hcheck⟩ := descriptor_fields g
  rw [setWidth_descriptor]
  refine ⟨?_, ?_, ?_, ?_⟩ <;> apply BitVec.eq_of_toNat_eq <;> rw [toNat_lineWord]
  · exact hformat
  · exact hbase
  · exact hslots.trans (BitVec.toNat_ofNat _ _).symm
  · exact hcheck

theorem decodeDescriptor_encode {window : Nat} {g : Geometry} (hslots : g.slots ≤ 65536)
    (hplaced : g.placed window = true) : decodeDescriptor window g.encode = some g := by
  obtain ⟨hformat, hbase, hcount, hcheck⟩ := lineWord_descriptor g
  have hgeometry : (⟨lineWord g.encode 1, (lineWord g.encode 2).toNat⟩ : Geometry) = g := by
    rw [hbase, hcount, BitVec.toNat_ofNat, Nat.mod_eq_of_lt (by omega)]
  rw [decodeDescriptor_eq, hgeometry, if_pos ⟨hformat, hcheck, hplaced⟩]

/-- Settles O54: the check's remainder bit by bit, and the two layouts by their fields. -/
theorem journalLinesReadBackAsWritten : Obligations.JournalLinesReadBackAsWritten := by
  unfold Obligations.JournalLinesReadBackAsWritten
  intro field code holds
  have hcode (kind : RecordKind) : code kind = kind.code.toNat := by cases kind <;> rfl
  have hholds (l : Line) (h : Header) : holds l h ↔ decodeHeader l = some h := by
    rw [decodeHeader_eq_some_iff, ← hcode]
    exact ⟨fun ⟨h1, h2, h3, h4, h5, h6, h7, h8, h9, h10, h11⟩ => ⟨h1, h2, h3, h4, h5, h6, h7, h8, h9, h10, h11⟩, id⟩
  refine ⟨fun w v => ⟨crcRemainder v, rfl, rfl, fun n _ => crcRemainder_succ v n⟩, Tests.test_crc32_of_123456789,
    fun h => ?_, fun l h => (hholds l h).symm, decodeHeader_encode, ?_⟩
  · obtain ⟨-, -, -, -, -, -, -, -, -, -, -, hzero11, hzero26, hzero36⟩ := encode_fields h
    exact ⟨(hholds _ _).2 (decodeHeader_encode h), hzero11, hzero26, hzero36⟩
  · intro g window haligned hmin hmax hend hwindow
    exact decodeDescriptor_encode hmax ((placed_iff window g).2 ⟨haligned, hmin, hmax, hend, hwindow⟩)

/-! ## The result record (R116, R184) -/

theorem Termination.toNat_code (t : Termination) : t.code.toNat = match t with
    | .complete => 0
    | .partly => 1
    | .refused => 2 := by
  cases t <;> rfl

theorem ResultReason.toNat_code (r : ResultReason) : r.code.toNat = match r with
    | .noReason => 0
    | .state => 1
    | .limit => 2
    | .noJournal => 3
    | .journalFull => 4
    | .geometry => 5
    | .opcode => 6
    | .sequence => 7
    | .restoreFailed => 8 := by
  cases r <;> rfl

/-- A number of a range laid out in two fields. -/
theorem split_bits {n a b : Nat} (h : n < 2 ^ (a + b)) :
    bitsAt (BitVec.ofNat (a + b) n) 0 a + 2 ^ a * bitsAt (BitVec.ofNat (a + b) n) a b = n := by
  rw [bitsAt_eq, bitsAt_eq, BitVec.toNat_ofNat, Nat.mod_eq_of_lt h, Nat.pow_zero, Nat.div_one,
    Nat.mod_eq_of_lt (a := n / 2 ^ a) (by rw [Nat.div_lt_iff_lt_mul (by positivity), ← Nat.pow_add, Nat.add_comm]; exact h)]
  exact Nat.mod_add_div n (2 ^ a)

theorem result_fields (r : ResultFields) :
    bitsAt r.encode 0 8 = r.resultCount.toNat ∧ bitsAt r.encode 8 8 = r.word.tag.toNat ∧
    bitsAt r.encode 16 4 = r.word.opcode.toNat ∧ bitsAt r.encode 20 2 = r.termination.code.toNat ∧
    bitsAt r.encode 22 1 = (BitVec.ofBool r.epoch.isSome).toNat ∧ bitsAt r.encode 24 4 = r.reason.code.toNat ∧
    bitsAt r.encode 32 8 = bitsAt (BitVec.ofNat 10 r.lineCount) 0 8 ∧
    bitsAt r.encode 28 2 = bitsAt (BitVec.ofNat 10 r.lineCount) 8 2 ∧
    bitsAt r.encode 40 8 = bitsAt (BitVec.ofNat 10 r.failedCount) 0 8 ∧
    bitsAt r.encode 30 2 = bitsAt (BitVec.ofNat 10 r.failedCount) 8 2 ∧
    bitsAt r.encode 48 16 = bitsAt (BitVec.ofNat 17 r.free) 0 16 ∧
    bitsAt r.encode 23 1 = bitsAt (BitVec.ofNat 17 r.free) 16 1 ∧
    bitsAt r.encode 64 64 = (r.epoch.getD 0).toNat := by
  simp (disch := omega) only [ResultFields.encode, bitsAt_append_low, bitsAt_append_high, bitsAt_whole, Nat.reduceSub]
  simp only [Nat.reduceAdd, Nat.reduceSub, bitsAt_whole, toNat_extractLsb'_eq, and_self]

/-! ## The status record (R176, R185) -/

theorem statusFirst_fields (s : State) (n : BitVec 32) :
    bitsAt (s.statusFirstLine n) 0 32 = n.toNat ∧ bitsAt (s.statusFirstLine n) 32 8 = s.device.code.toNat ∧
    bitsAt (s.statusFirstLine n) 40 8 = s.journal.state.byte.toNat ∧
    bitsAt (s.statusFirstLine n) 48 8 = s.status.causes.toNat ∧
    bitsAt (s.statusFirstLine n) 56 8 = s.settings.interruptMask.toNat ∧
    bitsAt (s.statusFirstLine n) 64 8 = (ErrorKind.code s.status.lastError.kind).toNat ∧
    bitsAt (s.statusFirstLine n) 72 8 = (BitVec.ofNat 8 s.queueDepth).toNat ∧
    bitsAt (s.statusFirstLine n) 80 8 = (BitVec.ofNat 8 s.reads.length).toNat ∧
    bitsAt (s.statusFirstLine n) 88 8 = (0#8).toNat ∧
    bitsAt (s.statusFirstLine n) 96 16 = (BitVec.ofNat 16 s.held.length).toNat ∧
    bitsAt (s.statusFirstLine n) 112 16 = (BitVec.ofNat 16 s.totalReserved).toNat ∧
    bitsAt (s.statusFirstLine n) 128 32 = s.status.lastError.address.toNat ∧
    bitsAt (s.statusFirstLine n) 160 32 = ((s.journal.geometry.map Geometry.base).getD 0).toNat ∧
    bitsAt (s.statusFirstLine n) 192 32 = (BitVec.ofNat 32 s.slotCount).toNat ∧
    bitsAt (s.statusFirstLine n) 224 32 = (BitVec.ofNat 32 s.free).toNat ∧
    bitsAt (s.statusFirstLine n) 256 64 = s.journal.head.toNat ∧
    bitsAt (s.statusFirstLine n) 320 64 = s.journal.tail.toNat ∧
    bitsAt (s.statusFirstLine n) 384 16 = s.startup.rolledBack.toNat ∧
    bitsAt (s.statusFirstLine n) 400 16 = s.startup.linesRestored.toNat ∧
    bitsAt (s.statusFirstLine n) 416 16 = s.startup.linesFailed.toNat ∧
    bitsAt (s.statusFirstLine n) 432 16 = s.status.counters.captures.toNat ∧
    bitsAt (s.statusFirstLine n) 448 16 = s.status.counters.conflicts.toNat ∧
    bitsAt (s.statusFirstLine n) 464 16 = s.status.counters.spaceFaults.toNat ∧
    bitsAt (s.statusFirstLine n) 480 16 = s.status.counters.fullRetries.toNat ∧
    bitsAt (s.statusFirstLine n) 496 16 = (0#16).toNat := by
  simp (disch := omega) only [State.statusFirstLine, bitsAt_append_low, bitsAt_append_high, bitsAt_whole, Nat.reduceSub,
    and_self]

/-- The four contexts' fields of the second line, at their bit places. -/
theorem statusSecond_contexts (s : State) (n : BitVec 32) :
    bitsAt (s.statusSecondLine n) 32 8 = s.contexts[0].byte.toNat ∧
    bitsAt (s.statusSecondLine n) 64 64 = (s.contexts[0].epoch.getD 0).toNat ∧
    bitsAt (s.statusSecondLine n) 320 16 = (BitVec.ofNat 16 (s.heldCount 0)).toNat ∧
    bitsAt (s.statusSecondLine n) 40 8 = s.contexts[1].byte.toNat ∧
    bitsAt (s.statusSecondLine n) 128 64 = (s.contexts[1].epoch.getD 0).toNat ∧
    bitsAt (s.statusSecondLine n) 336 16 = (BitVec.ofNat 16 (s.heldCount 1)).toNat ∧
    bitsAt (s.statusSecondLine n) 48 8 = s.contexts[2].byte.toNat ∧
    bitsAt (s.statusSecondLine n) 192 64 = (s.contexts[2].epoch.getD 0).toNat ∧
    bitsAt (s.statusSecondLine n) 352 16 = (BitVec.ofNat 16 (s.heldCount 2)).toNat ∧
    bitsAt (s.statusSecondLine n) 56 8 = s.contexts[3].byte.toNat ∧
    bitsAt (s.statusSecondLine n) 256 64 = (s.contexts[3].epoch.getD 0).toNat ∧
    bitsAt (s.statusSecondLine n) 368 16 = (BitVec.ofNat 16 (s.heldCount 3)).toNat := by
  simp (disch := omega) only [State.statusSecondLine, bitsAt_append_low, bitsAt_append_high, bitsAt_whole, Nat.reduceSub]
  exact ⟨trivial, rfl, trivial, trivial, rfl, trivial, trivial, rfl, trivial, trivial, rfl, trivial⟩

theorem statusSecond_context (s : State) (n : BitVec 32) (k : Fin 4) :
    bitsAt (s.statusSecondLine n) (8 * (4 + k.val)) 8 = s.contexts[k].byte.toNat ∧
    bitsAt (s.statusSecondLine n) (8 * (8 + 8 * k.val)) 64 = (s.contexts[k].epoch.getD 0).toNat ∧
    bitsAt (s.statusSecondLine n) (8 * (40 + 2 * k.val)) 16 = (BitVec.ofNat 16 (s.heldCount k)).toNat := by
  obtain ⟨h0, h1, h2, h3, h4, h5, h6, h7, h8, h9, h10, h11⟩ := statusSecond_contexts s n
  match k with
  | 0 => exact ⟨h0, h1, h2⟩
  | 1 => exact ⟨h3, h4, h5⟩
  | 2 => exact ⟨h6, h7, h8⟩
  | 3 => exact ⟨h9, h10, h11⟩

theorem statusSecond_fields (s : State) (n : BitVec 32) :
    bitsAt (s.statusSecondLine n) 0 32 = n.toNat ∧
    bitsAt (s.statusSecondLine n) 384 16 = s.status.counters.discards.toNat ∧
    bitsAt (s.statusSecondLine n) 400 16 = s.status.counters.requeues.toNat ∧
    bitsAt (s.statusSecondLine n) 416 16 = s.status.counters.parityErrors.toNat ∧
    bitsAt (s.statusSecondLine n) 432 16 = s.status.counters.poisonReads.toNat ∧
    bitsAt (s.statusSecondLine n) 448 16 = s.status.counters.patrolRenews.toNat ∧
    bitsAt (s.statusSecondLine n) 464 16 = s.status.counters.patrolBad.toNat ∧
    bitsAt (s.statusSecondLine n) 480 16 = s.status.counters.restoreFails.toNat ∧
    bitsAt (s.statusSecondLine n) 496 16 = s.status.counters.abandoned.toNat := by
  simp (disch := omega) only [State.statusSecondLine, bitsAt_append_low, bitsAt_append_high, bitsAt_whole, Nat.reduceSub,
    and_self]

theorem DeviceState.toNat_code (d : DeviceState) : d.code.toNat = match d with
    | .start => 0
    | .load => 1
    | .scan => 2
    | .playback => 3
    | .run => 4
    | .stopped => 5 := by
  cases d <;> rfl

theorem JournalState.toNat_byte (j : JournalState) : j.byte.toNat = match j with
    | .recovering => 0
    | .absent .descriptorInvalid => 1 + 16
    | .absent .scanFailed => 1 + 32
    | .formatting => 2
    | .ready => 3 := by
  cases j with
  | absent reason => cases reason <;> rfl
  | _ => rfl

theorem ErrorKind.toNat_code (kind : Option ErrorKind) : (ErrorKind.code kind).toNat = match kind with
    | none => 0
    | some .writeParity => 1
    | some .capturePoison => 2
    | some .captureFail => 3
    | some .unbackedWrite => 4
    | some .patrolUncorrectable => 5
    | some .loadInvalid => 6
    | some .scanFailed => 7 := by
  obtain _ | kind := kind
  · rfl
  · cases kind <;> rfl

/-- A context's byte: its state, and 128 with an epoch ID. -/
theorem Context.toNat_byte (c : Context) : c.byte.toNat = (match c.state with
    | .closed => 0
    | .opened => 1
    | .closing => 2
    | .aborting => 3) + (if c.epoch.isSome then 128 else 0) := by
  unfold Context.byte
  generalize c.epoch.isSome = present
  cases c.state <;> cases present <;> decide

theorem toNat_ofNat_of_lt {w n : Nat} (h : n < 2 ^ w) : (BitVec.ofNat w n).toNat = n := by
  rw [BitVec.toNat_ofNat, Nat.mod_eq_of_lt h]

/-- Settles O37: the three layouts by their fields, and the values within the fields' ranges. -/
theorem reportLayouts : Obligations.ReportLayouts := by
  unfold Obligations.ReportLayouts
  refine ⟨?result, ?first, ?second⟩
  case result =>
    intro r hlines hfailed hfree field
    obtain ⟨hcount, htag, hopcode, htermination, hepoch, hreason, hlow, hhigh, hflow, hfhigh, hfreeLow, hfreeHigh, hid⟩ :=
      result_fields r
    have hlinesSplit := split_bits (a := 8) (b := 2) (n := r.lineCount) (by omega)
    have hfailedSplit := split_bits (a := 8) (b := 2) (n := r.failedCount) (by omega)
    have hfreeSplit := split_bits (a := 16) (b := 1) (n := r.free) (by omega)
    refine ⟨hcount, htag, hopcode, htermination.trans (Termination.toNat_code _), hepoch.trans ?_,
      hreason.trans (ResultReason.toNat_code _), ?_, ?_, ?_, hid⟩
    · cases r.epoch <;> rfl
    · exact (congrArg₂ (fun a b => a + 256 * b) hlow hhigh).trans hlinesSplit
    · exact (congrArg₂ (fun a b => a + 256 * b) hflow hfhigh).trans hfailedSplit
    · exact (congrArg₂ (fun a b => a + 65536 * b) hfreeLow hfreeHigh).trans hfreeSplit
  case first =>
    intro s n hslots hqueue hreads hheld hreserved field
    obtain ⟨hn, hdevice, hjournal, hcauses, hmask, hkind, hdepth, hread, hzero, hlines, htotal, haddress, hbase, hslot, hfree,
      hhead, htail, hrolled, hrestored, hfailed, hcaptures, hconflicts, hspace, hfull, hend⟩ := statusFirst_fields s n
    have hslotCount : s.slotCount ≤ 65536 := by
      unfold State.slotCount
      cases hg : s.journal.geometry with
      | none => exact Nat.zero_le _
      | some g => exact hslots g hg
    have hfreeRange : s.free ≤ 65536 := by
      unfold State.free
      split <;> omega
    refine ⟨hn, hdevice.trans (DeviceState.toNat_code _), hjournal.trans (JournalState.toNat_byte _), hcauses, hmask,
      hkind.trans (ErrorKind.toNat_code _), hdepth.trans (toNat_ofNat_of_lt (by rw [State.queueDepth]; omega)),
      hread.trans (toNat_ofNat_of_lt (by omega)), hzero, hlines.trans (toNat_ofNat_of_lt (by omega)),
      htotal.trans (toNat_ofNat_of_lt (by omega)), haddress, fun g hg => ⟨hbase.trans ?_, hslot.trans ?_⟩,
      fun hg => ⟨hbase.trans ?_, hslot.trans ?_⟩, hfree.trans (toNat_ofNat_of_lt (by omega)), hhead, htail, hrolled,
      hrestored, hfailed, hcaptures, hconflicts, hspace, hfull, hend⟩
    · rw [hg]
      rfl
    · rw [toNat_ofNat_of_lt (by omega), slotCount_of_geometry hg]
    · rw [hg]
      rfl
    · simp only [State.slotCount, hg]
      rfl
  case second =>
    intro s n hheld field
    obtain ⟨hn, hdiscards, hrequeues, hparity, hpoison, hrenews, hbad, hrestore, habandoned⟩ := statusSecond_fields s n
    refine ⟨hn, fun k => ?_, hdiscards, hrequeues, hparity, hpoison, hrenews, hbad, hrestore, habandoned⟩
    obtain ⟨hbyte, hepoch, hcount⟩ := statusSecond_context s n k
    refine ⟨hbyte.trans (Context.toNat_byte _), hepoch.trans ?_, hcount.trans ?_⟩
    · cases s.contexts[k].epoch <;> rfl
    · have hle : (s.held.filter fun e => e.holder == k).length ≤ s.held.length := List.length_filter_le _ _
      rw [heldCount_eq, toNat_ofNat_of_lt (by omega)]

end Sys2Proof.Machine

/-! PROOF. O33, O35, O36: the responses to the steps of a capture, and the requests of entries and jobs. -/

namespace Sys2Proof.Machine

/-! ## The steps of a capture (R36, R69 to R72) -/

/-- The state with OLD_READ answered: the buffer filled, the data line next. -/
def State.oldReadKept (s : State) (b : CaptureBuffer) : State :=
  { s with engine := { s.engine with buffer := some b, work := some (.entry (.recordData none)) } }

section oldRead

variable {s : State} {e : PostedEntry}

theorem oldReadAnswered_of_readable {bytes : Line} {st : Vector WordStatus 16}
    (hreadable : ∀ i : Fin 16, st[i] = .clean ∨ st[i] = .corrected) :
    oldReadAnswered e (.data bytes st) s = s.oldReadKept ⟨bytes, st, false⟩ := if_pos (uncorrectable_of_readable hreadable)

theorem oldReadAnswered_of_poison {bytes : Line} {st : Vector WordStatus 16} (hpoison : ∃ i : Fin 16, st[i] = .uncorrectable) :
    oldReadAnswered e (.data bytes st) s = raiseError .capturePoison e.line (s.oldReadKept ⟨bytes, st, false⟩) :=
  if_neg fun hzero => hpoison.elim fun i hi => (uncorrectable_eq_zero st).1 hzero i hi

theorem oldReadAnswered_of_failed {r : Reply} (hr : r = .fail ∨ r = .unbacked) :
    oldReadAnswered e r s = raiseError .captureFail e.line (s.oldReadKept CaptureBuffer.ofFailure) := by
  obtain rfl | rfl := hr <;> rfl

end oldRead

theorem owner_of_context {e : PostedEntry} {k : Requester} (h : e.context = some k) : e.owner = k := by
  rw [PostedEntry.owner, h, Option.getD_some]

/-- Settles O33: each step's response by the rule of its step. -/
theorem captureStepsLeadOn : Obligations.CaptureStepsLeadOn := by
  unfold Obligations.CaptureStepsLeadOn
  refine ⟨?oldRead, ?record⟩
  case oldRead =>
    intro s issue line e rest hcarries hwork hqueue kept
    have hexec (resp : MemResponse) : exec (.oldReadResponse issue resp) s =
        .next (afterEvent (oldReadAnswered e (replyOf (.read line) resp) (releasePort s))) :=
      congrArg _ (takeResponse_of_entry hcarries hwork hqueue resp)
    refine ⟨fun bytes st hreadable => ?_, fun bytes st hnamed hpoison => ?_, fun resp hfails => ?_⟩
    · refine next_afterEvent_of_eq (hexec _) ?_
      rw [replyOf_read_readable line hreadable]
      exact oldReadAnswered_of_readable hreadable
    · refine next_afterEvent_of_eq (hexec _) ?_
      rw [replyOf_read_data, if_pos hnamed]
      exact oldReadAnswered_of_poison hpoison
    · exact ⟨CaptureBuffer.ofFailure, rfl,
        next_afterEvent_of_eq (hexec _) (oldReadAnswered_of_failed (replyOf_failsRead hfails))⟩
  case record =>
    intro s issue r e rest k q hcarries hwrite hqueue hcontext
    have hreply := replyOf_done_of_isWrite hwrite
    refine ⟨fun hwork => ?_, fun hwork => ?_⟩
    · refine next_afterEvent_of_eq (congrArg _ (takeResponse_of_entry hcarries hwork hqueue .done)) ?_
      rw [hreply]
      rfl
    · refine next_afterEvent_of_eq (congrArg _ (takeResponse_of_entry hcarries hwork hqueue .done)) ?_
      rw [hreply, entryAnswered, recordHeaderAnswered, owner_of_context hcontext]
      rfl

/-! ## The requests of an entry (R5, R13, R67, R69 to R71) -/

theorem getLsbD_wordBits (m : WordMask) (n : Nat) {i : Nat} (hi : i < 512) :
    (wordBits m n).getLsbD i = (decide (i / 32 < n) && m.getLsbD (i / 32)) := by
  induction n with
  | zero => simp [wordBits]
  | succ n ih =>
    have hones : (if m.getLsbD n then (0xFFFFFFFF#512 <<< (32 * n)) else 0).getLsbD i =
        (decide (i / 32 = n) && m.getLsbD n) := by
      have hword : (0xFFFFFFFF#512).getLsbD (i - 32 * n) = decide (i - 32 * n < 32) := by
        rw [show (0xFFFFFFFF#512) = BitVec.ofNat 512 (2 ^ 32 - 1) from rfl, BitVec.getLsbD_ofNat,
          Nat.testBit_two_pow_sub_one, decide_eq_true (show i - 32 * n < 512 by omega), Bool.true_and]
      cases m.getLsbD n
      · simp
      · simp only [if_true, BitVec.getLsbD_shiftLeft, hword, hi, decide_true, Bool.true_and, Bool.and_true]
        rw [Bool.eq_iff_iff]
        simp
        omega
    rw [wordBits, BitVec.getLsbD_or, ih, hones]
    by_cases heq : i / 32 = n
    · simp [heq]
    · have : i / 32 < n + 1 ↔ i / 32 < n := by omega
      simp [heq, this]

/-- Zeroing the marked words of a line. -/
theorem lineWord_zeroWords (m : WordMask) (l : Line) (n : Fin 16) :
    lineWord (zeroWords m l) n = if m.getLsbD n then 0 else lineWord l n := by
  apply BitVec.eq_of_getLsbD_eq
  intro i hi
  have hbit : 32 * n.val + i < 512 := by omega
  have hword : (32 * n.val + i) / 32 = n.val := by omega
  have hn : n.val < 16 := n.isLt
  simp only [lineWord, zeroWords, BitVec.getLsbD_extractLsb', BitVec.getLsbD_and, BitVec.getLsbD_not, hbit, decide_true,
    Bool.true_and, getLsbD_wordBits m 16 hbit, hword, hn]
  cases m.getLsbD n <;> simp

theorem getLsbD_poison (b : CaptureBuffer) (n : Fin 16) :
    b.poison.getLsbD n = (b.failed || (b.statuses[n]? == some .uncorrectable)) := by
  rw [CaptureBuffer.poison]
  cases b.failed
  · exact getLsbD_uncorrectable_eq _ _
  · exact (BitVec.getLsbD_allOnes).trans (decide_eq_true n.isLt)

theorem allocate_eq {s : State} (k : Requester) (h : s.journal.head ≠ lastSequence) :
    allocate k s = { s with journal := { s.journal with
      head := s.journal.head + 1, reserved := s.journal.reserved.set k (s.journal.reserved[k] - 1) } } := by
  rw [allocate, raiseHead, if_neg h]
  rfl

section entryIssue

variable {s : State} {e : PostedEntry} {rest : List PostedEntry}

theorem engineIssue_of_entry {step : EntryStep} (hqueue : s.queue.entries = e :: rest)
    (hwork : s.engine.work = some (.entry step)) : engineIssue s = some (entryIssue s.ring e s step) := by
  simp only [engineIssue, hwork, hqueue]

theorem captured_of_buffer {b : CaptureBuffer} (h : s.engine.buffer = some b) : s.captured = b := by
  rw [State.captured, h, Option.getD_some]

end entryIssue

/-- Settles O35: the requests of the four steps of an entry. -/
theorem entryRequestsCarryTheirFields : Obligations.EntryRequestsCarryTheirFields := by
  unfold Obligations.EntryRequestsCarryTheirFields
  refine ⟨fun s e rest hqueue => ⟨engineIssue_of_entry hqueue, engineIssue_of_entry hqueue⟩, ?_⟩
  intro s e rest g b hqueue hgeometry hbuffer untrusted slotLine full k hcontext
  have howner := owner_of_context hcontext
  have hring := ring_of_geometry hgeometry
  have hcaptured := captured_of_buffer hbuffer
  refine ⟨b.dataLine, b.poison, fun n => ?_, getLsbD_poison b, fun x hwork hhead => ?_, fun q hwork epoch hepoch => ?_⟩
  · rw [CaptureBuffer.dataLine, lineWord_zeroWords, getLsbD_poison]
    rfl
  · rw [engineIssue_of_entry hqueue hwork, entryIssue, howner, allocate_eq k hhead, hring, hcaptured]
    rfl
  · subst howner
    rw [engineIssue_of_entry hqueue hwork, entryIssue, hring, hcaptured, hepoch]
    rfl

/-! ## The requests of jobs (R13, R19, R25, R76, R116, R117) -/

section jobIssue

variable {s : State} {k : Requester} {j : Job} {rest : List Job}

theorem engineIssue_of_job {step : JobStep} (hjobs : s.jobs = j :: rest) (howner : j.owner = .slot k)
    (hwork : s.engine.work = some (.write step)) : engineIssue s = some (markerIssue k j s step) := by
  simp only [engineIssue, hwork, hjobs, howner]
  rfl

theorem resultFields_of_decision {d : Decision} (h : s.slots[k].decision = some d) :
    s.resultFields j k = ⟨s.slots[k].resultCount + 1, d.word, j.termination, j.reason,
      if j.kind = .openEpoch ∨ j.kind = .commit ∨ j.kind = .abort then s.contexts[k].epoch else none,
      j.lineCount, j.failedCount, s.free⟩ := by
  have hreports : j.reportsEpoch = true ↔ j.kind = .openEpoch ∨ j.kind = .commit ∨ j.kind = .abort := by
    simp [Job.reportsEpoch, or_assoc]
  simp only [State.resultFields, h, Option.map_some, Option.getD_some, hreports]

theorem byteMaskAt_result (k : Requester) : byteMaskAt (16 * k.val) 16 = 0xFFFF#64 <<< (16 * k.val) := rfl

end jobIssue

/-- Settles O36: the requests of the job steps of one WRITE. -/
theorem jobRequestsCarryTheirFields : Obligations.JobRequestsCarryTheirFields := by
  unfold Obligations.JobRequestsCarryTheirFields
  intro full
  refine ⟨fun s k j rest hjobs howner => ⟨?invalidate, ?result, fun d hd => resultFields_of_decision hd⟩, ?_⟩
  case invalidate => exact engineIssue_of_job hjobs howner
  case result =>
    intro hwork
    exact ⟨_, rfl, engineIssue_of_job hjobs howner hwork⟩
  intro s k j rest g hjobs howner hgeometry slotLine q allocated marker c context
  have hring := ring_of_geometry hgeometry
  have hissue {step : JobStep} (hwork : s.engine.work = some (.write step)) :
      engineIssue s = some (markerIssue k j s step) := engineIssue_of_job hjobs howner hwork
  refine ⟨fun hhead => ⟨fun hwork => ?_, fun hwork => ?_, fun hwork => ?_⟩, fun i hwork => ?_, fun hwork => ?_⟩
  · rw [hissue hwork, markerIssue, allocate_eq k hhead, hring]
    rfl
  · rw [hissue hwork, markerIssue, allocate_eq k hhead, hring]
    rfl
  · rw [hissue hwork, markerIssue, allocate_eq k hhead, hring]
    rfl
  · rw [hissue hwork, markerIssue, hring]
    rfl
  · obtain ⟨hformat, hbase, hslots, hcheck⟩ := lineWord_descriptor g
    refine ⟨g.encode, ?_, hformat, hbase, hslots, hcheck, ?_⟩
    · rw [hissue hwork, markerIssue, hring]
      rfl
    · apply BitVec.eq_of_toNat_eq
      obtain ⟨-, -, -, hzero, -⟩ := descriptor_fields g
      rw [BitVec.toNat_setWidth]
      exact hzero

end Sys2Proof.Machine

/-! PROOF. O38 to O42: the responses to job steps, to the restore step and to the status record, and the failures of the
part's own writes. -/

namespace Sys2Proof.Machine

/-! ## A response to a job step of one WRITE (R76, R77, R79) -/

section jobResponse

variable {s : State} {issue : Byte} {r : DportRequest} {j : Job} {rest : List Job} {k : Requester}

theorem engineAnswered_of_job {step : JobStep} (hjobs : s.jobs = j :: rest) (hwork : s.engine.work = some (.write step))
    (reply : Reply) : engineAnswered reply s = jobWriteAnswered j.owner.slotNumber step reply s := by
  simp only [engineAnswered, hwork, hjobs]

theorem takeResponse_of_engine (hcarries : s.carries issue .writeEngine r) (resp : MemResponse) :
    takeResponse issue resp s = afterEvent (engineAnswered (replyOf r resp) (releasePort s)) :=
  takeResponse_of_carries hcarries resp

/-- DONE to a job step's WRITE has the effect of the step's rule. -/
theorem takeResponse_of_jobDone {step : JobStep} (hcarries : s.carries issue .writeEngine r) (hwrite : r.isWrite = true)
    (hjobs : s.jobs = j :: rest) (howner : j.owner = .slot k) (hwork : s.engine.work = some (.write step)) :
    takeResponse issue .done s = afterEvent (jobWriteDone k (releasePort s) step) := by
  rw [takeResponse_of_engine hcarries, engineAnswered_of_job (s := releasePort s) hjobs hwork,
    replyOf_done_of_isWrite hwrite, howner]
  rfl

theorem updHeadJob_of_cons (hjobs : s.jobs = j :: rest) (f : Job → Job) :
    updHeadJob f s = { s with jobs := f j :: rest } := by
  simp only [updHeadJob, hjobs]

/-- A raise places its status job behind the oldest job, whose step does not matter to it. -/
theorem updHeadJob_raiseCause (c : Cause) (hjobs : s.jobs = j :: rest) {f : Job → Job} (howner : (f j).owner = j.owner) :
    updHeadJob f (raiseCause c s) = raiseCause c { s with jobs := f j :: rest } := by
  rw [raiseCause_eq, raiseCause_eq]
  simp only [updHeadJob, jobsWhenDirty, State.hasStatusJob, hjobs, List.any_cons, howner]
  split_ifs <;> simp_all

theorem updHeadJob_lowTest (freeBefore markBefore : Nat) (hjobs : s.jobs = j :: rest) {f : Job → Job}
    (howner : (f j).owner = j.owner) :
    updHeadJob f (lowTest freeBefore markBefore s) = lowTest freeBefore markBefore { s with jobs := f j :: rest } := by
  have hfree : ({ s with jobs := f j :: rest } : State).free = s.free := free_congr rfl
  have hready : ({ s with jobs := f j :: rest } : State).journalReady = s.journalReady := rfl
  rw [lowTest, lowTest, hfree, hready]
  split
  · exact updHeadJob_raiseCause _ hjobs howner
  · exact updHeadJob_of_cons hjobs f

theorem updHeadJob_lowTestAtReady (hjobs : s.jobs = j :: rest) {f : Job → Job} (howner : (f j).owner = j.owner) :
    updHeadJob f (lowTestAtReady s) = lowTestAtReady { s with jobs := f j :: rest } := by
  have hfree : ({ s with jobs := f j :: rest } : State).free = s.free := free_congr rfl
  rw [lowTestAtReady, lowTestAtReady, hfree]
  split
  · exact updHeadJob_raiseCause _ hjobs howner
  · exact updHeadJob_of_cons hjobs f

theorem setUnit_lowTestAtReady (unit : Option WorkUnit) (s : State) :
    setUnit unit (lowTestAtReady s) = lowTestAtReady (setUnit unit s) := by
  have hfree : (setUnit unit s).free = s.free := free_congr rfl
  have hsettings : (setUnit unit s).settings = s.settings := rfl
  rw [lowTestAtReady, lowTestAtReady, hfree, hsettings]
  split
  · rw [raiseCause_eq, raiseCause_eq]
    rfl
  · rfl

/-- A context closed by its end marker, with the oldest job moved on: the LOW test is the event's last act. -/
theorem updHeadJob_closeContext (hjobs : s.jobs = j :: rest) {f : Job → Job} (howner : (f j).owner = j.owner) :
    updHeadJob f (closeContext k s) =
      let u : State := { s with contexts := s.contexts.set k { s.contexts[k] with state := .closed }, jobs := f j :: rest }
      lowTest s.free s.settings.lowMark { u with journal := { s.journal with tail := u.liveTail } } := by
  have hfree : (updContext k (fun c => { c with state := .closed }) s).free = s.free := free_congr rfl
  rw [closeContext, recomputeTail, hfree]
  exact updHeadJob_lowTest (s := { s with
    contexts := s.contexts.set k { s.contexts[k] with state := .closed }
    journal := { s.journal with tail := (updContext k (fun c => { c with state := .closed }) s).liveTail } }) _ _ hjobs howner

end jobResponse

/-- Settles O38: the three markers' durable events. -/
theorem markersDurableMoveTheirContext : Obligations.MarkersDurableMoveTheirContext := by
  unfold Obligations.MarkersDurableMoveTheirContext
  refine ⟨?openRecord, ?ends⟩
  case openRecord =>
    intro s issue r j rest k hcarries hwrite hjobs howner hwork
    refine next_afterEvent_of_eq (congrArg _ (takeResponse_of_jobDone hcarries hwrite hjobs howner hwork)) ?_
    exact updHeadJob_of_cons (s := setUnit none (updContext k (fun c => { c with openOwed := false }) (releasePort s))) hjobs _
  case ends =>
    intro s issue r j rest k hcarries hwrite hjobs howner c closed
    refine ⟨fun hwork => ?_, fun hwork => ?_⟩ <;>
      refine next_afterEvent_of_eq (congrArg _ (takeResponse_of_jobDone hcarries hwrite hjobs howner hwork)) ?_
    · have hfree : (releaseHeld k (setUnit none (releasePort s))).free = s.free := free_congr rfl
      refine (updHeadJob_closeContext (s := releaseHeld k (setUnit none (releasePort s))) hjobs rfl).trans ?_
      rw [hfree, heldCount_eq]
      rfl
    · have hfree : (setUnit none (releasePort s)).free = s.free := free_congr rfl
      refine (updHeadJob_closeContext (s := setUnit none (releasePort s)) hjobs rfl).trans ?_
      rw [hfree]
      rfl

/-- Settles O40: the steps of REINIT and the result record. -/
theorem reinitStepsAndResultRecord : Obligations.ReinitStepsAndResultRecord := by
  unfold Obligations.ReinitStepsAndResultRecord
  refine ⟨?steps, ?result⟩
  case steps =>
    intro s issue r j rest k g hcarries hwrite hjobs howner hgeometry ended
    refine ⟨fun hwork => ?_, fun i hwork => ?_, fun hwork => ?_⟩ <;>
      refine next_afterEvent_of_eq (congrArg _ (takeResponse_of_jobDone hcarries hwrite hjobs howner hwork)) ?_
    · exact updHeadJob_of_cons (s := setUnit none (releasePort s)) hjobs _
    · have hslots : (releasePort s).slotCount = g.slots := slotCount_of_geometry (s := releasePort s) hgeometry
      rw [jobWriteDone, formatLineDone, hslots]
      exact updHeadJob_of_cons (s := setUnit none (releasePort s)) hjobs _
    · rw [jobWriteDone, descriptorWriteDone, nextStep, setUnit_lowTestAtReady]
      exact updHeadJob_lowTestAtReady (s := setUnit none { releasePort s with
        journal := { s.journal with state := .ready, head := 0, tail := 0 } }) hjobs rfl
  case result =>
    intro s issue r j rest k hcarries hwrite hjobs howner hwork
    refine next_afterEvent_of_eq (congrArg _ (takeResponse_of_jobDone hcarries hwrite hjobs howner hwork)) ?_
    have hdrop : dropJob (setUnit none (releasePort s)) =
        { releasePort s with engine := { s.engine with work := none }, jobs := rest } := by
      rw [dropJob, show (setUnit none (releasePort s)).jobs = j :: rest from hjobs]
      rfl
    rw [jobWriteDone, resultRecordDone, hdrop]
    rfl

/-! ## The restore step of an abort (R30, R39 to R41) -/

section restore

variable {s : State} {issue : Byte} {r : DportRequest} {j : Job} {rest : List Job} {k : Requester} {line : Addr} {q : Seq}

theorem engineAnswered_of_restore {phase : RestorePhase} (hjobs : s.jobs = j :: rest) (howner : j.owner = .slot k)
    (hwork : s.engine.work = some (.restore line q phase)) (reply : Reply) :
    engineAnswered reply s = restoreAnswered k line q phase reply s := by
  simp only [engineAnswered, hwork, hjobs, howner]
  rfl

theorem engineIssue_of_restoreHeader (hjobs : s.jobs = j :: rest) (howner : j.owner = .slot k)
    (hwork : s.engine.work = some (.restore line q .header)) :
    engineIssue s = some (updHeld line k (fun h => { h with state := .restoring }) s, .read (s.ring.headerLine q)) := by
  simp only [engineIssue, hwork, hjobs, howner]
  rfl

/-- The header of a good record in an abort (R39). -/
theorem abortHeader_eq_some_iff (x : Expected) (target : Addr) (header : Option Line) (h : Header) :
    abortHeader x target header = some h ↔ header.bind decodeHeader = some h ∧ h.sequence = x.sequence ∧
      h.kind = .capture ∧ h.context = x.context ∧ h.epoch = x.epoch ∧ h.line = target := by
  simp only [abortHeader, Option.filter_eq_some_iff, header_eq_some_iff, beq_iff_eq, and_assoc]

/-- The data read of a good record leads to the write of its line. -/
theorem restoreDataAnswered_of_good {header : Option Line} {reply : Reply} {h : Header} {bytes : Line} {bad : WordMask}
    (hheader : abortHeader (s.expected k q) line header = some h) (hdata : matchingData h reply = some (bytes, bad)) :
    restoreDataAnswered k line q header reply s =
      setUnit (some (.restore line q (.write bytes (h.poison ||| bad) true))) s := by
  rw [restoreDataAnswered, hheader, restoreImage_of_matching hdata]
  rfl

/-- Every other data read leads to the write of zeros, and is counted. -/
theorem restoreDataAnswered_of_bad {header : Option Line} {reply : Reply}
    (hbad : ∀ h, abortHeader (s.expected k q) line header = some h → matchingData h reply = none) :
    restoreDataAnswered k line q header reply s =
      count .restoreFails (setUnit (some (.restore line q (.write 0 allWords false))) s) := by
  have himage : restoreImage (abortHeader (s.expected k q) line header) reply = .write 0 allWords false := by
    cases hheader : abortHeader (s.expected k q) line header with
    | none => rfl
    | some h => exact restoreImage_of_notMatching (hbad h hheader)
  rw [restoreDataAnswered, himage]
  rfl

end restore

/-- Settles O39: the requests of a restore step, its reads, and its write durable. -/
theorem abortRestoresItsHeldLines : Obligations.AbortRestoresItsHeldLines := by
  unfold Obligations.AbortRestoresItsHeldLines
  refine ⟨?requests, ?reads, ?write⟩
  case requests =>
    intro s j rest k line q g hjobs howner hgeometry slotLine
    have hring := ring_of_geometry hgeometry
    refine ⟨fun hwork => ?_, fun header hwork => ?_, fun image poison good hwork => ?_⟩
    · rw [engineIssue_of_restoreHeader hjobs howner hwork, hring]
      rfl
    · simp only [engineIssue, hwork, hring]
      rfl
    · simp only [engineIssue, hwork]
      rfl
  case reads =>
    intro s issue address line q j rest k hcarries hjobs howner at_
    have hexec {phase : RestorePhase} (hwork : s.engine.work = some (.restore line q phase)) (resp : MemResponse) :
        takeResponse issue resp s =
          afterEvent (restoreAnswered k line q phase (replyOf (.read address) resp) (releasePort s)) := by
      rw [takeResponse_of_engine hcarries, engineAnswered_of_restore (s := releasePort s) hjobs howner hwork]
    refine ⟨fun hwork resp => ?header, ?data⟩
    case header =>
      refine next_afterEvent_of_eq (congrArg _ (hexec hwork resp)) ?_
      rw [restoreAnswered, restoreHeaderAnswered, soundLine_replyOf_read]
      cases resp <;> rfl
    case data =>
      intro header resp hwork sound good
      have hsound (h : Header) : sound h ↔ abortHeader ((releasePort s).expected k q) line header = some h :=
        (abortHeader_eq_some_iff ((releasePort s).expected k q) line header h).symm
      refine ⟨fun h bytes st hgood => ?_, fun hbad => ?_⟩
      · obtain ⟨hheader, rfl, hnamed, hcheck⟩ := hgood
        refine next_afterEvent_of_eq (congrArg _ (hexec hwork _)) ?_
        rw [replyOf_read_data, if_pos hnamed]
        exact restoreDataAnswered_of_good ((hsound h).1 hheader) (matchingData_of_check hcheck)
      · refine next_afterEvent_of_eq (congrArg _ (hexec hwork _)) ?_
        refine restoreDataAnswered_of_bad fun h hheader => matchingData_eq_none address ?_
        cases hresp : resp with
        | data bytes st =>
          by_cases hnamed : statusesNamed st = true
          · exact .inr ⟨bytes, st, rfl, fun hcheck => hbad ⟨h, bytes, st, (hsound h).2 hheader, hresp, hnamed, hcheck⟩⟩
          · exact .inl (by simp [MemResponse.failsRead, hnamed])
        | done | fail | unbacked => exact .inl rfl
  case write =>
    intro s issue r j rest k line q image poison good hcarries hwrite hjobs howner hwork c held
    refine next_afterEvent_of_eq (congrArg _ (takeResponse_of_engine hcarries .done)) ?_
    rw [engineAnswered_of_restore (s := releasePort s) hjobs howner hwork, replyOf_done_of_isWrite hwrite]
    refine congrArg joinIssuable ((updHeadJob_of_cons (j := j) (rest := rest) ?_ _).trans ?_)
    · exact hjobs
    · rfl

/-! ## The status record (R111, R174, R175) -/

theorem statusRecordDone_of_slot {j : Job} {k : Requester} (howner : j.owner = .slot k) (s : State) :
    statusRecordDone j s = nextStep .result (setUnit none s) := by
  simp only [statusRecordDone, howner]

theorem statusRecordDone_of_statusUnit {j : Job} (howner : j.owner = .statusUnit) (s : State) :
    statusRecordDone j s =
      if (dropJob (setUnit none s)).status.dirty then placeJob statusJob (dropJob (setUnit none s))
      else dropJob (setUnit none s) := by
  simp only [statusRecordDone, howner]

/-- Settles O41: the two lines' requests and their durable events. -/
theorem statusRecordIsWrittenInTwoLines : Obligations.StatusRecordIsWrittenInTwoLines := by
  unfold Obligations.StatusRecordIsWrittenInTwoLines
  intro s j rest hjobs
  refine ⟨?_, fun second hwork => ?_, fun issue r hcarries hwrite => ⟨fun second hwork => ?_, ?_⟩⟩
  · intro x hwork n
    simp only [engineIssue, hwork]
    rfl
  · simp only [engineIssue, hwork]
    rfl
  · refine next_afterEvent_of_eq (congrArg _ (takeResponse_of_engine hcarries .done)) ?_
    rw [replyOf_done_of_isWrite hwrite]
    have hanswered : engineAnswered .done (releasePort s) = statusFirstAnswered (some second) .done (releasePort s) := by
      simp only [engineAnswered, show (releasePort s).engine.work = some (.statusFirst (some second)) from hwork]
    rw [hanswered]
    rfl
  · intro second hwork ended
    have hexec : takeResponse issue .done s = afterEvent (statusRecordDone j (releasePort s)) := by
      rw [takeResponse_of_engine hcarries, replyOf_done_of_isWrite hwrite]
      simp only [engineAnswered, show (releasePort s).engine.work = some (.statusSecond second) from hwork,
        show (releasePort s).jobs = j :: rest from hjobs, statusSecondAnswered]
    have hdrop : dropJob (setUnit none (releasePort s)) = ended rest := by
      rw [dropJob, show (setUnit none (releasePort s)).jobs = j :: rest from hjobs]
      rfl
    refine ⟨fun k howner => ?_, fun howner hdirty => ?_, fun howner hdirty => ?_⟩ <;>
      refine next_afterEvent_of_eq (congrArg _ hexec) ?_
    · rw [statusRecordDone_of_slot howner]
      exact updHeadJob_of_cons (s := setUnit none (releasePort s)) hjobs _
    · rw [statusRecordDone_of_statusUnit howner, hdrop, show (ended rest).status.dirty = false from hdirty]
      rfl
    · rw [statusRecordDone_of_statusUnit howner, hdrop, show (ended rest).status.dirty = true from hdirty]
      rfl

/-! ## A failure of the part's own write (R79, R129 to R131) -/

theorem stopDevice_of_free {s : State} (h : s.uport.inProgress = none) :
    stopDevice s = raiseCause .stopped { s with device := .stopped } := by
  simp only [stopDevice, raiseCause_frame, h]

theorem stopDevice_of_held {s : State} {q : ReadRequest} (h : s.uport.inProgress = some q) :
    stopDevice s = { raiseCause .stopped { s with device := .stopped } with
      uport := { s.uport with
        inProgress := none, answers := s.uport.answers ++ [(q.requester, .fault .stopped)] }
      dport := { s.dport with readList := s.dport.readList.filter (· != .straight) } } := by
  simp only [stopDevice, raiseCause_frame, h, leaveReadList, giveAnswer]
  rfl

theorem device_stopDevice (s : State) : (stopDevice s).device = .stopped := by
  cases h : s.uport.inProgress with
  | none => simp [stopDevice_of_free h]
  | some q => simp [stopDevice_of_held h]

/-- A response that stops the device ends its event without a choice or a grant. -/
theorem afterEvent_stopDevice (s : State) : afterEvent (stopDevice s) = portFreed (stopDevice s) := by
  rw [afterEvent, settle_of_stopped (device_stopDevice s)]

section failedWrite

variable {s : State} {reply : Reply}

theorem entryAnswered_of_failed {step : EntryStep} (hreply : reply = .fail ∨ reply = .unbacked)
    (hstep : (∃ q, step = .recordData q) ∨ ∃ q, step = .recordHeader q) (e : PostedEntry) :
    entryAnswered e step reply s = stopDevice s := by
  obtain ⟨q, rfl⟩ | ⟨q, rfl⟩ := hstep <;> obtain rfl | rfl := hreply <;> rfl

theorem jobWriteAnswered_of_failed (hreply : reply = .fail ∨ reply = .unbacked) (k : Requester) (step : JobStep) :
    jobWriteAnswered k step reply s = stopDevice s := by
  obtain rfl | rfl := hreply <;> rfl

theorem restoreWriteAnswered_of_failed (hreply : reply = .fail ∨ reply = .unbacked) (k : Requester) (line : Addr)
    (good : Bool) : restoreWriteAnswered k line good reply s = stopDevice s := by
  obtain rfl | rfl := hreply <;> rfl

theorem statusFirstAnswered_of_failed (hreply : reply = .fail ∨ reply = .unbacked) (second : Option Line) :
    statusFirstAnswered second reply s = stopDevice s := by
  obtain rfl | rfl := hreply <;> rfl

theorem statusSecondAnswered_of_failed (hreply : reply = .fail ∨ reply = .unbacked) (j : Job) :
    statusSecondAnswered j reply s = stopDevice s := by
  obtain rfl | rfl := hreply <;> rfl

end failedWrite

/-- Settles O42: FAIL and UNBACKED to each of the part's own writes stop the device. -/
theorem failedOwnWriteStopsTheDevice : Obligations.FailedOwnWriteStopsTheDevice := by
  unfold Obligations.FailedOwnWriteStopsTheDevice
  intro s issue r resp hcarries hwrite hfails raised stopped stops
  have hreply := replyOf_failsWrite hwrite hfails
  have hstopped : stopDevice (releasePort s) = stopped := by
    simp only [stopped]
    cases hport : s.uport.inProgress with
    | none => exact stopDevice_of_free (s := releasePort s) hport
    | some q =>
      rw [stopDevice_of_held (s := releasePort s) hport]
      simp only [raised, raiseCause_frame]
      rfl
  have hstops (c : Instr) (hc : exec c s = .next (takeResponse issue resp s))
      (hanswered : engineAnswered (replyOf r resp) (releasePort s) = stopDevice (releasePort s)) : stops c := by
    have hevent : takeResponse issue resp s = portFreed stopped := by
      rw [takeResponse_of_engine hcarries, hanswered, afterEvent_stopDevice, hstopped]
    exact hc.trans (congrArg _ hevent)
  refine ⟨fun e rest hqueue => ⟨fun q hwork => ?_, fun q hwork => ?_⟩, fun j rest hjobs => ?_⟩
  · exact hstops _ rfl ((engineAnswered_of_entry (s := releasePort s) hwork hqueue _).trans
      (entryAnswered_of_failed hreply (.inl ⟨q, rfl⟩) e))
  · exact hstops _ rfl ((engineAnswered_of_entry (s := releasePort s) hwork hqueue _).trans
      (entryAnswered_of_failed hreply (.inr ⟨q, rfl⟩) e))
  · have hjob (step : JobStep) (hwork : s.engine.work = some (.write step)) :
        engineAnswered (replyOf r resp) (releasePort s) = stopDevice (releasePort s) :=
      (engineAnswered_of_job (s := releasePort s) hjobs hwork _).trans (jobWriteAnswered_of_failed hreply _ _)
    refine ⟨fun hwork => hstops _ rfl (hjob _ hwork), fun hwork => hstops _ rfl (hjob _ hwork),
      fun hwork => hstops _ rfl (hjob _ hwork), fun line q image poison good hwork => hstops _ rfl ?_,
      fun hwork => hstops _ rfl (hjob _ hwork), fun i hwork => hstops _ rfl (hjob _ hwork),
      fun hwork => hstops _ rfl (hjob _ hwork), fun hwork => hstops _ rfl (hjob _ hwork), fun x hwork => hstops _ rfl ?_,
      fun x hwork => hstops _ rfl ?_⟩
    · have hphase : engineAnswered (replyOf r resp) (releasePort s) =
          restoreWriteAnswered j.owner.slotNumber line good (replyOf r resp) (releasePort s) := by
        simp only [engineAnswered, show (releasePort s).engine.work = _ from hwork,
          show (releasePort s).jobs = j :: rest from hjobs, restoreAnswered]
      exact hphase.trans (restoreWriteAnswered_of_failed hreply _ _ _)
    · have hunit : engineAnswered (replyOf r resp) (releasePort s) =
          statusFirstAnswered x (replyOf r resp) (releasePort s) := by
        simp only [engineAnswered, show (releasePort s).engine.work = _ from hwork]
      exact hunit.trans (statusFirstAnswered_of_failed hreply _)
    · have hunit : engineAnswered (replyOf r resp) (releasePort s) =
          statusSecondAnswered j (replyOf r resp) (releasePort s) := by
        simp only [engineAnswered, show (releasePort s).engine.work = _ from hwork,
          show (releasePort s).jobs = j :: rest from hjobs]
      exact hunit.trans (statusSecondAnswered_of_failed hreply _)

end Sys2Proof.Machine

/-! PROOF. What the free Write Engine and the free D-port choose after an event: O46, O47. -/

namespace Sys2Proof.Machine

/-! ## The free Write Engine -/

theorem beginnable_iff (s : State) (e : PostedEntry) :
    s.beginnable e = true ↔ ∀ k, e.context = some k → s.contexts[k].openOwed = false := by
  unfold State.beginnable
  cases e.context <;> simp

theorem chooseUnit_of_notFree {s : State} (h : ¬ (s.device = .run ∧ s.engine.work = none)) : chooseUnit s = s :=
  if_neg h

theorem chooseUnit_of_idle {s : State} (hwaits : s.entryWaits = false) (hjobs : s.jobs = []) : chooseUnit s = s := by
  unfold State.entryWaits at hwaits
  unfold chooseUnit
  rw [hjobs]
  split
  · cases hqueue : s.queue.entries with
    | nil => rfl
    | cons e rest => simp only [hqueue] at hwaits; simp [hwaits]
  · rfl

/-- The head entry is chosen when it waits alone, or after a job step (R78). -/
theorem chooseUnit_of_entry {s : State} {e : PostedEntry} {rest : List PostedEntry} (hdev : s.device = .run)
    (hfree : s.engine.work = none) (hqueue : s.queue.entries = e :: rest) (hbegin : s.beginnable e = true)
    (hturn : s.jobs = [] ∨ s.engine.lastUnit = .job) : chooseUnit s = beginUnit (.entry e.firstStep) .entry s := by
  unfold chooseUnit
  rw [if_pos ⟨hdev, hfree⟩, hqueue]
  cases hjobs : s.jobs with
  | nil => exact if_pos hbegin
  | cons j js => exact if_pos ⟨hbegin, hturn.resolve_left (by simp [hjobs])⟩

/-- The oldest job's step is chosen when it waits alone, or after an entry (R78). -/
theorem chooseUnit_of_job {s : State} {j : Job} {js : List Job} (hdev : s.device = .run)
    (hfree : s.engine.work = none) (hjobs : s.jobs = j :: js)
    (hturn : s.entryWaits = false ∨ s.engine.lastUnit = .entry) :
    chooseUnit s = beginUnit (s.jobUnit j) .job s := by
  unfold chooseUnit
  unfold State.entryWaits at hturn
  rw [if_pos ⟨hdev, hfree⟩, hjobs]
  cases hqueue : s.queue.entries with
  | nil => rfl
  | cons e rest =>
    simp only [hqueue] at hturn
    refine if_neg fun h => ?_
    rcases hturn with hno | hlast
    · simp [h.1] at hno
    · simp [h.2] at hlast

/-! ## The next line an abort restores (R30) -/

theorem newestHeld_cons_of_other {k : Requester} {e : HeldEntry} {es : List HeldEntry}
    (h : ∀ q, e.holder = k → e.state = .held → e.record ≠ some q) : newestHeld k (e :: es) = newestHeld k es := by
  rw [newestHeld]
  cases hrec : e.record with
  | none => cases newestHeld k es <;> rfl
  | some q =>
    have hno : ¬ (e.holder = k ∧ e.state = .held) := fun hk => h q hk.1 hk.2 hrec
    cases newestHeld k es with
    | none => exact if_neg hno
    | some b => exact if_neg fun hk => hno ⟨hk.1, hk.2.1⟩

theorem newestHeld_cons_of_own {k : Requester} {e : HeldEntry} {es : List HeldEntry} {q : Seq} (hk : e.holder = k)
    (hheld : e.state = .held) (hrec : e.record = some q) :
    newestHeld k (e :: es) = some (match newestHeld k es with
      | none => (e.line, q)
      | some b => if b.2 < q then (e.line, q) else b) := by
  rw [newestHeld, hrec]
  cases newestHeld k es with
  | none => exact if_pos ⟨hk, hheld⟩
  | some b =>
    by_cases hlt : b.2 < q
    · simp [hk, hheld, hlt]
    · simp [hlt]

theorem newestHeld_eq_none {k : Requester} {l : List HeldEntry} :
    newestHeld k l = none ↔ ∀ e ∈ l, e.holder = k → e.state = .held → e.record = none := by
  induction l with
  | nil => simp [newestHeld]
  | cons e es ih =>
    rw [List.forall_mem_cons, ← ih]
    by_cases h : e.holder = k ∧ e.state = .held ∧ e.record.isSome = true
    · obtain ⟨hk, hheld, hrec⟩ := h
      obtain ⟨q, hq⟩ := Option.isSome_iff_exists.mp hrec
      rw [newestHeld_cons_of_own hk hheld hq]
      simp [hk, hheld, hq]
    · have hother : e.holder = k → e.state = .held → e.record = none := fun hk hheld => by
        simpa [hk, hheld] using h
      rw [newestHeld_cons_of_other fun q hk hheld => by simp [hother hk hheld]]
      exact ⟨fun hes => ⟨hother, hes⟩, fun hes => hes.2⟩

/-- The line an abort restores next is HELD by the context, and no HELD line of it has a higher record. -/
theorem newestHeld_spec {k : Requester} {l : List HeldEntry} {line : Addr} {q : Seq}
    (h : newestHeld k l = some (line, q)) :
    (∃ e ∈ l, e.line = line ∧ e.holder = k ∧ e.state = .held ∧ e.record = some q) ∧
      ∀ e ∈ l, e.holder = k → e.state = .held → ∀ p, e.record = some p → p ≤ q := by
  induction l generalizing line q with
  | nil => simp [newestHeld] at h
  | cons e es ih =>
    by_cases hown : ∃ q', e.holder = k ∧ e.state = .held ∧ e.record = some q'
    · obtain ⟨q', hk, hheld, hrec⟩ := hown
      rw [newestHeld_cons_of_own hk hheld hrec] at h
      cases hes : newestHeld k es with
      | none =>
        simp only [hes, Option.some.injEq, Prod.mk.injEq] at h
        obtain ⟨rfl, rfl⟩ := h
        refine ⟨⟨e, by simp, rfl, hk, hheld, hrec⟩, fun d hd hdk hdheld p hp => ?_⟩
        rcases List.mem_cons.mp hd with rfl | hd
        · simp_all
        · simp [newestHeld_eq_none.mp hes d hd hdk hdheld] at hp
      | some b =>
        obtain ⟨⟨x, hx, hxline, hxrest⟩, hmax⟩ := ih hes
        simp only [hes, Option.some.injEq] at h
        by_cases hlt : b.2 < q'
        · simp only [hlt, if_true, Prod.mk.injEq] at h
          obtain ⟨rfl, rfl⟩ := h
          refine ⟨⟨e, by simp, rfl, hk, hheld, hrec⟩, fun d hd hdk hdheld p hp => ?_⟩
          rcases List.mem_cons.mp hd with rfl | hd
          · simp_all
          · exact BitVec.le_trans (hmax d hd hdk hdheld p hp) (BitVec.le_of_lt hlt)
        · simp only [hlt, if_false] at h
          subst h
          refine ⟨⟨x, by simp [hx], hxline, hxrest⟩, fun d hd hdk hdheld p hp => ?_⟩
          rcases List.mem_cons.mp hd with rfl | hd
          · simp_all [BitVec.not_lt]
          · exact hmax d hd hdk hdheld p hp
    · rw [newestHeld_cons_of_other fun q' hk hheld hrec => hown ⟨q', hk, hheld, hrec⟩] at h
      obtain ⟨⟨x, hx, hxrest⟩, hmax⟩ := ih h
      refine ⟨⟨x, by simp [hx], hxrest⟩, fun d hd hdk hdheld p hp => ?_⟩
      rcases List.mem_cons.mp hd with rfl | hd
      · exact (hown ⟨p, hdk, hdheld, hp⟩).elim
      · exact hmax d hd hdk hdheld p hp

theorem jobUnit_of_newest {s : State} {j : Job} {k : Requester} {line : Addr} {q : Seq} (howner : j.owner = .slot k)
    (hnext : j.next = .restore) (hnew : newestHeld k s.held = some (line, q)) :
    s.jobUnit j = .restore line q .header := by
  simp [State.jobUnit, howner, hnext, hnew]

theorem jobUnit_of_noneHeld {s : State} {j : Job} {k : Requester} (howner : j.owner = .slot k)
    (hnext : j.next = .restore) (hnew : newestHeld k s.held = none) : s.jobUnit j = .write .abortedMarker := by
  simp [State.jobUnit, howner, hnext, hnew]

theorem entryWaits_iff (s : State) :
    s.entryWaits = true ↔ ∃ e, (∃ rest, s.queue.entries = e :: rest) ∧ s.beginnable e = true := by
  unfold State.entryWaits
  cases s.queue.entries <;> simp

/-- Settles O46. -/
theorem freeWriteEngineChoosesItsUnit : Obligations.FreeWriteEngineChoosesItsUnit := by
  refine ⟨?choice, ?restore⟩
  case choice =>
    intro s begun free entryWaits first
    have hwaits (h : ∀ e, ¬ entryWaits e) : s.entryWaits = false := by
      refine Bool.eq_false_iff.mpr fun ht => ?_
      obtain ⟨e, hrest, hbegin⟩ := (entryWaits_iff s).mp ht
      exact h e ⟨hrest, (beginnable_iff s e).mp hbegin⟩
    refine ⟨chooseUnit_of_notFree, fun _ hno hjobs => chooseUnit_of_idle (hwaits hno) hjobs, ?_, ?_⟩
    · rintro ⟨hdev, hfree⟩ e ⟨⟨rest, hqueue⟩, hopen⟩ hturn
      exact chooseUnit_of_entry hdev hfree hqueue ((beginnable_iff s e).mpr hopen) hturn
    · rintro ⟨hdev, hfree⟩ j rest hjobs hturn
      exact chooseUnit_of_job hdev hfree hjobs (hturn.imp_left hwaits)
  case restore =>
    intro s j k howner hnext hrecorded
    cases hnew : newestHeld k s.held with
    | none =>
      have hnoHeld : ∀ e ∈ s.held, e.holder = k → e.state ≠ .held := fun e he hk hheld => by
        have hrec := hrecorded e he hk hheld
        simp [newestHeld_eq_none.mp hnew e he hk hheld] at hrec
      rw [jobUnit_of_noneHeld howner hnext hnew]
      exact ⟨fun _ _ h => by simp at h, fun ⟨e, he, hk, hheld⟩ => (hnoHeld e he hk hheld).elim, fun _ => rfl⟩
    | some b =>
      obtain ⟨hmem, hmax⟩ := newestHeld_spec hnew
      rw [jobUnit_of_newest howner hnext hnew]
      refine ⟨fun line q h => ?_, fun _ => ⟨_, _, rfl⟩, fun hno => ?_⟩
      · cases h
        exact ⟨hmem, hmax⟩
      · obtain ⟨e, he, -, hk, hheld, -⟩ := hmem
        exact (hno e he hk hheld).elim

end Sys2Proof.Machine

/-! PROOF. What the free D-port is granted: O47. -/

namespace Sys2Proof.Machine

theorem grant_of_out {s : State} {o : Outstanding} (h : s.dport.outstanding = some o) : grant s = s := by
  unfold grant
  rw [h]

theorem grant_of_quiet {s : State} (h : s.device = .start ∨ s.device = .stopped) : grant s = s := by
  unfold grant
  cases s.dport.outstanding with
  | some o => rfl
  | none => rcases h with h | h <;> rw [h]

theorem grant_of_startup {s : State} (hfree : s.dport.outstanding = none)
    (h : s.device = .load ∨ s.device = .scan ∨ s.device = .playback) : grant s = grantS s := by
  unfold grant
  rw [hfree]
  rcases h with h | h | h <;> rw [h]

theorem grant_of_run {s : State} (hfree : s.dport.outstanding = none) (h : s.device = .run) :
    grant s = grantRun s := by
  unfold grant
  rw [hfree, h]

/-! ## The choice in RUN (R141, R142) -/

theorem rWaits_iff (s : State) : s.rWaits = true ↔ s.dport.readList ≠ [] := by
  simp [State.rWaits]

theorem grantRun_of_due {s : State} (hwaits : s.pWaits = true) (hdue : s.dport.patrolWait = 16) :
    grantRun s = grantP s := if_pos ⟨hwaits, hdue⟩

theorem grantRun_of_notDue {s : State} (h : ¬ (s.pWaits = true ∧ s.dport.patrolWait = 16)) :
    grantRun s = if s.wWaits = true ∧ (s.rWaits = false ∨ s.dport.lastGrant = .r) then grantW s
      else if s.rWaits = true then grantR s else grantP s := by
  unfold grantRun
  rw [show Config.patrolBound = 16 from rfl, if_neg h]
  cases s.wWaits <;> cases s.rWaits <;> cases s.dport.lastGrant <;> rfl

theorem grantRun_of_alone {s : State} (hw : s.wWaits = false) (hr : s.rWaits = false) : grantRun s = grantP s := by
  by_cases h : s.pWaits = true ∧ s.dport.patrolWait = 16
  · exact grantRun_of_due h.1 h.2
  · simp [grantRun_of_notDue h, hw, hr]

theorem grantW_of_issue {s u : State} {q : DportRequest} (h : engineIssue s = some (u, q)) :
    grantW s = issueRequest .writeEngine q (markGrant .w u) := by
  unfold grantW
  rw [h]

theorem grantR_of_straight {s : State} {rest : List ReadMember} {r : ReadRequest}
    (hlist : s.dport.readList = .straight :: rest) (hport : s.uport.inProgress = some r) :
    grantR s = issueRequest .straightRead (.read (lineOf r.address))
      (markGrant .r { s with dport := { s.dport with readList := rest } }) := by
  unfold grantR
  rw [hlist]
  simp only [hport]

theorem grantR_of_deferred {s : State} {rest : List ReadMember} {key : ReadRequest}
    (hlist : s.dport.readList = .deferred key :: rest) :
    grantR s = issueRequest (.deferredRead key) (.read (lineOf key.address))
      (issueDeferred key (markGrant .r { s with dport := { s.dport with readList := rest } })) := by
  unfold grantR
  rw [hlist]

theorem grantP_of_request {s : State} {q : DportRequest} (h : s.patrolRequest = some q) :
    grantP s = issueRequest .patrol q s := by
  unfold grantP
  rw [h]

theorem grantP_of_none {s : State} (h : s.patrolRequest = none) : grantP s = s := by
  unfold grantP
  rw [h]

theorem grantS_of_issue {s u : State} {q : DportRequest} (h : startupIssue s = some (u, q)) :
    grantS s = issueRequest .startup q u := by
  unfold grantS
  rw [h]

/-- An issue of the Write Engine leaves what the grant's mark depends on. -/
theorem markGrant_engineIssue {s u : State} {q : DportRequest} (m : GrantMark) (h : engineIssue s = some (u, q)) :
    markGrant m u = { u with dport := { u.dport with
      lastGrant := m
      patrolWait := if s.patrolRequest.isSome then s.dport.patrolWait + 1 else s.dport.patrolWait } } := by
  obtain ⟨-, -, -, -, -, -, -, -, -, -, hpatrol, hdport, -⟩ := engineIssue_frame s u q h
  have hreq : u.patrolRequest = s.patrolRequest := by simp only [State.patrolRequest, hpatrol]
  unfold markGrant State.pWaits
  rw [hreq, hdport]

/-! ## The Start-up Controller's requests (R157 to R160, R166, R167) -/

theorem playSeq_of_position {s : State} {q : Seq} (h : s.startup.playback[s.startup.position]? = some q) :
    s.playSeq = q := by
  simp [State.playSeq, h]

theorem raiseHead_of_notLast {s : State} (h : s.journal.head ≠ lastSequence) :
    raiseHead s = { s with journal := { s.journal with head := s.journal.head + 1 } } := if_neg h

/-- The requests of the rules, the marker's among them. -/
theorem startupIssue_of_marker {s : State} {i : Nat} {u : UnfinishedEpoch} (hstep : s.startup.step = .marker i)
    (hu : s.startup.unfinished[i]? = some u) (hhead : s.journal.head ≠ lastSequence) :
    startupIssue s = some ({ s with journal := { s.journal with head := s.journal.head + 1 } },
      .write (s.ring.headerLine s.journal.head) allBytes
        (abortedHeader s.journal.head u.context originRecovery u.epoch u.restored u.failed).encode 0) := by
  simp only [startupIssue, hstep, hu, raiseHead_of_notLast hhead, wholeLine]

/-- Settles O47. -/
theorem freePortIsGrantedByTheRules : Obligations.FreePortIsGrantedByTheRules := by
  refine ⟨?requests, ?grants⟩
  case requests =>
    intro s asks
    refine ⟨fun h => ?idle, fun h => ?conf, fun h => ?low, fun h => ?high, fun h => ?desc,
      fun line image poison good h => ?write, ?ring⟩
    case idle => rw [startupIssue, h]
    case conf | low | high | desc | write => rw [startupIssue, h]; rfl
    intro g hg slotLine
    refine ⟨fun h => ?slot, fun q hq => ⟨fun h => ?header, fun d h => ?data⟩, fun i u h hu hhead => ?marker⟩
    case slot =>
      rw [startupIssue, h, ring_of_geometry hg]
      rfl
    case header | data =>
      rw [startupIssue, h]
      simp only [ring_of_geometry hg, playSeq_of_position hq]
      rfl
    case marker =>
      have hring : s.ring = g := ring_of_geometry hg
      rw [startupIssue_of_marker h hu hhead, hring]
      rfl
  case grants =>
    intro s hfree issued marked toW toR toP wWaits rWaits pDue
    have hW : toW (grantW s) := fun u q h => by
      rw [grantW_of_issue h, markGrant_engineIssue .w h]; rfl
    have hR : toR (grantR s) := fun m rest hlist =>
      ⟨fun r hm hport => grantR_of_straight (hm ▸ hlist) hport, fun key hm => grantR_of_deferred (hm ▸ hlist)⟩
    have hP : toP (grantP s) := fun q h => grantP_of_request h
    have hrNone (h : ¬ rWaits) : s.rWaits = false := Bool.eq_false_iff.mpr fun ht => h ((rWaits_iff s).mp ht)
    refine ⟨grant_of_quiet, fun hdev u q h => ?_, fun hdev => ?_⟩
    · rw [grant_of_startup hfree hdev, grantS_of_issue h]; rfl
    rw [grant_of_run hfree hdev]
    refine ⟨fun hdue => ?due, fun hno hboth => ⟨fun hmark => ?bothW, fun hmark => ?bothR⟩, fun hno hw => ?w,
      fun hno hr => ?r, fun hnone => ?p, fun hnone hreq => ?none⟩
    case due => rwa [grantRun_of_due hdue.1 hdue.2]
    case bothW => rwa [grantRun_of_notDue hno, if_pos ⟨hboth.1, Or.inr hmark⟩]
    case bothR =>
      have hrw : s.rWaits = true := (rWaits_iff s).mpr hboth.2
      rwa [grantRun_of_notDue hno, if_neg (by simp [hrw, hmark]), if_pos hrw]
    case w => rwa [grantRun_of_notDue hno, if_pos ⟨hw.1, Or.inl (hrNone hw.2)⟩]
    case r => rwa [grantRun_of_notDue hno, if_neg fun h => hr.1 h.1, if_pos ((rWaits_iff s).mpr hr.2)]
    case p => rwa [grantRun_of_alone (Bool.eq_false_iff.mpr hnone.1) (hrNone hnone.2)]
    case none => rw [grantRun_of_alone (Bool.eq_false_iff.mpr hnone.1) (hrNone hnone.2), grantP_of_none hreq]

end Sys2Proof.Machine

/-! PROOF. How a property is kept by every step: what has to be shown of the events a row is made of. What the events leave
of the D-port and of the device state: O60. -/

namespace Sys2Proof.Machine

/-! ## From events to steps -/

/-- `P` follows from `P₀` over one event other than a reset: the entry into LOAD, the reply to the outstanding request, an
expiring timer, and of `P` itself the requests the U-port takes and leaves waiting. -/
structure CommandsLead (P₀ P : State → Prop) : Prop where
  start : ∀ s, P₀ s → P s
  loads : ∀ s, P₀ s → s.device = .start → P (settle (enterLoad s))
  replies : ∀ o r s, P₀ s → s.dport.outstanding = some o → s.device ≠ .stopped → P (handReply o r s)
  discards : ∀ key s, P₀ s → P (discardExpires key s)
  patrols : ∀ s, P₀ s → P (settle (patrolExpires s))
  requests : ∀ q s, P s → s.uport.inProgress = none → P (takeRequest q s)
  waits : ∀ l s, P s → P { s with uport := { s.uport with waiting := l } }

/-- `P` follows from `P₀` over one event, a reset among them. -/
structure EventsLead (P₀ P : State → Prop) : Prop extends CommandsLead P₀ P where
  resets : ∀ cwb s, P₀ s → P (afterReset cwb s)
  resetLoads : ∀ cwb s, P₀ s → P (settle (enterLoad (afterReset cwb s)))

section
variable {P₀ P : State → Prop} (h : CommandsLead P₀ P)
include h

theorem CommandsLead.takeWaiting (qs : List UportRequest) (s : State) (hs : P s) : P (takeWaiting qs s) := by
  induction qs generalizing s with
  | nil => exact h.waits [] s hs
  | cons q qs ih =>
    cases hport : s.uport.inProgress with
    | some r =>
      rw [takeWaiting_of_busy hport]
      exact h.waits _ s hs
    | none =>
      rw [takeWaiting_of_free hport]
      exact ih _ (h.requests q s hs hport)

theorem CommandsLead.portFreed (s : State) (hs : P s) : P (portFreed s) := by
  cases hport : s.uport.inProgress with
  | some r => rwa [portFreed_of_busy hport]
  | none =>
    rw [portFreed_of_free hport]
    exact h.takeWaiting _ s hs

theorem CommandsLead.presentRequest (q : UportRequest) (s : State) (hs : P s) : P (presentRequest q s) := by
  cases hport : s.uport.inProgress with
  | some r =>
    rw [presentRequest_of_busy hport]
    exact h.waits _ s hs
  | none =>
    rw [presentRequest_of_free hport]
    exact h.requests q s hs hport

theorem CommandsLead.takeResponse (issue : Byte) (resp : MemResponse) (s : State) (hs : P₀ s) :
    P (takeResponse issue resp s) := by
  unfold Machine.takeResponse
  cases hanswers : s.answers issue with
  | none => exact h.start s hs
  | some o =>
    have hout : s.device ≠ .stopped ∧ s.dport.outstanding = some o := by
      unfold State.answers at hanswers
      split at hanswers
      · cases hanswers
      · rename_i hdev
        cases hport : s.dport.outstanding with
        | none => simp [hport] at hanswers
        | some o' =>
          simp only [hport, Option.ite_none_right_eq_some, Option.some.injEq] at hanswers
          exact ⟨hdev, by rw [hanswers.2]⟩
    exact h.portFreed _ (h.replies o _ s hs hout.2 hout.1)

theorem CommandsLead.responseTimeout (s : State) (hs : P₀ s) : P (responseTimeout s) := by
  unfold Machine.responseTimeout
  split
  · exact h.start s hs
  · rename_i hdev
    cases hport : s.dport.outstanding with
    | none => exact h.start s hs
    | some o => exact h.portFreed _ (h.replies o _ s hs hport hdev)

/-- Every row but a reset is made of these events. -/
theorem CommandsLead.exec {s t : State} {c : Instr} (hreset : ∀ cwb ready, c ≠ .reset cwb ready) (hs : P₀ s)
    (hexec : exec c s = .next t) : P t := by
  obtain ⟨q, -, hrow⟩ | ⟨issue, resp, -, hrow⟩ | ⟨-, hrow⟩ | ⟨key, -, hrow⟩ | ⟨-, hrow⟩ | hrow := rowActs c s hreset
  case memReady =>
    subst hrow
    by_cases hstart : s.device = .start
    · cases (exec_memReady_of_start hstart).symm.trans hexec
      exact h.loads s hs hstart
    · cases (exec_memReady_of_notStart hstart).symm.trans hexec
      exact h.start s hs
  case request =>
    cases hrow.symm.trans hexec
    exact h.presentRequest q s (h.start s hs)
  case response =>
    cases hrow.symm.trans hexec
    exact h.takeResponse issue resp s hs
  case timeout =>
    cases hrow.symm.trans hexec
    exact h.responseTimeout s hs
  case discard =>
    cases hrow.symm.trans hexec
    exact h.discards key s hs
  case patrol =>
    cases hrow.symm.trans hexec
    exact h.patrols s hs

end

theorem EventsLead.exec {P₀ P : State → Prop} (h : EventsLead P₀ P) {s t : State} {c : Instr} (hs : P₀ s)
    (hexec : exec c s = .next t) : P t := by
  by_cases hreset : ∃ cwb ready, c = .reset cwb ready
  · obtain ⟨cwb, ready, rfl⟩ := hreset
    cases ready
    · cases hexec
      exact h.resets cwb s hs
    · cases hexec
      exact h.resetLoads cwb s hs
  · exact h.toCommandsLead.exec (by simpa using hreset) hs hexec

/-- A step takes the front command from the queue, which the property must not read. -/
theorem step_leads {P₀ P : State → Prop} (h : EventsLead P₀ P) (hpending : ∀ s rest, P₀ s → P₀ { s with pending := rest })
    {s t : State} (hs : P₀ s) (hstep : step s = .next t) : P t := by
  unfold step at hstep
  cases hqueue : s.pending with
  | nil =>
    simp only [hqueue] at hstep
    cases hstep
    exact h.start s hs
  | cons c rest =>
    simp only [hqueue] at hstep
    exact h.exec (hpending s rest hs) hstep

/-! ## What an event leaves of the D-port

The outstanding request, its number and its timer change only where the port is released and where a request is issued.
Each lemma says so of one operation that changes another part of the D-port. -/

@[simp] theorem joinReadList_port (m : ReadMember) (s : State) :
    (joinReadList m s).dport.outstanding = s.dport.outstanding ∧ (joinReadList m s).dport.timer = s.dport.timer ∧
      (joinReadList m s).dport.issueNumber = s.dport.issueNumber ∧
      (joinReadList m s).dport.patrolWait = s.dport.patrolWait := ⟨rfl, rfl, rfl, rfl⟩

@[simp] theorem leaveReadList_port (m : ReadMember) (s : State) :
    (leaveReadList m s).dport.outstanding = s.dport.outstanding ∧ (leaveReadList m s).dport.timer = s.dport.timer ∧
      (leaveReadList m s).dport.issueNumber = s.dport.issueNumber ∧
      (leaveReadList m s).dport.patrolWait = s.dport.patrolWait := ⟨rfl, rfl, rfl, rfl⟩

@[simp] theorem joinIssuable_port (s : State) :
    (joinIssuable s).dport.outstanding = s.dport.outstanding ∧ (joinIssuable s).dport.timer = s.dport.timer ∧
      (joinIssuable s).dport.issueNumber = s.dport.issueNumber ∧
      (joinIssuable s).dport.patrolWait = s.dport.patrolWait := ⟨rfl, rfl, rfl, rfl⟩

@[simp] theorem patrolStartsToWait_port (s : State) :
    (patrolStartsToWait s).dport.outstanding = s.dport.outstanding ∧ (patrolStartsToWait s).dport.timer = s.dport.timer ∧
      (patrolStartsToWait s).dport.issueNumber = s.dport.issueNumber := ⟨rfl, rfl, rfl⟩

@[simp] theorem stopDevice_port (s : State) :
    (stopDevice s).dport.outstanding = s.dport.outstanding ∧ (stopDevice s).dport.timer = s.dport.timer ∧
      (stopDevice s).dport.issueNumber = s.dport.issueNumber ∧
      (stopDevice s).dport.patrolWait = s.dport.patrolWait := by
  unfold stopDevice
  dsimp only
  (repeat' split) <;> simp

@[simp] theorem overtakeReads_port (line : Addr) (n : BitVec 32) (s : State) :
    (overtakeReads line n s).dport.outstanding = s.dport.outstanding ∧ (overtakeReads line n s).dport.timer = s.dport.timer ∧
      (overtakeReads line n s).dport.issueNumber = s.dport.issueNumber ∧
      (overtakeReads line n s).dport.patrolWait = s.dport.patrolWait := by
  simp [overtakeReads]

@[simp] theorem takeBackReads_port (k : Requester) (s : State) :
    (takeBackReads k s).dport.outstanding = s.dport.outstanding ∧ (takeBackReads k s).dport.timer = s.dport.timer ∧
      (takeBackReads k s).dport.issueNumber = s.dport.issueNumber ∧
      (takeBackReads k s).dport.patrolWait = s.dport.patrolWait := by
  simp [takeBackReads]

@[simp] theorem clearWaitMarks_port (n : BitVec 32) (s : State) :
    (clearWaitMarks n s).dport.outstanding = s.dport.outstanding ∧ (clearWaitMarks n s).dport.timer = s.dport.timer ∧
      (clearWaitMarks n s).dport.issueNumber = s.dport.issueNumber ∧
      (clearWaitMarks n s).dport.patrolWait = s.dport.patrolWait := by
  simp [clearWaitMarks]

@[simp] theorem landHead_port (e : PostedEntry) (s : State) :
    (landHead e s).dport.outstanding = s.dport.outstanding ∧ (landHead e s).dport.timer = s.dport.timer ∧
      (landHead e s).dport.issueNumber = s.dport.issueNumber ∧
      (landHead e s).dport.patrolWait = s.dport.patrolWait := by
  unfold landHead
  dsimp only
  (repeat' split) <;> simp

@[simp] theorem recordDataAnswered_port (q : Option Seq) (r : Reply) (s : State) :
    (recordDataAnswered q r s).dport.outstanding = s.dport.outstanding ∧ (recordDataAnswered q r s).dport.timer = s.dport.timer ∧
      (recordDataAnswered q r s).dport.issueNumber = s.dport.issueNumber ∧
      (recordDataAnswered q r s).dport.patrolWait = s.dport.patrolWait := by
  unfold recordDataAnswered
  (repeat' split) <;> simp

@[simp] theorem recordHeaderAnswered_port (e : PostedEntry) (r : Reply) (s : State) :
    (recordHeaderAnswered e r s).dport.outstanding = s.dport.outstanding ∧ (recordHeaderAnswered e r s).dport.timer = s.dport.timer ∧
      (recordHeaderAnswered e r s).dport.issueNumber = s.dport.issueNumber ∧
      (recordHeaderAnswered e r s).dport.patrolWait = s.dport.patrolWait := by
  unfold recordHeaderAnswered
  (repeat' split) <;> simp

@[simp] theorem dataWriteAnswered_port (e : PostedEntry) (r : Reply) (s : State) :
    (dataWriteAnswered e r s).dport.outstanding = s.dport.outstanding ∧ (dataWriteAnswered e r s).dport.timer = s.dport.timer ∧
      (dataWriteAnswered e r s).dport.issueNumber = s.dport.issueNumber ∧
      (dataWriteAnswered e r s).dport.patrolWait = s.dport.patrolWait := by
  unfold dataWriteAnswered
  (repeat' split) <;> simp

@[simp] theorem entryAnswered_port (e : PostedEntry) (step : EntryStep) (r : Reply) (s : State) :
    (entryAnswered e step r s).dport.outstanding = s.dport.outstanding ∧ (entryAnswered e step r s).dport.timer = s.dport.timer ∧
      (entryAnswered e step r s).dport.issueNumber = s.dport.issueNumber ∧
      (entryAnswered e step r s).dport.patrolWait = s.dport.patrolWait := by
  unfold entryAnswered
  (repeat' split) <;> simp

@[simp] theorem jobWriteAnswered_port (k : Requester) (step : JobStep) (r : Reply) (s : State) :
    (jobWriteAnswered k step r s).dport.outstanding = s.dport.outstanding ∧ (jobWriteAnswered k step r s).dport.timer = s.dport.timer ∧
      (jobWriteAnswered k step r s).dport.issueNumber = s.dport.issueNumber ∧
      (jobWriteAnswered k step r s).dport.patrolWait = s.dport.patrolWait := by
  unfold jobWriteAnswered
  (repeat' split) <;> simp

@[simp] theorem restoreWriteAnswered_port (k : Requester) (line : Addr) (good : Bool) (r : Reply) (s : State) :
    (restoreWriteAnswered k line good r s).dport.outstanding = s.dport.outstanding ∧ (restoreWriteAnswered k line good r s).dport.timer = s.dport.timer ∧
      (restoreWriteAnswered k line good r s).dport.issueNumber = s.dport.issueNumber ∧
      (restoreWriteAnswered k line good r s).dport.patrolWait = s.dport.patrolWait := by
  unfold restoreWriteAnswered
  dsimp only
  (repeat' split) <;> simp

@[simp] theorem restoreAnswered_port (k : Requester) (line : Addr) (q : Seq) (phase : RestorePhase) (r : Reply) (s : State) :
    (restoreAnswered k line q phase r s).dport.outstanding = s.dport.outstanding ∧ (restoreAnswered k line q phase r s).dport.timer = s.dport.timer ∧
      (restoreAnswered k line q phase r s).dport.issueNumber = s.dport.issueNumber ∧
      (restoreAnswered k line q phase r s).dport.patrolWait = s.dport.patrolWait := by
  unfold restoreAnswered
  (repeat' split) <;> simp

@[simp] theorem statusFirstAnswered_port (second : Option Line) (r : Reply) (s : State) :
    (statusFirstAnswered second r s).dport.outstanding = s.dport.outstanding ∧ (statusFirstAnswered second r s).dport.timer = s.dport.timer ∧
      (statusFirstAnswered second r s).dport.issueNumber = s.dport.issueNumber ∧
      (statusFirstAnswered second r s).dport.patrolWait = s.dport.patrolWait := by
  unfold statusFirstAnswered
  (repeat' split) <;> simp

@[simp] theorem statusSecondAnswered_port (j : Job) (r : Reply) (s : State) :
    (statusSecondAnswered j r s).dport.outstanding = s.dport.outstanding ∧ (statusSecondAnswered j r s).dport.timer = s.dport.timer ∧
      (statusSecondAnswered j r s).dport.issueNumber = s.dport.issueNumber ∧
      (statusSecondAnswered j r s).dport.patrolWait = s.dport.patrolWait := by
  unfold statusSecondAnswered
  (repeat' split) <;> simp

@[simp] theorem engineAnswered_port (r : Reply) (s : State) :
    (engineAnswered r s).dport.outstanding = s.dport.outstanding ∧ (engineAnswered r s).dport.timer = s.dport.timer ∧
      (engineAnswered r s).dport.issueNumber = s.dport.issueNumber ∧
      (engineAnswered r s).dport.patrolWait = s.dport.patrolWait := by
  unfold engineAnswered
  (repeat' split) <;> simp

@[simp] theorem deferredAnswered_port (key : ReadRequest) (r : Reply) (s : State) :
    (deferredAnswered key r s).dport.outstanding = s.dport.outstanding ∧ (deferredAnswered key r s).dport.timer = s.dport.timer ∧
      (deferredAnswered key r s).dport.issueNumber = s.dport.issueNumber ∧
      (deferredAnswered key r s).dport.patrolWait = s.dport.patrolWait := by
  unfold deferredAnswered
  (repeat' split) <;> simp

@[simp] theorem patrolReadAnswered_port (line : Addr) (r : Reply) (s : State) :
    (patrolReadAnswered line r s).dport.outstanding = s.dport.outstanding ∧ (patrolReadAnswered line r s).dport.timer = s.dport.timer ∧
      (patrolReadAnswered line r s).dport.issueNumber = s.dport.issueNumber := by
  unfold patrolReadAnswered
  (repeat' split) <;> simp

@[simp] theorem patrolRenewAnswered_port (r : Reply) (s : State) :
    (patrolRenewAnswered r s).dport.outstanding = s.dport.outstanding ∧ (patrolRenewAnswered r s).dport.timer = s.dport.timer ∧
      (patrolRenewAnswered r s).dport.issueNumber = s.dport.issueNumber ∧
      (patrolRenewAnswered r s).dport.patrolWait = s.dport.patrolWait := by
  unfold patrolRenewAnswered
  (repeat' split) <;> simp

@[simp] theorem patrolAnswered_port (r : Reply) (s : State) :
    (patrolAnswered r s).dport.outstanding = s.dport.outstanding ∧ (patrolAnswered r s).dport.timer = s.dport.timer ∧
      (patrolAnswered r s).dport.issueNumber = s.dport.issueNumber := by
  unfold patrolAnswered
  (repeat' split) <;> simp

@[simp] theorem playWriteAnswered_port (good : Bool) (r : Reply) (s : State) :
    (playWriteAnswered good r s).dport.outstanding = s.dport.outstanding ∧ (playWriteAnswered good r s).dport.timer = s.dport.timer ∧
      (playWriteAnswered good r s).dport.issueNumber = s.dport.issueNumber ∧
      (playWriteAnswered good r s).dport.patrolWait = s.dport.patrolWait := by
  unfold playWriteAnswered
  (repeat' split) <;> simp

@[simp] theorem markerAnswered_port (i : Nat) (r : Reply) (s : State) :
    (markerAnswered i r s).dport.outstanding = s.dport.outstanding ∧ (markerAnswered i r s).dport.timer = s.dport.timer ∧
      (markerAnswered i r s).dport.issueNumber = s.dport.issueNumber ∧
      (markerAnswered i r s).dport.patrolWait = s.dport.patrolWait := by
  unfold markerAnswered
  (repeat' split) <;> simp

@[simp] theorem startupAnswered_port (r : Reply) (s : State) :
    (startupAnswered r s).dport.outstanding = s.dport.outstanding ∧ (startupAnswered r s).dport.timer = s.dport.timer ∧
      (startupAnswered r s).dport.issueNumber = s.dport.issueNumber ∧
      (startupAnswered r s).dport.patrolWait = s.dport.patrolWait := by
  unfold startupAnswered
  (repeat' split) <;> simp

@[simp] theorem handToClient_port (client : Client) (r : Reply) (s : State) :
    (handToClient client r s).dport.outstanding = s.dport.outstanding ∧ (handToClient client r s).dport.timer = s.dport.timer ∧
      (handToClient client r s).dport.issueNumber = s.dport.issueNumber := by
  unfold handToClient
  (repeat' split) <;> simp

@[simp] theorem patrolExpires_port (s : State) :
    (patrolExpires s).dport.outstanding = s.dport.outstanding ∧ (patrolExpires s).dport.timer = s.dport.timer ∧
      (patrolExpires s).dport.issueNumber = s.dport.issueNumber := by
  unfold patrolExpires
  (repeat' split) <;> simp

@[simp] theorem startStraight_port (r : ReadRequest) (s : State) :
    (startStraight r s).dport.outstanding = s.dport.outstanding ∧ (startStraight r s).dport.timer = s.dport.timer ∧
      (startStraight r s).dport.issueNumber = s.dport.issueNumber ∧
      (startStraight r s).dport.patrolWait = s.dport.patrolWait := by
  simp [startStraight]

@[simp] theorem judgeRead_port (r : ReadRequest) (s : State) :
    (judgeRead r s).dport.outstanding = s.dport.outstanding ∧ (judgeRead r s).dport.timer = s.dport.timer ∧
      (judgeRead r s).dport.issueNumber = s.dport.issueNumber ∧
      (judgeRead r s).dport.patrolWait = s.dport.patrolWait := by
  unfold judgeRead
  (repeat' split) <;> simp

@[simp] theorem abortTaken_port (k : Requester) (s : State) :
    (abortTaken k s).dport.outstanding = s.dport.outstanding ∧ (abortTaken k s).dport.timer = s.dport.timer ∧
      (abortTaken k s).dport.issueNumber = s.dport.issueNumber ∧
      (abortTaken k s).dport.patrolWait = s.dport.patrolWait := by
  simp [abortTaken]

@[simp] theorem commandTaken_port (k : Requester) (opcode : BitVec 4) (a : Word) (s : State) :
    (commandTaken k opcode a s).dport.outstanding = s.dport.outstanding ∧ (commandTaken k opcode a s).dport.timer = s.dport.timer ∧
      (commandTaken k opcode a s).dport.issueNumber = s.dport.issueNumber ∧
      (commandTaken k opcode a s).dport.patrolWait = s.dport.patrolWait := by
  unfold commandTaken
  (repeat' split) <;> simp

@[simp] theorem takeCommand_port (k : Requester) (s : State) :
    (takeCommand k s).dport.outstanding = s.dport.outstanding ∧ (takeCommand k s).dport.timer = s.dport.timer ∧
      (takeCommand k s).dport.issueNumber = s.dport.issueNumber ∧
      (takeCommand k s).dport.patrolWait = s.dport.patrolWait := by
  unfold takeCommand
  dsimp only
  (repeat' split) <;> simp

@[simp] theorem windowTaken_port (e : WindowEffect) (s : State) :
    (windowTaken e s).dport.outstanding = s.dport.outstanding ∧ (windowTaken e s).dport.timer = s.dport.timer ∧
      (windowTaken e s).dport.issueNumber = s.dport.issueNumber ∧
      (windowTaken e s).dport.patrolWait = s.dport.patrolWait := by
  unfold windowTaken
  (repeat' split) <;> simp

@[simp] theorem makeEffects_port (w : WriteRequest) (a : Admitted) (s : State) :
    (makeEffects w a s).dport.outstanding = s.dport.outstanding ∧ (makeEffects w a s).dport.timer = s.dport.timer ∧
      (makeEffects w a s).dport.issueNumber = s.dport.issueNumber ∧
      (makeEffects w a s).dport.patrolWait = s.dport.patrolWait := by
  unfold makeEffects
  (repeat' split) <;> simp

@[simp] theorem acceptWrite_port (w : WriteRequest) (a : Admitted) (s : State) :
    (acceptWrite w a s).dport.outstanding = s.dport.outstanding ∧ (acceptWrite w a s).dport.timer = s.dport.timer ∧
      (acceptWrite w a s).dport.issueNumber = s.dport.issueNumber ∧
      (acceptWrite w a s).dport.patrolWait = s.dport.patrolWait := by
  simp [acceptWrite]

@[simp] theorem judgeWrite_port (w : WriteRequest) (s : State) :
    (judgeWrite w s).dport.outstanding = s.dport.outstanding ∧ (judgeWrite w s).dport.timer = s.dport.timer ∧
      (judgeWrite w s).dport.issueNumber = s.dport.issueNumber ∧
      (judgeWrite w s).dport.patrolWait = s.dport.patrolWait := by
  unfold judgeWrite
  (repeat' split) <;> simp

/-! ## What a reply leaves of the device state (R79, R131, R150)

Outside start-up a reply keeps the device state or stops the device. -/

@[simp] theorem recordDataAnswered_stops (q : Option Seq) (r : Reply) (s : State) :
    (recordDataAnswered q r s).device = s.device ∨ recordDataAnswered q r s = stopDevice s := by
  unfold recordDataAnswered
  (repeat' split) <;> simp

@[simp] theorem recordHeaderAnswered_stops (e : PostedEntry) (r : Reply) (s : State) :
    (recordHeaderAnswered e r s).device = s.device ∨ recordHeaderAnswered e r s = stopDevice s := by
  unfold recordHeaderAnswered
  (repeat' split) <;> simp

@[simp] theorem dataWriteAnswered_stops (e : PostedEntry) (r : Reply) (s : State) :
    (dataWriteAnswered e r s).device = s.device ∨ dataWriteAnswered e r s = stopDevice s := by
  unfold dataWriteAnswered
  (repeat' split) <;> simp

@[simp] theorem entryAnswered_stops (e : PostedEntry) (step : EntryStep) (r : Reply) (s : State) :
    (entryAnswered e step r s).device = s.device ∨ entryAnswered e step r s = stopDevice s := by
  unfold entryAnswered
  (repeat' split) <;> simp

@[simp] theorem jobWriteAnswered_stops (k : Requester) (step : JobStep) (r : Reply) (s : State) :
    (jobWriteAnswered k step r s).device = s.device ∨ jobWriteAnswered k step r s = stopDevice s := by
  unfold jobWriteAnswered
  (repeat' split) <;> simp

@[simp] theorem restoreWriteAnswered_stops (k : Requester) (line : Addr) (good : Bool) (r : Reply) (s : State) :
    (restoreWriteAnswered k line good r s).device = s.device ∨ restoreWriteAnswered k line good r s = stopDevice s := by
  unfold restoreWriteAnswered
  dsimp only
  (repeat' split) <;> simp

@[simp] theorem restoreAnswered_stops (k : Requester) (line : Addr) (q : Seq) (phase : RestorePhase) (r : Reply) (s : State) :
    (restoreAnswered k line q phase r s).device = s.device ∨ restoreAnswered k line q phase r s = stopDevice s := by
  unfold restoreAnswered
  (repeat' split) <;> simp

@[simp] theorem statusFirstAnswered_stops (second : Option Line) (r : Reply) (s : State) :
    (statusFirstAnswered second r s).device = s.device ∨ statusFirstAnswered second r s = stopDevice s := by
  unfold statusFirstAnswered
  (repeat' split) <;> simp

@[simp] theorem statusSecondAnswered_stops (j : Job) (r : Reply) (s : State) :
    (statusSecondAnswered j r s).device = s.device ∨ statusSecondAnswered j r s = stopDevice s := by
  unfold statusSecondAnswered
  (repeat' split) <;> simp

@[simp] theorem engineAnswered_stops (r : Reply) (s : State) :
    (engineAnswered r s).device = s.device ∨ engineAnswered r s = stopDevice s := by
  unfold engineAnswered
  (repeat' split) <;> simp

@[simp] theorem patrolRenewAnswered_stops (r : Reply) (s : State) :
    (patrolRenewAnswered r s).device = s.device ∨ patrolRenewAnswered r s = stopDevice s := by
  unfold patrolRenewAnswered
  (repeat' split) <;> simp

@[simp] theorem patrolAnswered_stops (r : Reply) (s : State) :
    (patrolAnswered r s).device = s.device ∨ patrolAnswered r s = stopDevice s := by
  unfold patrolAnswered
  (repeat' split) <;> simp

theorem handToClient_stops {client : Client} (hclient : client ≠ .startup) (r : Reply) (s : State) :
    (handToClient client r s).device = s.device ∨ handToClient client r s = stopDevice s := by
  cases client with
  | writeEngine => exact engineAnswered_stops r s
  | straightRead => exact .inl (by simp [handToClient])
  | deferredRead key => exact .inl (by simp [handToClient])
  | patrol => exact patrolAnswered_stops r s
  | startup => exact absurd rfl hclient

end Sys2Proof.Machine

/-! PROOF. The Start-up Controller keeps the rules of the device states: O57, O60. -/

namespace Sys2Proof.Machine

/-! ## The step that each device state allows -/

theorem stepAllowed_start_iff {s : State} (h : s.device = .start) : s.stepAllowed ↔ s.startup.step = .idle := by
  unfold State.stepAllowed
  rw [h]
  cases s.startup.step <;> simp

theorem stepAllowed_load_iff {s : State} (h : s.device = .load) : s.stepAllowed ↔
    s.startup.step = .readConfiguration ∨ (∃ second, s.startup.step = .readRegions second) ∨
      s.startup.step = .readDescriptor := by
  unfold State.stepAllowed
  rw [h]
  cases s.startup.step <;> simp

theorem stepAllowed_scan_iff {s : State} (h : s.device = .scan) : s.stepAllowed ↔
    s.startup.step = .readSlot ∧ s.startup.nextSlot < s.slotCount := by
  unfold State.stepAllowed
  rw [h]
  cases s.startup.step <;> simp

theorem stepAllowed_playback_iff {s : State} (h : s.device = .playback) : s.stepAllowed ↔
    ((s.startup.step = .playHeader ∨ (∃ header, s.startup.step = .playData header) ∨
        ∃ line image poison good, s.startup.step = .playWrite line image poison good) ∧ s.startup.unfinished ≠ []) ∨
      ∃ i, s.startup.step = .marker i ∧ i < s.startup.unfinished.length := by
  unfold State.stepAllowed
  rw [h]
  cases s.startup.step <;> simp

theorem stepAllowed_run_iff {s : State} (h : s.device = .run) : s.stepAllowed ↔ s.startup.step = .idle := by
  unfold State.stepAllowed
  rw [h]
  cases s.startup.step <;> simp

theorem stepAllowed_of_stopped {s : State} (h : s.device = .stopped) : s.stepAllowed := by
  unfold State.stepAllowed
  rw [h]
  trivial

/-! ## What a reply to the Start-up Controller leads to -/

/-- A device state of start-up (R154): LOAD, SCAN or PLAYBACK. -/
def DeviceState.starting (d : DeviceState) : Prop := d = .load ∨ d = .scan ∨ d = .playback

/-- What a reply to the Start-up Controller does: a move of Table 10-1 with a step the new state allows, RECOVERING until
RUN, the U-port and the Read List as they were unless the device stops, the Patrol Unit as it was until RUN. -/
structure StartupLeads (s t : State) : Prop where
  device : s.device.mayBecome t.device = true
  step : t.stepAllowed
  recovering : t.device.starting → t.journal.state = .recovering
  counted : t.device = .run → t.journal.state ≠ .recovering
  uport : t.device ≠ .stopped → t.uport.inProgress = s.uport.inProgress ∧ t.dport.readList = s.dport.readList
  patrol : t.device.starting → t.patrol = s.patrol
  started : t.device ≠ .start

theorem StartupLeads.goesOn {s t : State} (hstarting : s.device.starting) (hdev : t.device = s.device)
    (hstep : t.stepAllowed) (hjournal : t.journal.state = .recovering) (huport : t.uport = s.uport)
    (hdport : t.dport = s.dport) (hpatrol : t.patrol = s.patrol) : StartupLeads s t where
  device := by rw [hdev]; obtain h | h | h := hstarting <;> rw [h] <;> rfl
  step := hstep
  recovering _ := hjournal
  counted h := by obtain h' | h' | h' := hstarting <;> simp [hdev, h'] at h
  uport _ := by rw [huport, hdport]; exact ⟨rfl, rfl⟩
  patrol _ := hpatrol
  started := by rw [hdev]; obtain h | h | h := hstarting <;> simp [h]

theorem StartupLeads.toRun {s t : State} (hstarting : s.device.starting) (hdev : t.device = .run)
    (hstep : t.startup.step = .idle) (hjournal : t.journal.state ≠ .recovering) (huport : t.uport = s.uport)
    (hdport : t.dport = s.dport) : StartupLeads s t where
  device := by rw [hdev]; obtain h | h | h := hstarting <;> rw [h] <;> rfl
  step := (stepAllowed_run_iff hdev).mpr hstep
  recovering h := by simp [DeviceState.starting, hdev] at h
  counted _ := hjournal
  uport _ := by rw [huport, hdport]; exact ⟨rfl, rfl⟩
  patrol h := by simp [DeviceState.starting, hdev] at h
  started := by simp [hdev]

theorem StartupLeads.stops {s : State} (hplayback : s.device = .playback) : StartupLeads s (stopDevice s) where
  device := by rw [device_stopDevice, hplayback]; rfl
  step := stepAllowed_of_stopped (device_stopDevice s)
  recovering h := by simp [DeviceState.starting, device_stopDevice] at h
  counted h := by simp [device_stopDevice] at h
  uport h := absurd (device_stopDevice s) h
  patrol h := by simp [DeviceState.starting, device_stopDevice] at h
  started := by simp [device_stopDevice]

/-! ## Entering RUN -/

@[simp] theorem device_enterRun (s : State) : (enterRun s).device = .run := by
  simp [enterRun, setStep, updStartup]

@[simp] theorem step_enterRun (s : State) : (enterRun s).startup.step = .idle := by
  simp [enterRun, setStep, updStartup]

theorem StartupLeads.entersRun {s u : State} (hstarting : s.device.starting) (hjournal : u.journal.state ≠ .recovering)
    (huport : u.uport = s.uport) (hdport : u.dport = s.dport) : StartupLeads s (enterRun u) :=
  .toRun hstarting (device_enterRun u) (step_enterRun u) (by simpa using hjournal) (by simpa using huport)
    (by simpa using hdport)

theorem StartupLeads.entersRunUnplayed {s u : State} (hstarting : s.device.starting)
    (hjournal : u.journal.state ≠ .recovering) (huport : u.uport = s.uport) (hdport : u.dport = s.dport) :
    StartupLeads s (enterRunUnplayed u) :=
  .entersRun hstarting (by simpa using hjournal) (by simpa using huport) (by simpa using hdport)

@[simp] theorem state_enterAbsent (reason : AbsentReason) (geometry : Option Geometry) (s : State) :
    (enterAbsent reason geometry s).journal.state = .absent reason := rfl

@[simp] theorem state_becomeReady (s : State) : (becomeReady s).journal.state = .ready := by
  simp only [becomeReady, lowTestAtReady]
  split <;> simp

@[simp] theorem state_raiseHead (s : State) : (raiseHead s).journal.state = s.journal.state := by
  unfold raiseHead
  split <;> rfl

@[simp] theorem state_takeHead (m : Option Seq) (s : State) : (takeHead m s).journal.state = s.journal.state := by
  cases m <;> simp [takeHead]

/-! ## LOAD -/

theorem slots_of_decodeDescriptor {window : Nat} {line : Line} {g : Geometry} (h : decodeDescriptor window line = some g) :
    64 ≤ g.slots := by
  rw [decodeDescriptor_eq, Option.ite_none_right_eq_some] at h
  obtain ⟨⟨-, -, hplaced⟩, hg⟩ := h
  obtain ⟨-, hslots, -⟩ := (placed_iff _ _).mp hplaced
  exact (Option.some.inj hg) ▸ hslots

section load
variable {s : State} (hload : s.device = .load) (hjournal : s.journal.state = .recovering)
include hload hjournal

theorem configurationAnswered_leads (r : Reply) : StartupLeads s (configurationAnswered r s) := by
  have hdev : (configurationAnswered r s).device = .load := by simpa using hload
  exact .goesOn (.inl hload) (by simp) ((stepAllowed_load_iff hdev).mpr (.inr (.inl ⟨false, rfl⟩)))
    (by simpa using hjournal) (by simp) (by simp) (by simp)

theorem regionLineAnswered_leads (second : Bool) (r : Reply) : StartupLeads s (regionLineAnswered second r s) := by
  have hdev : (regionLineAnswered second r s).device = .load := by simpa using hload
  refine .goesOn (.inl hload) (by simp) ((stepAllowed_load_iff hdev).mpr (.inr ?_)) (by simpa using hjournal) (by simp)
    (by simp) (by simp)
  cases second
  · exact .inl ⟨true, rfl⟩
  · exact .inr rfl

theorem descriptorValid_leads {g : Geometry} (hslots : 0 < g.slots) : StartupLeads s (descriptorValid g s) where
  device := by rw [hload]; rfl
  step := (stepAllowed_scan_iff rfl).mpr ⟨rfl, hslots⟩
  recovering _ := hjournal
  counted h := nomatch (show DeviceState.scan = .run from h)
  uport _ := ⟨rfl, rfl⟩
  patrol _ := rfl
  started := fun h => nomatch (show DeviceState.scan = .start from h)

theorem descriptorAnswered_leads (r : Reply) : StartupLeads s (descriptorAnswered r s) := by
  have hinvalid (u : State) (huport : u.uport = s.uport) (hdport : u.dport = s.dport) :
      StartupLeads s (descriptorInvalid u) :=
    .entersRunUnplayed (.inl hload) (by simp) (by simpa using huport) (by simpa using hdport)
  cases hline : r.soundLine with
  | none =>
    rw [descriptorAnswered_of_unreadable hline]
    exact hinvalid _ (by simp) (by simp)
  | some line =>
    cases hdec : decodeDescriptor s.windowBase line with
    | none =>
      rw [descriptorAnswered_of_invalid hline hdec]
      exact hinvalid s rfl rfl
    | some g =>
      rw [descriptorAnswered_of_valid hline hdec]
      exact descriptorValid_leads hload hjournal (Nat.lt_of_lt_of_le (by decide) (slots_of_decodeDescriptor hdec))

end load

/-! ## SCAN -/

section scan
variable {s : State} (hscan : s.device = .scan)
include hscan

theorem scanFails_leads {u : State} (huport : u.uport = s.uport) (hdport : u.dport = s.dport) (addr : Addr) :
    StartupLeads s (scanFails addr u) :=
  .entersRunUnplayed (.inr (.inl hscan)) (by simp) (by simpa using huport) (by simpa using hdport)

theorem enterPlayback_leads {u : State} (hu : u.startup.unfinished ≠ []) (hrec : u.journal.state = .recovering)
    (huport : u.uport = s.uport) (hdport : u.dport = s.dport) (hpatrol : u.patrol = s.patrol) :
    StartupLeads s (enterPlayback u) where
  device := by rw [hscan]; rfl
  step := by
    refine (stepAllowed_playback_iff rfl).mpr ?_
    have hstep : (enterPlayback u).startup.step =
        if 0 < u.startup.playback.length then .playHeader else .marker 0 := rfl
    rw [hstep]
    split
    · exact .inl ⟨.inl rfl, hu⟩
    · exact .inr ⟨0, rfl, List.length_pos_iff.mpr hu⟩
  recovering _ := hrec
  counted h := nomatch (show DeviceState.playback = .run from h)
  uport _ := ⟨by rw [← huport]; rfl, by rw [← hdport]; rfl⟩
  patrol _ := hpatrol
  started := fun h => nomatch (show DeviceState.playback = .start from h)

variable (hjournal : s.journal.state = .recovering)
include hjournal

theorem scanEnds_leads : StartupLeads s (scanEnds s) := by
  cases hfound : unfinishedOf (foundRun s.startup.summary s.slotCount) with
  | nil =>
    rw [scanEnds_of_finished hfound]
    exact .entersRunUnplayed (.inr (.inl hscan)) (by simp) (by simp [State.scanFound]) (by simp [State.scanFound])
  | cons e rest =>
    cases hm : highestSeq s.startup.summary with
    | none => simp [foundRun_of_none hm, unfinishedOf] at hfound
    | some q =>
      rw [scanEnds_of_unfinished hm hfound]
      split
      · refine enterPlayback_leads hscan ?_ (by simpa [State.scanFound] using hjournal) (by simp [State.scanFound])
          (by simp [State.scanFound]) (by simp [State.scanFound])
        simpa [unfinished_scanFound] using hfound ▸ List.cons_ne_nil e rest
      · exact scanFails_leads hscan (by simp [State.scanFound]) (by simp [State.scanFound]) _

theorem scanAnswered_leads (r : Reply) : StartupLeads s (scanAnswered r s) := by
  cases hline : r.soundLine with
  | none =>
    rw [scanAnswered_of_unreadable hline]
    exact scanFails_leads hscan rfl rfl _
  | some line =>
    by_cases hmore : s.startup.nextSlot + 1 < s.slotCount
    · rw [scanAnswered_of_more hline hmore]
      exact .goesOn (.inr (.inl hscan)) rfl ((stepAllowed_scan_iff (by exact hscan)).mpr ⟨rfl, hmore⟩) hjournal rfl rfl rfl
    · rw [scanAnswered_of_last hline hmore]
      have hended := scanEnds_leads (s := s.slotRecorded line) hscan hjournal
      exact { hended with }

end scan

/-! ## PLAYBACK -/

section playback
variable {s : State} (hplayback : s.device = .playback) (hjournal : s.journal.state = .recovering)
include hplayback hjournal

theorem playNext_leads {u : State} (hunfinished : u.startup.unfinished ≠ []) (hdev : u.device = s.device)
    (hstate : u.journal.state = s.journal.state) (huport : u.uport = s.uport) (hdport : u.dport = s.dport)
    (hpatrol : u.patrol = s.patrol) : StartupLeads s (playNext u) := by
  refine .goesOn (.inr (.inr hplayback)) hdev ((stepAllowed_playback_iff (by exact hdev.trans hplayback)).mpr ?_)
    (hstate.trans hjournal) huport hdport hpatrol
  have hstep : (playNext u).startup.step =
      if u.startup.position < u.startup.playback.length then .playHeader else .marker 0 := rfl
  rw [hstep]
  split
  · exact .inl ⟨.inl rfl, hunfinished⟩
  · exact .inr ⟨0, rfl, List.length_pos_iff.mpr hunfinished⟩

theorem playStepEnds_leads (hunfinished : s.startup.unfinished ≠ []) (good : Bool) :
    StartupLeads s (playStepEnds good s) := by
  rw [playStepEnds]
  refine playNext_leads hplayback hjournal ?_ (by simp) (by simp) (by simp) (by simp) (by simp)
  simpa [updStartup, countPlayed] using hunfinished

theorem setStep_leads {step : StartupStep} (hstep : (setStep step s).stepAllowed) : StartupLeads s (setStep step s) :=
  .goesOn (.inr (.inr hplayback)) rfl hstep hjournal rfl rfl rfl

theorem playDataAnswered_leads (hallowed : s.stepAllowed) (hunfinished : s.startup.unfinished ≠ [])
    (header : Option Line) (r : Reply) : StartupLeads s (playDataAnswered header r s) := by
  have hstays : StartupLeads s s := .goesOn (.inr (.inr hplayback)) rfl hallowed hjournal rfl rfl rfl
  unfold playDataAnswered
  split
  · exact playStepEnds_leads hplayback hjournal hunfinished false
  · split
    · exact setStep_leads hplayback hjournal
        ((stepAllowed_playback_iff (by exact hplayback)).mpr (.inl ⟨.inr (.inr ⟨_, _, _, _, rfl⟩), hunfinished⟩))
    · exact hstays
    · exact hstays

theorem playWriteAnswered_leads (hunfinished : s.startup.unfinished ≠ []) (good : Bool) (r : Reply) :
    StartupLeads s (playWriteAnswered good r s) := by
  cases r with
  | done => exact playStepEnds_leads hplayback hjournal hunfinished good
  | data _ _ | fail | unbacked => exact .stops hplayback

theorem markerDone_leads (i : Nat) : StartupLeads s (markerDone i s) := by
  by_cases hmore : i + 1 < s.startup.unfinished.length
  · rw [markerDone_of_more hmore]
    exact .goesOn (.inr (.inr hplayback)) rfl ((stepAllowed_playback_iff (by exact hplayback)).mpr (.inr ⟨_, rfl, hmore⟩)) hjournal
      rfl rfl rfl
  · rw [markerDone_of_last hmore]
    exact .entersRun (.inr (.inr hplayback)) (by simp) (by simp) (by simp)

theorem markerAnswered_leads (i : Nat) (r : Reply) : StartupLeads s (markerAnswered i r s) := by
  cases r with
  | done => exact markerDone_leads hplayback hjournal i
  | data _ _ | fail | unbacked => exact .stops hplayback

end playback

/-- Every reply to the Start-up Controller, by its step. -/
theorem startupAnswered_leads {s : State} (hstarting : s.device.starting) (hstep : s.stepAllowed)
    (hjournal : s.journal.state = .recovering) (r : Reply) : StartupLeads s (startupAnswered r s) := by
  unfold startupAnswered
  rcases hstarting with hload | hscan | hplayback
  · rcases (stepAllowed_load_iff hload).mp hstep with h | ⟨second, h⟩ | h <;> rw [h]
    · exact configurationAnswered_leads hload hjournal r
    · exact regionLineAnswered_leads hload hjournal second r
    · exact descriptorAnswered_leads hload hjournal r
  · obtain ⟨h, -⟩ := (stepAllowed_scan_iff hscan).mp hstep
    rw [h]
    exact scanAnswered_leads hscan hjournal r
  · rcases (stepAllowed_playback_iff hplayback).mp hstep with
      ⟨h | ⟨header, h⟩ | ⟨line, image, poison, good, h⟩, hunfinished⟩ | ⟨i, h, -⟩ <;> rw [h]
    · exact setStep_leads hplayback hjournal
        ((stepAllowed_playback_iff (by exact hplayback)).mpr (.inl ⟨.inr (.inl ⟨_, rfl⟩), hunfinished⟩))
    · exact playDataAnswered_leads hplayback hjournal hstep hunfinished header r
    · exact playWriteAnswered_leads hplayback hjournal hunfinished good r
    · exact markerAnswered_leads hplayback hjournal i r

end Sys2Proof.Machine

/-! PROOF. What a grant, an issue of the Write Engine and a reply to it can be: one case each for the proofs about every
step. -/

namespace Sys2Proof.Machine

/-! ## What a grant can be (R141 to R143) -/

/-- The outcomes of a free D-port's grant. -/
inductive Grants (s : State) : State → Prop where
  | stays : Grants s s
  | startup (u : State) (q : DportRequest) (hdev : s.device.starting) (hissue : startupIssue s = some (u, q)) :
      Grants s (issueRequest .startup q u)
  | engine (u : State) (q : DportRequest) (hdev : s.device = .run)
      (hdue : ¬ (s.pWaits = true ∧ s.dport.patrolWait = 16)) (hissue : engineIssue s = some (u, q)) :
      Grants s (issueRequest .writeEngine q (markGrant .w u))
  | straight (rest : List ReadMember) (r : ReadRequest) (hdev : s.device = .run)
      (hdue : ¬ (s.pWaits = true ∧ s.dport.patrolWait = 16)) (hlist : s.dport.readList = .straight :: rest)
      (hport : s.uport.inProgress = some r) :
      Grants s (issueRequest .straightRead (.read (lineOf r.address))
        (markGrant .r { s with dport := { s.dport with readList := rest } }))
  | unheld (rest : List ReadMember) (hdev : s.device = .run) (hlist : s.dport.readList = .straight :: rest)
      (hdue : ¬ (s.pWaits = true ∧ s.dport.patrolWait = 16)) (hport : s.uport.inProgress = none) :
      Grants s (markGrant .r { s with dport := { s.dport with readList := rest } })
  | deferred (rest : List ReadMember) (key : ReadRequest) (hdev : s.device = .run)
      (hdue : ¬ (s.pWaits = true ∧ s.dport.patrolWait = 16)) (hlist : s.dport.readList = .deferred key :: rest) :
      Grants s (issueRequest (.deferredRead key) (.read (lineOf key.address))
        (issueDeferred key (markGrant .r { s with dport := { s.dport with readList := rest } })))
  | patrol (q : DportRequest) (hdev : s.device = .run) (hrequest : s.patrolRequest = some q) :
      Grants s (issueRequest .patrol q s)

theorem grants_grantP {s : State} (hdev : s.device = .run) : Grants s (grantP s) := by
  cases hrequest : s.patrolRequest with
  | none =>
    rw [grantP_of_none hrequest]
    exact .stays
  | some q =>
    rw [grantP_of_request hrequest]
    exact .patrol q hdev hrequest

theorem grants_grantW {s : State} (hdev : s.device = .run) (hdue : ¬ (s.pWaits = true ∧ s.dport.patrolWait = 16)) :
    Grants s (grantW s) := by
  cases hissue : engineIssue s with
  | none =>
    unfold grantW
    rw [hissue]
    exact .stays
  | some issue =>
    rw [grantW_of_issue hissue]
    exact .engine _ _ hdev hdue hissue

theorem grants_grantR {s : State} (hdev : s.device = .run) (hdue : ¬ (s.pWaits = true ∧ s.dport.patrolWait = 16)) :
    Grants s (grantR s) := by
  cases hlist : s.dport.readList with
  | nil =>
    unfold grantR
    rw [hlist]
    exact .stays
  | cons m rest =>
    cases m with
    | straight =>
      cases hport : s.uport.inProgress with
      | none =>
        unfold grantR
        simp only [hlist, hport]
        exact .unheld rest hdev hlist hdue hport
      | some r =>
        rw [grantR_of_straight hlist hport]
        exact .straight rest r hdev hdue hlist hport
    | deferred key =>
      rw [grantR_of_deferred hlist]
      exact .deferred rest key hdev hdue hlist

theorem grants_grantS {s : State} (hdev : s.device.starting) : Grants s (grantS s) := by
  cases hissue : startupIssue s with
  | none =>
    unfold grantS
    rw [hissue]
    exact .stays
  | some issue =>
    rw [grantS_of_issue hissue]
    exact .startup _ _ hdev hissue

theorem grants {s : State} (hfree : s.dport.outstanding = none) : Grants s (grant s) := by
  cases hdev : s.device with
  | start => rw [grant_of_quiet (.inl hdev)]; exact .stays
  | stopped => rw [grant_of_quiet (.inr hdev)]; exact .stays
  | load => rw [grant_of_startup hfree (.inl hdev)]; exact grants_grantS (.inl hdev)
  | scan => rw [grant_of_startup hfree (.inr (.inl hdev))]; exact grants_grantS (.inr (.inl hdev))
  | playback => rw [grant_of_startup hfree (.inr (.inr hdev))]; exact grants_grantS (.inr (.inr hdev))
  | run =>
    rw [grant_of_run hfree hdev]
    by_cases hdue : s.pWaits = true ∧ s.dport.patrolWait = 16
    · rw [grantRun_of_due hdue.1 hdue.2]
      exact grants_grantP hdev
    · rw [grantRun_of_notDue hdue]
      split
      · exact grants_grantW hdev hdue
      · split
        · exact grants_grantR hdev hdue
        · exact grants_grantP hdev

/-- The client of a request that a grant issues: the Start-up Controller before RUN, and never in RUN (R139, R143). -/
theorem client_of_grants {s t : State} (h : Grants s t) {o : Outstanding} (hfree : s.dport.outstanding = none)
    (hout : t.dport.outstanding = some o) :
    (o.client = .startup ∧ s.device.starting) ∨ (o.client ≠ .startup ∧ s.device = .run) := by
  cases h with
  | stays => simp [hfree] at hout
  | startup u q hdev => cases hout; exact .inl ⟨rfl, hdev⟩
  | engine u q hdev | straight rest r hdev | deferred rest key hdev | patrol q hdev =>
    cases hout
    exact .inr ⟨by simp, hdev⟩
  | unheld rest hdev =>
    have hnone : s.dport.outstanding = some o := hout
    simp [hfree] at hnone

/-! ## What the choice of the Write Engine can be (R78) -/

/-- The outcomes of the Write Engine's choice. -/
inductive Chooses (s : State) : State → Prop where
  | stays (h : s.device = .run → s.engine.work = none → s.jobs = [] ∧ s.entryWaits = false) : Chooses s s
  | entry (e : PostedEntry) (rest : List PostedEntry) (hdev : s.device = .run) (hfree : s.engine.work = none)
      (hqueue : s.queue.entries = e :: rest) (hbegin : s.beginnable e = true) :
      Chooses s (beginUnit (.entry e.firstStep) .entry s)
  | job (j : Job) (rest : List Job) (hdev : s.device = .run) (hfree : s.engine.work = none)
      (hjobs : s.jobs = j :: rest) : Chooses s (beginUnit (s.jobUnit j) .job s)

theorem chooses (s : State) : Chooses s (chooseUnit s) := by
  by_cases hfree : s.device = .run ∧ s.engine.work = none
  swap
  · rw [chooseUnit_of_notFree hfree]
    exact .stays fun hdev hwork => (hfree ⟨hdev, hwork⟩).elim
  obtain ⟨hdev, hwork⟩ := hfree
  by_cases hentry : s.entryWaits = true ∧ (s.jobs = [] ∨ s.engine.lastUnit = .job)
  · obtain ⟨e, ⟨rest, hqueue⟩, hbegin⟩ := (entryWaits_iff s).mp hentry.1
    rw [chooseUnit_of_entry hdev hwork hqueue hbegin hentry.2]
    exact .entry e rest hdev hwork hqueue hbegin
  · cases hjobs : s.jobs with
    | nil =>
      have hno : s.entryWaits = false := Bool.eq_false_iff.mpr fun h => hentry ⟨h, .inl hjobs⟩
      rw [chooseUnit_of_idle hno hjobs]
      exact .stays fun _ _ => ⟨hjobs, hno⟩
    | cons j rest =>
      have hturn : s.entryWaits = false ∨ s.engine.lastUnit = .entry := by
        cases hlast : s.engine.lastUnit with
        | entry => exact .inr rfl
        | job => exact .inl (Bool.eq_false_iff.mpr fun h => hentry ⟨h, .inr hlast⟩)
      rw [chooseUnit_of_job hdev hwork hjobs hturn]
      exact .job j rest hdev hwork hjobs

/-- The unit of a job's next step is no entry. -/
theorem jobUnit_ne_entry (s : State) (j : Job) (step : EntryStep) : s.jobUnit j ≠ .entry step := by
  unfold State.jobUnit
  (repeat' split) <;> simp

/-! ## What the Write Engine's issue can be (R25, R70, R76, R174) -/

/-- Does the unit's step allocate a record at its issue (R13, R70)? -/
def WorkUnit.allocates : WorkUnit → Bool
  | .entry (.recordData _) => true
  | .write .openRecord => true
  | .write .commitMarker => true
  | .write .abortedMarker => true
  | _ => false

/-- The effects of an issue of the Write Engine. -/
inductive EngineIssues (s : State) : State → Prop where
  | plain (w : WorkUnit) (hwork : s.engine.work = some w) (hw : w.allocates = false) : EngineIssues s s
  | recordData (q : Option Seq) (e : PostedEntry) (rest : List PostedEntry)
      (hwork : s.engine.work = some (.entry (.recordData q))) (hqueue : s.queue.entries = e :: rest) :
      EngineIssues s (setUnit (some (.entry (.recordData (some s.journal.head))))
        (updHeld e.line e.owner (fun h => { h with record := some s.journal.head }) (allocate e.owner s)))
  | openRecord (j : Job) (rest : List Job) (hwork : s.engine.work = some (.write .openRecord))
      (hjobs : s.jobs = j :: rest) :
      EngineIssues s (updContext j.owner.slotNumber
        (fun c => { c with epoch := some s.journal.head, openWritten := true }) (allocate j.owner.slotNumber s))
  | endMarker (step : JobStep) (j : Job) (rest : List Job) (hstep : step = .commitMarker ∨ step = .abortedMarker)
      (hwork : s.engine.work = some (.write step)) (hjobs : s.jobs = j :: rest) :
      EngineIssues s (allocate j.owner.slotNumber s)
  | result (j : Job) (rest : List Job) (hwork : s.engine.work = some (.write .result)) (hjobs : s.jobs = j :: rest) :
      EngineIssues s (updSlot j.owner.slotNumber (fun c => { c with resultCount := c.resultCount + 1 }) s)
  | restore (line : Addr) (q : Seq) (j : Job) (rest : List Job)
      (hwork : s.engine.work = some (.restore line q .header)) (hjobs : s.jobs = j :: rest) :
      EngineIssues s (updHeld line j.owner.slotNumber (fun h => { h with state := .restoring }) s)
  | statusRecord (second second' : Option Line) (hwork : s.engine.work = some (.statusFirst second)) :
      EngineIssues s (setUnit (some (.statusFirst second')) (takeSnapshot s))

theorem engineIssues_of_entry {s : State} {step : EntryStep} {e : PostedEntry} {rest : List PostedEntry}
    (hwork : s.engine.work = some (.entry step)) (hqueue : s.queue.entries = e :: rest) :
    EngineIssues s (entryIssue s.ring e s step).1 := by
  cases step with
  | recordData q => exact .recordData q e rest hwork hqueue
  | oldRead | recordHeader _ | dataWrite => exact .plain _ hwork rfl

theorem engineIssues_of_write {s : State} {step : JobStep} {j : Job} {rest : List Job}
    (hwork : s.engine.work = some (.write step)) (hjobs : s.jobs = j :: rest) :
    EngineIssues s (markerIssue j.owner.slotNumber j s step).1 := by
  cases step with
  | openRecord => exact .openRecord j rest hwork hjobs
  | commitMarker => exact .endMarker _ j rest (.inl rfl) hwork hjobs
  | abortedMarker => exact .endMarker _ j rest (.inr rfl) hwork hjobs
  | result => exact .result j rest hwork hjobs
  | restore | descriptorInvalidate | formatSlot _ | descriptorWrite | statusRecord => exact .plain _ hwork rfl

theorem engineIssues {s u : State} {req : DportRequest} (h : engineIssue s = some (u, req)) : EngineIssues s u := by
  unfold engineIssue at h
  split at h <;> simp only [Option.some.injEq, Prod.ext_iff, reduceCtorEq] at h
  case h_1 step e rest hwork hqueue =>
    exact h.1 ▸ engineIssues_of_entry hwork hqueue
  case h_2 step j rest hwork hjobs => exact h.1 ▸ engineIssues_of_write hwork hjobs
  case h_3 line q j rest hwork hjobs => exact h.1 ▸ .restore line q j rest hwork hjobs
  case h_4 hwork => exact h.1 ▸ .plain _ hwork rfl
  case h_5 hwork => exact h.1 ▸ .plain _ hwork rfl
  case h_6 hwork => exact h.1 ▸ .statusRecord _ _ hwork
  case h_7 hwork => exact h.1 ▸ .plain _ hwork rfl

/-! ## What a reply to the Write Engine can be (R65 to R81) -/

/-- The capture buffer is filled and the record's data is next (R69). -/
def captureRead (b : CaptureBuffer) (s : State) : State :=
  { s with engine := { s.engine with buffer := some b, work := some (.entry (.recordData none)) } }

/-- What the unit in progress stands on is there: a queued entry, or a job. -/
def State.unitStands (s : State) : WorkUnit → Prop
  | .entry _ => s.queue.entries ≠ []
  | _ => s.jobs ≠ []

/-- The outcomes of a reply to the Write Engine. A unit that nothing backs, and a WRITE step that is none, take no
reply. -/
inductive EngineReplies (s : State) : State → Prop where
  | ignored (h : ∀ w, s.engine.work = some w → s.unitStands w → w = .write .restore ∨ w = .write .statusRecord) :
      EngineReplies s s
  | stops : EngineReplies s (stopDevice s)
  | oldRead (b : CaptureBuffer) (e : PostedEntry) (rest : List PostedEntry)
      (hwork : s.engine.work = some (.entry .oldRead)) (hqueue : s.queue.entries = e :: rest) :
      EngineReplies s (captureRead b s)
  | oldReadBad (kind : ErrorKind) (b : CaptureBuffer) (e : PostedEntry) (rest : List PostedEntry)
      (hwork : s.engine.work = some (.entry .oldRead)) (hqueue : s.queue.entries = e :: rest) :
      EngineReplies s (raiseError kind e.line (captureRead b s))
  | recordData (q : Seq) (e : PostedEntry) (rest : List PostedEntry)
      (hwork : s.engine.work = some (.entry (.recordData (some q)))) (hqueue : s.queue.entries = e :: rest) :
      EngineReplies s (setUnit (some (.entry (.recordHeader q))) s)
  | recordHeader (q : Seq) (e : PostedEntry) (rest : List PostedEntry)
      (hwork : s.engine.work = some (.entry (.recordHeader q))) (hqueue : s.queue.entries = e :: rest) :
      EngineReplies s (setUnit (some (.entry .dataWrite))
        (count .captures (updHeld e.line e.owner (fun h => { h with state := .held }) s)))
  | lands (e : PostedEntry) (rest : List PostedEntry)
      (hwork : s.engine.work = some (.entry .dataWrite)) (hqueue : s.queue.entries = e :: rest) :
      EngineReplies s (landHead e s)
  | landsUnbacked (e : PostedEntry) (rest : List PostedEntry)
      (hwork : s.engine.work = some (.entry .dataWrite)) (hqueue : s.queue.entries = e :: rest) :
      EngineReplies s (raiseError .unbackedWrite e.line (landHead e s))
  | jobWrite (step : JobStep) (j : Job) (rest : List Job) (hstep : step ≠ .restore ∧ step ≠ .statusRecord)
      (hwork : s.engine.work = some (.write step)) (hjobs : s.jobs = j :: rest) :
      EngineReplies s (jobWriteDone j.owner.slotNumber s step)
  | restoreRead (line : Addr) (q : Seq) (phase phase' : RestorePhase) (bad : Bool) (j : Job) (rest : List Job)
      (hwork : s.engine.work = some (.restore line q phase)) (hjobs : s.jobs = j :: rest) :
      EngineReplies s (countIf bad .restoreFails (setUnit (some (.restore line q phase')) s))
  | restoreWrite (line : Addr) (q : Seq) (phase : RestorePhase) (good : Bool) (j : Job) (rest : List Job)
      (hwork : s.engine.work = some (.restore line q phase)) (hjobs : s.jobs = j :: rest) :
      EngineReplies s (restoreWriteAnswered j.owner.slotNumber line good .done s)
  | statusFirst (first : Option Line) (second : Line) (hwork : s.engine.work = some (.statusFirst first)) :
      EngineReplies s (setUnit (some (.statusSecond second)) s)
  | statusSecond (second : Line) (j : Job) (rest : List Job) (hwork : s.engine.work = some (.statusSecond second))
      (hjobs : s.jobs = j :: rest) : EngineReplies s (statusRecordDone j s)

section replies
variable {s : State}

theorem entryReplies {step : EntryStep} {e : PostedEntry} {rest : List PostedEntry}
    (hwork : s.engine.work = some (.entry step)) (hqueue : s.queue.entries = e :: rest) (r : Reply) :
    EngineReplies s (entryAnswered e step r s) := by
  cases step with
  | oldRead =>
    cases r with
    | data bytes st =>
      unfold entryAnswered oldReadAnswered
      dsimp only
      split
      · exact .oldRead _ e rest hwork hqueue
      · exact .oldReadBad _ _ e rest hwork hqueue
    | done | fail | unbacked => exact .oldReadBad _ _ e rest hwork hqueue
  | recordData q =>
    cases r with
    | done =>
      cases q with
      | none => exact .stops
      | some q => exact .recordData q e rest hwork hqueue
    | data _ _ | fail | unbacked => exact .stops
  | recordHeader q =>
    cases r with
    | done => exact .recordHeader q e rest hwork hqueue
    | data _ _ | fail | unbacked => exact .stops
  | dataWrite =>
    cases r with
    | done => exact .lands e rest hwork hqueue
    | unbacked => exact .landsUnbacked e rest hwork hqueue
    | data _ _ | fail => exact .stops

theorem jobWriteReplies {step : JobStep} {j : Job} {rest : List Job} (hwork : s.engine.work = some (.write step))
    (hjobs : s.jobs = j :: rest) (r : Reply) : EngineReplies s (jobWriteAnswered j.owner.slotNumber step r s) := by
  cases r with
  | done =>
    by_cases hstep : step ≠ .restore ∧ step ≠ .statusRecord
    · exact .jobWrite step j rest hstep hwork hjobs
    · have hodd : step = .restore ∨ step = .statusRecord := by
        rwa [not_and_or, not_not, not_not] at hstep
      have hignored : EngineReplies s s := .ignored fun w hw _ => by
        rw [hwork] at hw
        cases hw
        exact hodd.imp (congrArg _) (congrArg _)
      rcases hodd with rfl | rfl <;> exact hignored
  | data _ _ | fail | unbacked => exact .stops

theorem restoreReplies {line : Addr} {q : Seq} {phase : RestorePhase} {j : Job} {rest : List Job}
    (hwork : s.engine.work = some (.restore line q phase)) (hjobs : s.jobs = j :: rest) (r : Reply) :
    EngineReplies s (restoreAnswered j.owner.slotNumber line q phase r s) := by
  cases phase with
  | header => exact .restoreRead line q _ _ false j rest hwork hjobs
  | data header => exact .restoreRead line q _ _ _ j rest hwork hjobs
  | write image poison good =>
    cases r with
    | done => exact .restoreWrite line q _ good j rest hwork hjobs
    | data _ _ | fail | unbacked => exact .stops

theorem statusFirstReplies {first : Option Line} (hwork : s.engine.work = some (.statusFirst first)) (r : Reply) :
    EngineReplies s (statusFirstAnswered first r s) := by
  cases r with
  | done => exact .statusFirst first _ hwork
  | data _ _ | fail | unbacked => exact .stops

theorem statusSecondReplies {second : Line} {j : Job} {rest : List Job} (hwork : s.engine.work = some (.statusSecond second))
    (hjobs : s.jobs = j :: rest) (r : Reply) : EngineReplies s (statusSecondAnswered j r s) := by
  cases r with
  | done => exact .statusSecond second j rest hwork hjobs
  | data _ _ | fail | unbacked => exact .stops

theorem engineReplies (r : Reply) (s : State) : EngineReplies s (engineAnswered r s) := by
  unfold engineAnswered
  split
  case h_1 hwork hqueue => exact entryReplies hwork hqueue r
  case h_2 hwork hjobs => exact jobWriteReplies hwork hjobs r
  case h_3 hwork hjobs => exact restoreReplies hwork hjobs r
  case h_4 hwork => exact statusFirstReplies hwork r
  case h_5 hwork hjobs => exact statusSecondReplies hwork hjobs r
  case h_6 hfirst hentry hwrite hrestore hsecond =>
    refine .ignored fun w hw hstands => ?_
    cases w with
    | entry step =>
      obtain ⟨e, rest, hqueue⟩ := List.exists_cons_of_ne_nil hstands
      exact (hentry step e rest hw hqueue).elim
    | write step =>
      obtain ⟨j, rest, hjobs⟩ := List.exists_cons_of_ne_nil hstands
      exact (hwrite step j rest hw hjobs).elim
    | restore line q phase =>
      obtain ⟨j, rest, hjobs⟩ := List.exists_cons_of_ne_nil hstands
      exact (hrestore line q phase j rest hw hjobs).elim
    | statusFirst first => exact (hfirst first hw).elim
    | statusSecond second =>
      obtain ⟨j, rest, hjobs⟩ := List.exists_cons_of_ne_nil hstands
      exact (hsecond second j rest hw hjobs).elim

end replies

end Sys2Proof.Machine

/-! PROOF. O57: what holds before RUN is kept by every step. O60: the moves of the device state. -/

namespace Sys2Proof.Machine

/-! ## The journal's state over the events of RUN (R10, R18, R20) -/

@[simp] theorem state_allocate (k : Requester) (s : State) : (allocate k s).journal.state = s.journal.state := by
  simp [allocate, updReserved]

@[simp] theorem state_claim (k : Requester) (n : Nat) (s : State) : (claim k n s).journal.state = s.journal.state := by
  rw [claim_journal]

@[simp] theorem state_recomputeTail (s : State) : (recomputeTail s).journal.state = s.journal.state := by
  simp [recomputeTail]

theorem state_of_engineIssues {s u : State} (h : EngineIssues s u) : u.journal.state = s.journal.state := by
  cases h <;> simp

theorem state_commandTaken (k : Requester) (opcode : BitVec 4) (a : Word) (s : State) :
    (commandTaken k opcode a s).journal.state = s.journal.state ∨ (commandTaken k opcode a s).journal.state = .formatting := by
  unfold commandTaken
  (repeat' split)
  · exact .inl (by simp [openTaken])
  · exact .inl (by simp)
  · exact .inl (by simp)
  · exact .inr rfl
  · exact .inl rfl

theorem state_windowTaken (e : WindowEffect) (s : State) :
    (windowTaken e s).journal.state = s.journal.state ∨ (windowTaken e s).journal.state = .formatting := by
  cases e with
  | close k =>
    simp only [windowTaken, takeCommand, closeSlot_frame]
    split
    · exact state_commandTaken k _ _ s
    · exact .inl rfl
  | setting c v | acknowledge v | stageBase j v | install j r | word0 k v | word1 k v | sequenceError k =>
    exact .inl (by simp [windowTaken])

theorem state_judgeWrite (w : WriteRequest) (s : State) :
    (judgeWrite w s).journal.state = s.journal.state ∨ (judgeWrite w s).journal.state = .formatting := by
  unfold judgeWrite
  split
  · exact .inl (by simp)
  · exact .inl (by simp)
  · rename_i a _
    simp only [acceptWrite, giveAnswer_frame, reportParity_frame, overtakeReads_frame, appendEntry_frame]
    cases a with
    | bare context => exact .inl rfl
    | capture => exact .inl (by simp [makeEffects])
    | window e => exact state_windowTaken e s

@[simp] theorem state_closeContext (k : Requester) (s : State) : (closeContext k s).journal.state = s.journal.state := by
  simp [closeContext]

theorem state_jobWriteDone (k : Requester) (step : JobStep) (s : State) :
    (jobWriteDone k s step).journal.state = s.journal.state ∨ (jobWriteDone k s step).journal.state = .ready := by
  cases step with
  | descriptorWrite => exact .inr (by simp [jobWriteDone, descriptorWriteDone])
  | openRecord | commitMarker | abortedMarker | descriptorInvalidate | formatSlot i | result | restore | statusRecord =>
    exact .inl (by simp [jobWriteDone, openRecordDone, commitMarkerDone, abortedMarkerDone])

/-- A reply to the Write Engine leaves the journal's state or, at the end of a format, makes it READY. -/
theorem state_of_engineReplies {s t : State} (h : EngineReplies s t) :
    t.journal.state = s.journal.state ∨ t.journal.state = .ready := by
  cases h with
  | jobWrite step j => exact state_jobWriteDone _ step s
  | _ => exact .inl (by simp [captureRead])

/-! ## The start-up clauses over the choice and the grant -/

theorem startupCoherent_of_run {t : State} (hdev : t.device = .run) (hstep : t.startup.step = .idle)
    (hclient : ∀ o, t.dport.outstanding = some o → o.client ≠ .startup) (hjournal : t.journal.state ≠ .recovering) :
    t.StartupCoherent where
  step := (stepAllowed_run_iff hdev).mpr hstep
  client o ho := by simp [hclient o ho, hdev]
  quiet h := by simp [hdev] at h
  journal := ⟨fun h => by simp [hdev] at h, fun _ => hjournal⟩
  empty h := by simp [hdev] at h

theorem startupCoherent_of_stopped {t : State} (hdev : t.device = .stopped) (hfree : t.dport.outstanding = none) :
    t.StartupCoherent where
  step := stepAllowed_of_stopped hdev
  client o ho := by simp [hfree] at ho
  quiet _ := hfree
  journal := ⟨fun h => by simp [hdev] at h, fun h => by simp [hdev] at h⟩
  empty h := by simp [hdev] at h

/-- Before RUN nothing of the U-port, the tables, the Write Engine, the Read List and patrol is in use. -/
structure State.Unused (s : State) : Prop where
  uport : s.uport.inProgress = none
  queue : s.queue.entries = []
  reads : s.reads = []
  held : s.held = []
  work : s.engine.work = none
  readList : s.dport.readList = []
  patrol : s.patrol.state = .off

theorem startupCoherent_of_starting {t : State} (hdev : t.device.starting) (hstep : t.stepAllowed)
    (hclient : ∀ o, t.dport.outstanding = some o → o.client = .startup) (hjournal : t.journal.state = .recovering)
    (hunused : t.Unused) : t.StartupCoherent where
  step := hstep
  client o ho := by obtain h | h | h := hdev <;> simp [hclient o ho, h]
  quiet h := by obtain h' | h' | h' := hdev <;> simp [h'] at h
  journal := ⟨fun _ => hjournal, fun h => by obtain h' | h' | h' := hdev <;> simp [h'] at h⟩
  empty _ := ⟨hunused.uport, hunused.queue, hunused.reads, hunused.held, hunused.work, hunused.readList, hunused.patrol⟩

theorem startupCoherent_of_start {t : State} (hdev : t.device = .start) (hstep : t.startup.step = .idle)
    (hfree : t.dport.outstanding = none) (hjournal : t.journal.state = .recovering)
    (hunused : t.Unused) : t.StartupCoherent where
  step := (stepAllowed_start_iff hdev).mpr hstep
  client o ho := by simp [hfree] at ho
  quiet _ := hfree
  journal := ⟨fun _ => hjournal, fun h => by simp [hdev] at h⟩
  empty _ := ⟨hunused.uport, hunused.queue, hunused.reads, hunused.held, hunused.work, hunused.readList, hunused.patrol⟩

section
variable {s : State} (h : s.StartupCoherent)
include h

theorem State.StartupCoherent.idle (hdev : s.device = .run) : s.startup.step = .idle :=
  (stepAllowed_run_iff hdev).mp h.step

theorem State.StartupCoherent.recovering (hdev : s.device.starting) : s.journal.state = .recovering :=
  h.journal.1 (.inr hdev)

theorem State.StartupCoherent.unused (hdev : s.device = .start ∨ s.device.starting) : s.Unused := by
  obtain ⟨huport, hqueue, hreads, hheld, hwork, hlist, hpatrol⟩ := h.empty hdev
  exact ⟨huport, hqueue, hreads, hheld, hwork, hlist, hpatrol⟩

theorem State.StartupCoherent.client_startup (hdev : s.device.starting) {o : Outstanding}
    (ho : s.dport.outstanding = some o) : o.client = .startup :=
  (h.client o ho).mpr (by obtain h' | h' | h' := hdev <;> simp [h'])

theorem State.StartupCoherent.client_ne_startup (hdev : s.device = .run) {o : Outstanding}
    (ho : s.dport.outstanding = some o) : o.client ≠ .startup :=
  fun hc => (h.client o ho).mp hc hdev

end

theorem DeviceState.cases_starting (d : DeviceState) : d = .start ∨ d.starting ∨ d = .run ∨ d = .stopped := by
  cases d <;> simp [DeviceState.starting]

theorem chooseUnit_of_notRun {s : State} (h : s.device ≠ .run) : chooseUnit s = s :=
  chooseUnit_of_notFree fun hfree => h hfree.1

theorem settle_of_quiet {s : State} (h : s.device = .start ∨ s.device = .stopped) : settle s = s := by
  rw [settle, chooseUnit_of_notRun (by obtain h | h := h <;> simp [h]), grant_of_quiet h]

theorem settle_of_starting {s : State} (h : s.device.starting) : settle s = grant s := by
  rw [settle, chooseUnit_of_notRun (by obtain h | h | h := h <;> simp [h])]

theorem settle_of_out {s : State} {o : Outstanding} (h : s.dport.outstanding = some o) : settle s = chooseUnit s :=
  grant_of_out (by simpa using h)

/-- A request outstanding after the choice and the grant was outstanding before, or its client is the one that the device
state allows. -/
theorem client_settle {s : State} {o : Outstanding} (h : (settle s).dport.outstanding = some o) :
    s.dport.outstanding = some o ∨ (o.client = .startup ∧ s.device.starting) ∨ (o.client ≠ .startup ∧ s.device = .run) := by
  cases hport : s.dport.outstanding with
  | some o' => rw [settle_of_out hport] at h; exact .inl (by simpa [hport] using h)
  | none =>
    have hfree : (chooseUnit s).dport.outstanding = none := by simpa using hport
    exact .inr (by simpa using client_of_grants (grants hfree) hfree h)

theorem state_settle (s : State) : (settle s).journal.state = s.journal.state := by
  cases hport : s.dport.outstanding with
  | some o' => simp [settle_of_out hport]
  | none =>
    have hgrants : Grants (chooseUnit s) (settle s) := grants (by simpa using hport)
    generalize settle s = t at hgrants
    cases hgrants with
    | stays | unheld rest | straight rest r | deferred rest key | patrol q => simp_all
    | startup u q hdev hissue =>
      rcases startupIssue_frame _ _ _ hissue with rfl | rfl <;> simp
    | engine u q hdev hdue hissue => simpa using state_of_engineIssues (engineIssues hissue)

theorem stepAllowed_congr {s t : State} (hdev : t.device = s.device) (hstartup : t.startup = s.startup)
    (hgeometry : t.journal.geometry = s.journal.geometry) (h : s.stepAllowed) : t.stepAllowed := by
  unfold State.stepAllowed State.slotCount at *
  rwa [hdev, hstartup, hgeometry]

@[simp] theorem geometry_raiseHead (s : State) : (raiseHead s).journal.geometry = s.journal.geometry := by
  unfold raiseHead
  split <;> rfl

theorem settle_startupCoherent {s : State} (h : s.StartupCoherent) : (settle s).StartupCoherent := by
  rcases s.device.cases_starting with hdev | hdev | hdev | hdev
  · rwa [settle_of_quiet (.inl hdev)]
  · rw [settle_of_starting hdev]
    cases hport : s.dport.outstanding with
    | some o => rwa [grant_of_out hport]
    | none =>
      have hnotRun : s.device ≠ .run := by obtain h' | h' | h' := hdev <;> simp [h']
      have hgrants := grants hport
      generalize grant s = t at hgrants
      cases hgrants with
      | stays => exact h
      | startup u q _ hissue =>
        have hunused := h.unused (.inr hdev)
        rcases startupIssue_frame _ _ _ hissue with rfl | rfl
        · exact startupCoherent_of_starting hdev h.step (fun o ho => by cases ho; rfl) (h.recovering hdev) { hunused with }
        · refine startupCoherent_of_starting (by simpa using hdev)
            (stepAllowed_congr (by simp) (by simp) (by simp) h.step) (fun o ho => by cases ho; rfl)
            (by simpa using h.recovering hdev) ?_
          exact ⟨by simpa using hunused.uport, by simpa using hunused.queue, by simpa using hunused.reads,
            by simpa using hunused.held, by simpa using hunused.work, by simpa [issueRequest] using hunused.readList,
            by simpa using hunused.patrol⟩
      | engine u q hrun | straight rest r hrun | unheld rest hrun | deferred rest key hrun | patrol q hrun =>
        exact absurd hrun hnotRun
  · refine startupCoherent_of_run (by simpa using hdev) (by simpa using h.idle hdev) (fun o ho => ?_)
      (by rw [state_settle]; exact h.journal.2 hdev)
    rcases client_settle ho with hout | ⟨-, hstarting⟩ | ⟨hclient, -⟩
    · exact h.client_ne_startup hdev hout
    · simp [DeviceState.starting, hdev] at hstarting
    · exact hclient
  · rwa [settle_of_quiet (.inr hdev)]

/-! ## The start-up clauses over the events -/

theorem afterReset_startupCoherent (cwb : BitVec 16) (s : State) : (afterReset cwb s).StartupCoherent :=
  startupCoherent_of_start rfl rfl rfl rfl ⟨rfl, rfl, rfl, rfl, rfl, rfl, rfl⟩

theorem enterLoad_startupCoherent {s : State} (h : s.StartupCoherent) (hdev : s.device = .start) :
    (enterLoad s).StartupCoherent := by
  have hunused := h.unused (.inl hdev)
  refine startupCoherent_of_starting (.inl rfl) ((stepAllowed_load_iff rfl).mpr (.inl rfl)) (fun o ho => ?_)
    (h.journal.1 (.inl hdev)) { hunused with }
  have hnone : s.dport.outstanding = some o := ho
  simp [h.quiet (.inl hdev)] at hnone

theorem giveAnswer_startupCoherent {s : State} (h : s.StartupCoherent) (k : Requester) (a : Answer) :
    (giveAnswer k a s).StartupCoherent := { h with }

theorem judgeWrite_startupCoherent {s : State} (h : s.StartupCoherent) (hdev : s.device = .run) (w : WriteRequest) :
    (judgeWrite w s).StartupCoherent := by
  refine startupCoherent_of_run (by simpa using hdev) (by simpa using h.idle hdev)
    (fun o ho => h.client_ne_startup hdev (by simpa using ho)) ?_
  rcases state_judgeWrite w s with hstate | hstate
  · rw [hstate]
    exact h.journal.2 hdev
  · simp [hstate]

theorem judgeRead_startupCoherent {s : State} (h : s.StartupCoherent) (hdev : s.device = .run) (r : ReadRequest) :
    (judgeRead r s).StartupCoherent :=
  startupCoherent_of_run (by simpa using hdev) (by simpa using h.idle hdev)
    (fun o ho => h.client_ne_startup hdev (by simpa using ho)) (by simpa using h.journal.2 hdev)

theorem takeRequest_startupCoherent {s : State} (h : s.StartupCoherent) (q : UportRequest) :
    (takeRequest q s).StartupCoherent := by
  rcases s.device.cases_starting with hdev | hdev | hdev | hdev
  · rw [takeRequest_of_starting (.inl hdev)]
    exact settle_startupCoherent (giveAnswer_startupCoherent h _ _)
  · rw [takeRequest_of_starting (.inr hdev)]
    exact settle_startupCoherent (giveAnswer_startupCoherent h _ _)
  · cases q with
    | write w => exact settle_startupCoherent (judgeWrite_startupCoherent h hdev w)
    | read r => exact settle_startupCoherent (judgeRead_startupCoherent h hdev r)
  · rw [takeRequest_of_stopped hdev]
    exact settle_startupCoherent (giveAnswer_startupCoherent h _ _)

/-- In RUN a reply leaves the Start-up Controller and does not make the journal RECOVERING. -/
theorem handToClient_inRun {client : Client} (hclient : client ≠ .startup) (r : Reply) (s : State) :
    (handToClient client r s).startup = s.startup ∧
      ((handToClient client r s).journal.state = s.journal.state ∨ (handToClient client r s).journal.state = .ready) := by
  cases client with
  | writeEngine => exact ⟨by simp [handToClient], state_of_engineReplies (engineReplies r s)⟩
  | straightRead | deferredRead key | patrol => simp [handToClient]
  | startup => exact absurd rfl hclient

/-- A reply in RUN: the device stays in RUN or stops. -/
theorem handToClient_startupCoherent_of_run {s : State} (h : s.StartupCoherent) (hdev : s.device = .run) {o : Outstanding}
    (ho : s.dport.outstanding = some o) (r : Reply) : (handToClient o.client r (releasePort s)).StartupCoherent := by
  have hclient := h.client_ne_startup hdev ho
  have hfree : (handToClient o.client r (releasePort s)).dport.outstanding = none := by
    rw [(handToClient_port _ _ _).1]; rfl
  obtain ⟨hstartup, hstate⟩ := handToClient_inRun hclient r (releasePort s)
  rcases handToClient_stops hclient r (releasePort s) with hkept | hstops
  · refine startupCoherent_of_run (hkept.trans hdev) (by rw [hstartup]; exact h.idle hdev)
      (fun o' ho' => by rw [hfree] at ho'; cases ho') ?_
    rcases hstate with hstate | hstate
    · rw [hstate]
      exact h.journal.2 hdev
    · simp [hstate]
  · exact startupCoherent_of_stopped (by rw [hstops, device_stopDevice]) hfree

/-- A reply before RUN goes to the Start-up Controller. -/
theorem handToClient_startupCoherent_of_starting {s : State} (h : s.StartupCoherent) (hdev : s.device.starting)
    {o : Outstanding} (ho : s.dport.outstanding = some o) (r : Reply) :
    StartupLeads s (handToClient o.client r (releasePort s)) ∧
      (handToClient o.client r (releasePort s)).StartupCoherent := by
  have hleads : StartupLeads s (handToClient o.client r (releasePort s)) := by
    rw [h.client_startup hdev ho]
    exact { startupAnswered_leads (s := releasePort s) hdev h.step (h.recovering hdev) r with }
  refine ⟨hleads, ?_⟩
  have hfree : (handToClient o.client r (releasePort s)).dport.outstanding = none := by
    rw [(handToClient_port _ _ _).1]; rfl
  have hunused := h.unused (.inr hdev)
  rcases (handToClient o.client r (releasePort s)).device.cases_starting with hto | hto | hto | hto
  · exact absurd hto hleads.started
  · refine startupCoherent_of_starting hto hleads.step (fun o' ho' => by rw [hfree] at ho'; cases ho')
      (hleads.recovering hto) ?_
    obtain ⟨huport, hlist⟩ := hleads.uport (by obtain h' | h' | h' := hto <;> simp [h'])
    rw [h.client_startup hdev ho] at *
    exact ⟨huport.trans hunused.uport, by simpa [handToClient] using hunused.queue,
      by simpa [handToClient] using hunused.reads, by simpa [handToClient] using hunused.held,
      by simpa [handToClient] using hunused.work, hlist.trans hunused.readList,
      by rw [hleads.patrol hto]; exact hunused.patrol⟩
  · exact startupCoherent_of_run hto ((stepAllowed_run_iff hto).mp hleads.step)
      (fun o' ho' => by rw [hfree] at ho'; cases ho') (hleads.counted hto)
  · exact startupCoherent_of_stopped hto hfree

theorem handReply_startupCoherent {s : State} (h : s.StartupCoherent) {o : Outstanding}
    (ho : s.dport.outstanding = some o) (r : Reply) : (handReply o r s).StartupCoherent := by
  refine settle_startupCoherent ?_
  rcases s.device.cases_starting with hdev | hdev | hdev | hdev
  · simp [h.quiet (.inl hdev)] at ho
  · exact (handToClient_startupCoherent_of_starting h hdev ho r).2
  · exact handToClient_startupCoherent_of_run h hdev ho r
  · simp [h.quiet (.inr hdev)] at ho

theorem discardExpires_of_noReads {s : State} (h : s.reads = []) (key : ReadRequest) : discardExpires key s = s := by
  unfold discardExpires State.findRead
  rw [h]
  rfl

theorem discardExpires_startupCoherent {s : State} (h : s.StartupCoherent) (key : ReadRequest) :
    (discardExpires key s).StartupCoherent := by
  rcases s.device.cases_starting with hdev | hdev | hdev | hdev
  · rwa [discardExpires_of_noReads (h.unused (.inl hdev)).reads]
  · rwa [discardExpires_of_noReads (h.unused (.inr hdev)).reads]
  · exact startupCoherent_of_run (by simpa using hdev) (by simpa using h.idle hdev)
      (fun o ho => h.client_ne_startup hdev (by simpa using ho)) (by simpa using h.journal.2 hdev)
  · rwa [discardExpires_of_stopped hdev]

theorem patrolExpires_of_off {s : State} (h : s.patrol.state = .off) : patrolExpires s = s := by
  unfold patrolExpires
  rw [h]

theorem patrolExpires_startupCoherent {s : State} (h : s.StartupCoherent) : (patrolExpires s).StartupCoherent := by
  rcases s.device.cases_starting with hdev | hdev | hdev | hdev
  · rwa [patrolExpires_of_off (h.unused (.inl hdev)).patrol]
  · rwa [patrolExpires_of_off (h.unused (.inr hdev)).patrol]
  · exact startupCoherent_of_run (by simpa using hdev) (by simpa using h.idle hdev)
      (fun o ho => h.client_ne_startup hdev (by simpa using ho)) (by simpa using h.journal.2 hdev)
  · rwa [patrolExpires_of_stopped hdev]

theorem startupCoherent_events : EventsLead State.StartupCoherent State.StartupCoherent where
  start _ h := h
  resets cwb s _ := afterReset_startupCoherent cwb s
  resetLoads cwb s _ := settle_startupCoherent (enterLoad_startupCoherent (afterReset_startupCoherent cwb s) rfl)
  loads _ h hdev := settle_startupCoherent (enterLoad_startupCoherent h hdev)
  replies _ r _ h ho _ := handReply_startupCoherent h ho r
  discards key _ h := discardExpires_startupCoherent h key
  patrols _ h := settle_startupCoherent (patrolExpires_startupCoherent h)
  requests q _ h _ := takeRequest_startupCoherent h q
  waits _ _ h := { h with }

/-- Settles O57: every event keeps the start-up clauses. -/
theorem everyStepKeepsTheStartupCoherent : Obligations.EveryStepKeepsTheStartupCoherent :=
  fun _ _ h hstep => step_leads startupCoherent_events (fun _ _ h => { h with }) h hstep

/-! ## The device state (R154, R156) -/

@[simp] theorem device_enterLoad (s : State) : (enterLoad s).device = .load := rfl

theorem DeviceState.mayBecome_self (d : DeviceState) : d.mayBecome d = true := by
  cases d <;> rfl

/-- A reply moves the device state by the table. -/
theorem handReply_mayBecome {s : State} (h : s.StartupCoherent) {o : Outstanding} (ho : s.dport.outstanding = some o)
    (r : Reply) : s.device.mayBecome (handReply o r s).device = true := by
  simp only [handReply, settle_frame]
  rcases s.device.cases_starting with hdev | hdev | hdev | hdev
  · simp [h.quiet (.inl hdev)] at ho
  · exact (handToClient_startupCoherent_of_starting h hdev ho r).1.device
  · rcases handToClient_stops (h.client_ne_startup hdev ho) r (releasePort s) with hkept | hstops
    · rw [hkept]
      exact s.device.mayBecome_self
    · rw [hstops, device_stopDevice, hdev]
      rfl
  · simp [h.quiet (.inr hdev)] at ho

/-- Only a reply and MEM_READY move the device state. -/
theorem mayBecome_commands {s : State} (h : s.StartupCoherent) :
    CommandsLead (fun u => u = s) (fun u => s.device.mayBecome u.device = true) where
  start u hu := by rw [hu]; exact s.device.mayBecome_self
  loads u hu hdev := by subst hu; simp [hdev]; rfl
  replies o r u hu ho _ := by subst hu; exact handReply_mayBecome h ho r
  discards key u hu := by subst hu; simpa using u.device.mayBecome_self
  patrols u hu := by subst hu; simpa using u.device.mayBecome_self
  requests q u hu _ := by simpa using hu
  waits _ _ hu := hu

/-- Settles O60: a reset enters START or LOAD, and the other commands move the device state by their events. -/
theorem deviceStateMovesByItsTable : Obligations.DeviceStateMovesByItsTable := by
  intro s t c h hexec
  refine ⟨fun hreset => (mayBecome_commands h).exec hreset rfl hexec, fun cwb hc => ?start, fun cwb hc => ?load⟩
  case start =>
    subst hc
    cases hexec
    rfl
  case load =>
    subst hc
    cases hexec
    simp

end Sys2Proof.Machine

/-! PROOF. The tables' sizes and the unit in progress, and the D-port's own clauses, over the events: the first half of
`State.Coherent`. -/

namespace Sys2Proof.Machine

/-! ## The queue, the Held-Line Table and the unit in progress (R34, R63, R78) -/

/-- The clauses of `State.Coherent` on the Posted Write Queue, the Held-Line Table and the unit in progress. -/
structure State.TablesCoherent (s : State) : Prop where
  queueFits : s.queue.entries.length ≤ 16
  heldFits : s.held.length ≤ 512
  heldOnce : (s.held.map (·.line)).Nodup
  backed : ∀ w, s.engine.work = some w → s.unitStands w

/-- Nothing entered a table, and the unit in progress stands on something. -/
theorem State.TablesCoherent.shrinks {s t : State} (h : s.TablesCoherent)
    (hqueue : t.queue.entries.length ≤ s.queue.entries.length)
    (hheld : (t.held.map (·.line)).Sublist (s.held.map (·.line)))
    (hbacked : ∀ w, t.engine.work = some w → t.unitStands w) : t.TablesCoherent where
  queueFits := hqueue.trans h.queueFits
  heldFits := by simpa using hheld.length_le.trans (by simpa using h.heldFits)
  heldOnce := h.heldOnce.sublist hheld
  backed := hbacked

/-- The unit is as it was, and nothing it can stand on was emptied. -/
theorem State.TablesCoherent.keepsUnit {s t : State} (h : s.TablesCoherent) (hqueue : t.queue.entries = s.queue.entries)
    (hheld : (t.held.map (·.line)).Sublist (s.held.map (·.line))) (hwork : t.engine.work = s.engine.work)
    (hjobs : s.jobs ≠ [] → t.jobs ≠ []) : t.TablesCoherent := by
  refine h.shrinks (by rw [hqueue]) hheld fun w hw => ?_
  have hstands := h.backed w (hwork ▸ hw)
  cases w with
  | entry step => simpa [State.unitStands, hqueue] using hstands
  | write _ | restore _ _ _ | statusFirst _ | statusSecond _ => exact hjobs hstands

/-! ### What grows the Job List -/

theorem jobsWhenDirty_prefix (s : State) : s.jobs <+: jobsWhenDirty s := by
  unfold jobsWhenDirty
  split
  · exact List.prefix_rfl
  · exact List.prefix_append _ _

/-- A raise leaves the jobs and the flag, or sets the flag and places a status job when none stands in the list. -/
def Raised (s t : State) : Prop :=
  (t.jobs = s.jobs ∧ t.status.dirty = s.status.dirty) ∨ (t.jobs = jobsWhenDirty s ∧ t.status.dirty = true)

theorem Raised.refl {s : State} : Raised s s := .inl ⟨rfl, rfl⟩

theorem Raised.of_eq {s t : State} (hjobs : t.jobs = s.jobs) (hstatus : t.status = s.status) : Raised s t :=
  .inl ⟨hjobs, by rw [hstatus]⟩

theorem jobsWhenDirty_congr {s t : State} (hjobs : t.jobs = s.jobs) (hdirty : t.status.dirty = s.status.dirty) :
    jobsWhenDirty t = jobsWhenDirty s := by
  unfold jobsWhenDirty State.hasStatusJob
  rw [hjobs, hdirty]

theorem Raised.trans {s t u : State} (h : Raised s t) (h' : Raised t u) : Raised s u := by
  rcases h with ⟨hjobs, hdirty⟩ | ⟨hjobs, hdirty⟩ <;> rcases h' with ⟨hjobs', hdirty'⟩ | ⟨hjobs', hdirty'⟩
  · exact .inl ⟨hjobs'.trans hjobs, hdirty'.trans hdirty⟩
  · exact .inr ⟨hjobs'.trans (jobsWhenDirty_congr hjobs hdirty), hdirty'⟩
  · exact .inr ⟨hjobs'.trans hjobs, hdirty'.trans hdirty⟩
  · exact .inr ⟨by rw [hjobs', jobsWhenDirty_of_dirty hdirty, hjobs], hdirty'⟩

theorem Raised.jobs_isPrefix {s t : State} (h : Raised s t) : s.jobs <+: t.jobs := by
  rcases h with ⟨hjobs, -⟩ | ⟨hjobs, -⟩ <;> rw [hjobs]
  exact jobsWhenDirty_prefix s

theorem Raised.ne_nil {s t : State} (h : Raised s t) (hs : s.jobs ≠ []) : t.jobs ≠ [] := fun hnil => by
  have hprefix := h.jobs_isPrefix
  rw [hnil, List.prefix_nil] at hprefix
  exact hs hprefix

theorem raised_raiseCause (c : Cause) (s : State) : Raised s (raiseCause c s) := by
  cases hpending : s.status.causes.getLsbD c.bit with
  | true => rw [raiseCause_of_pending hpending]; exact .refl
  | false => rw [raiseCause_of_notPending hpending]; exact .inr ⟨rfl, rfl⟩

theorem raised_raiseError (kind : ErrorKind) (addr : Addr) (s : State) : Raised s (raiseError kind addr s) := by
  rw [raiseError_eq]
  exact .inr ⟨rfl, rfl⟩

theorem raised_acknowledge (ack : Byte) (s : State) : Raised s (acknowledge ack s) := by
  unfold acknowledge setCauses
  split
  · exact .refl
  · rw [setDirty_eq]
    exact .inr ⟨rfl, rfl⟩

theorem raised_count (c : Counter) (s : State) : Raised s (count c s) := .inl ⟨rfl, rfl⟩

theorem raised_countIf (b : Bool) (c : Counter) (s : State) : Raised s (countIf b c s) := by
  cases b
  · exact .refl
  · exact raised_count c s

theorem raised_countTimes (c : Counter) (n : Nat) (s : State) : Raised s (countTimes c n s) := by
  rw [countTimes_eq]
  exact .inl ⟨rfl, rfl⟩

theorem raised_lowTest (freeBefore markBefore : Nat) (s : State) : Raised s (lowTest freeBefore markBefore s) := by
  unfold lowTest
  split
  · exact raised_raiseCause _ _
  · exact .refl

theorem raised_lowTestAtReady (s : State) : Raised s (lowTestAtReady s) := by
  unfold lowTestAtReady
  split
  · exact raised_raiseCause _ _
  · exact .refl

theorem raised_claim (k : Requester) (n : Nat) (s : State) : Raised s (claim k n s) :=
  (Raised.of_eq (t := updReserved k (· + n) s) (rfl) (rfl)).trans (raised_lowTest _ _ _)

theorem raised_recomputeTail (s : State) : Raised s (recomputeTail s) :=
  (Raised.of_eq (t := { s with journal := { s.journal with tail := s.liveTail } }) (rfl) (rfl)).trans
    (raised_lowTest _ _ _)

theorem raised_closeContext (k : Requester) (s : State) : Raised s (closeContext k s) :=
  (Raised.of_eq (t := updContext k _ s) (rfl) (rfl)).trans (raised_recomputeTail _)

theorem raised_stopDevice (s : State) : Raised s (stopDevice s) := by
  have hraise : Raised s (raiseCause .stopped { s with device := .stopped }) :=
    (Raised.of_eq (rfl) (rfl)).trans (raised_raiseCause .stopped { s with device := .stopped })
  cases hport : s.uport.inProgress with
  | none =>
    rw [stopDevice_of_free hport]
    exact hraise
  | some q =>
    rw [stopDevice_of_held hport]
    exact hraise.trans (.of_eq (rfl) (rfl))

/-! ### Raises in the events of the patrol, of start-up and of a request -/

theorem raised_patrolStepEnds (s : State) : Raised s (patrolStepEnds s) := .of_eq (by simp) (by simp)

theorem raised_patrolBad (line : Addr) (s : State) : Raised s (patrolBad line s) :=
  ((raised_count _ s).trans (raised_raiseError _ _ _)).trans (raised_patrolStepEnds _)

theorem raised_patrolAnswered (r : Reply) (s : State) : Raised s (patrolAnswered r s) := by
  unfold patrolAnswered
  split
  · unfold patrolReadAnswered
    (repeat' split)
    · exact raised_patrolBad _ _
    · exact .of_eq rfl rfl
    · exact raised_patrolStepEnds _
    all_goals exact raised_patrolBad _ _
  · cases r with
    | done => exact (raised_count _ s).trans (raised_patrolStepEnds _)
    | data _ _ | fail | unbacked => exact raised_stopDevice s
  · exact .refl

theorem raised_foldl {α : Type} {f : State → α → State} (hf : ∀ s a, Raised s (f s a)) (l : List α) (s : State) :
    Raised s (l.foldl f s) := by
  induction l generalizing s with
  | nil => exact .refl
  | cons a l ih => exact (hf s a).trans (ih (f s a))

theorem raised_setStep (step : StartupStep) (s : State) : Raised s (setStep step s) := .of_eq rfl rfl

theorem raised_configurationAnswered (r : Reply) (s : State) : Raised s (configurationAnswered r s) := by
  have hword (bytes : Line) (st : Vector WordStatus 16) (s : State) (c : ConfigWord) : Raised s (loadWord bytes st s c) := by
    unfold loadWord
    split
    · exact .of_eq rfl rfl
    · exact raised_raiseError _ _ _
  cases r with
  | data bytes st => exact (raised_foldl (hword bytes st) _ s).trans (raised_setStep _ _)
  | done | fail | unbacked => exact (raised_raiseError _ _ s).trans (raised_setStep _ _)

theorem raised_regionLineAnswered (second : Bool) (r : Reply) (s : State) : Raised s (regionLineAnswered second r s) := by
  have hset (j : Fin 16) (region : Region) (s : State) : Raised s (setRegion j region s) := .of_eq rfl rfl
  have hregion (bytes : Line) (st : Vector WordStatus 16) (s : State) (i : Fin 8) :
      Raised s (loadRegion second bytes st s i) := by
    unfold loadRegion
    dsimp only
    split
    · exact hset _ _ s
    · exact (hset _ _ s).trans (raised_raiseError _ _ _)
  have hfailed : Raised s (regionLineFailed second s) :=
    (raised_foldl (f := fun s i => setRegion (regionIndex second i) Region.reset s) (fun s i => hset _ _ s) _ s).trans
      (raised_raiseError _ _ _)
  cases r with
  | data bytes st => exact (raised_foldl (hregion bytes st) _ s).trans (raised_setStep _ _)
  | done | fail | unbacked => exact hfailed.trans (raised_setStep _ _)

theorem raised_enterRun (s : State) : Raised s (enterRun s) := by
  have hpatrol (u : State) : Raised u (patrolEnterRun u) := .of_eq (by simp) (by simp)
  exact ((Raised.of_eq (t := setStep .idle { s with device := .run }) rfl rfl).trans (raised_raiseCause _ _)).trans
    (hpatrol _)

theorem raised_enterRunUnplayed (s : State) : Raised s (enterRunUnplayed s) :=
  (Raised.of_eq (t := updStartup _ s) rfl rfl).trans (raised_enterRun _)

theorem raised_becomeReady (s : State) : Raised s (becomeReady s) :=
  (Raised.of_eq (t := { s with journal := { s.journal with state := .ready, tail := s.journal.head } }) rfl rfl).trans
    (raised_lowTestAtReady _)

theorem raised_descriptorAnswered (r : Reply) (s : State) : Raised s (descriptorAnswered r s) := by
  have hinvalid (s : State) : Raised s (descriptorInvalid s) :=
    (Raised.of_eq (t := enterAbsent .descriptorInvalid none s) rfl rfl).trans (raised_enterRunUnplayed _)
  unfold descriptorAnswered
  split
  · exact (raised_raiseError _ _ s).trans (hinvalid _)
  · split
    · exact hinvalid s
    · exact .of_eq rfl rfl

theorem raised_scanFails (addr : Addr) (s : State) : Raised s (scanFails addr s) :=
  ((Raised.of_eq (t := enterAbsent .scanFailed s.journal.geometry s) rfl rfl).trans (raised_raiseError _ _ _)).trans
    (raised_enterRunUnplayed _)

theorem raised_takeHead (m : Option Seq) (s : State) : Raised s (takeHead m s) := .of_eq (by simp) (by simp)

theorem raised_scanEnds (s : State) : Raised s (scanEnds s) := by
  unfold scanEnds
  have hfound (m : Option Seq) (run : List SlotSummary) : Raised s (recordFindings m run s) := .of_eq (by simp) (by simp)
  dsimp only
  split
  · split
    · exact ((hfound _ _).trans (raised_takeHead _ _)).trans (.of_eq rfl rfl)
    · exact (hfound _ _).trans (raised_scanFails _ _)
  all_goals exact ((hfound _ _).trans (raised_takeHead _ _)).trans ((raised_becomeReady _).trans (raised_enterRunUnplayed _))

theorem raised_scanAnswered (r : Reply) (s : State) : Raised s (scanAnswered r s) := by
  unfold scanAnswered
  dsimp only
  split
  · exact raised_scanFails _ s
  · split
    · exact .of_eq rfl rfl
    · exact (Raised.of_eq rfl rfl).trans (raised_scanEnds _)

theorem raised_playStepEnds (good : Bool) (s : State) : Raised s (playStepEnds good s) :=
  ((Raised.of_eq (t := updStartup _ s) rfl rfl).trans (raised_countIf _ _ _)).trans (.of_eq rfl rfl)

theorem raised_markerDone (i : Nat) (s : State) : Raised s (markerDone i s) := by
  unfold markerDone
  dsimp only
  split
  · exact .of_eq rfl rfl
  · exact (Raised.of_eq (t := updStartup _ s) rfl rfl).trans ((raised_becomeReady _).trans (raised_enterRun _))

theorem raised_startupAnswered (r : Reply) (s : State) : Raised s (startupAnswered r s) := by
  unfold startupAnswered
  split
  · exact .refl
  · exact raised_configurationAnswered r s
  · exact raised_regionLineAnswered _ r s
  · exact raised_descriptorAnswered r s
  · exact raised_scanAnswered r s
  · exact .of_eq rfl rfl
  · unfold playDataAnswered
    (repeat' split)
    · exact raised_playStepEnds _ s
    · exact .of_eq rfl rfl
    · exact .refl
    · exact .refl
  · cases r with
    | done => exact raised_playStepEnds _ s
    | data _ _ | fail | unbacked => exact raised_stopDevice s
  · cases r with
    | done => exact raised_markerDone _ s
    | data _ _ | fail | unbacked => exact raised_stopDevice s

theorem raised_answerRead (q : ReadRequest) (bytes : List Byte) (poison : List Bool) (s : State) :
    Raised s (answerRead q bytes poison s) :=
  (Raised.of_eq (t := giveAnswer q.requester _ s) rfl rfl).trans (raised_countIf _ _ _)

theorem raised_straightAnswered (r : Reply) (s : State) : Raised s (straightAnswered r s) := by
  unfold straightAnswered
  split
  · exact .refl
  · cases r with
    | data bytes st => exact (Raised.of_eq rfl rfl).trans (raised_answerRead _ _ _ _)
    | done | fail | unbacked => exact .of_eq rfl rfl

/-- Every reply to another client than the Write Engine raises only. -/
theorem raised_handToClient {client : Client} (hclient : client ≠ .writeEngine) (r : Reply) (s : State) :
    Raised s (handToClient client r s) := by
  cases client with
  | writeEngine => exact absurd rfl hclient
  | straightRead => exact raised_straightAnswered r s
  | deferredRead key => exact .of_eq (by simp [handToClient]) (by simp [handToClient])
  | patrol => exact raised_patrolAnswered r s
  | startup => exact raised_startupAnswered r s

theorem raised_readsSentBack (hit : DeferredRead → Bool) (f : DeferredRead → DeferredRead) (s : State) :
    Raised s (readsSentBack hit f s) :=
  (Raised.of_eq rfl rfl).trans (raised_countTimes _ _ _)

theorem raised_settingTaken (c : ConfigWord) (v : Word) (s : State) : Raised s (settingTaken c v s) := by
  cases c with
  | lowMark => exact (Raised.of_eq (t := { s with settings := _ }) rfl rfl).trans (raised_lowTest _ _ _)
  | stagedBase | stagedSlots | parityCheck | discardInterval | patrolInterval | interruptMask =>
    exact .of_eq (by simp [settingTaken]) (by simp [settingTaken])

theorem raised_commandTaken (k : Requester) (opcode : BitVec 4) (a : Word) (s : State) :
    Raised s (commandTaken k opcode a s) := by
  unfold commandTaken
  (repeat' split)
  · exact (Raised.of_eq (t := updContext k _ s) rfl rfl).trans (raised_claim _ _ _)
  · exact .of_eq rfl rfl
  · unfold abortTaken
    rw [takeBackReads_eq]
    exact (Raised.of_eq (t := updContext k _ s) rfl rfl).trans (raised_readsSentBack _ _ _)
  · exact .of_eq rfl rfl
  · exact .refl

theorem raised_takeCommand (k : Requester) (s : State) : Raised s (takeCommand k s) := by
  unfold takeCommand
  dsimp only
  split
  · exact (raised_commandTaken _ _ _ s).trans (.of_eq rfl rfl)
  · exact .of_eq rfl rfl

theorem raised_windowTaken (e : WindowEffect) (s : State) : Raised s (windowTaken e s) := by
  cases e with
  | setting c v => exact raised_settingTaken c v s
  | acknowledge v => exact raised_acknowledge _ s
  | word0 k v => exact (Raised.of_eq (t := updSlot k _ s) rfl rfl).trans (raised_countIf _ _ _)
  | close k => exact raised_takeCommand k s
  | stageBase j v | install j r | word1 k v | sequenceError k =>
    exact .of_eq (by simp [windowTaken]) (by simp [windowTaken])

theorem raised_makeEffects (w : WriteRequest) (a : Admitted) (s : State) : Raised s (makeEffects w a s) := by
  cases a with
  | bare context => exact .refl
  | capture => exact (raised_claim _ _ s).trans (.of_eq rfl rfl)
  | window e => exact raised_windowTaken e s

theorem raised_reportParity (poison : WordMask) (addr : Addr) (s : State) : Raised s (reportParity poison addr s) := by
  unfold reportParity
  split
  · exact .refl
  · exact (raised_count _ s).trans (raised_raiseError _ _ _)

theorem raised_giveAnswer (k : Requester) (a : Answer) (s : State) : Raised s (giveAnswer k a s) := .of_eq rfl rfl

theorem raised_appendEntry (e : PostedEntry) (s : State) : Raised s (appendEntry e s) := .of_eq rfl rfl

theorem raised_acceptWrite (w : WriteRequest) (a : Admitted) (s : State) : Raised s (acceptWrite w a s) := by
  unfold acceptWrite
  dsimp only
  rw [overtakeReads_eq]
  exact (raised_makeEffects w a s).trans <| (raised_appendEntry _ _).trans <| (raised_readsSentBack _ _ _).trans <|
    (raised_reportParity _ _ _).trans (raised_giveAnswer _ _ _)

theorem raised_countFault (f : FaultReason) (s : State) : Raised s (countFault f s) := by
  cases f <;> exact .inl ⟨rfl, rfl⟩

/-- What a request does only raises. -/
theorem raised_judgeWrite (w : WriteRequest) (s : State) : Raised s (judgeWrite w s) := by
  unfold judgeWrite
  split
  · exact raised_giveAnswer _ _ s
  · exact (raised_countFault _ s).trans (raised_giveAnswer _ _ _)
  · exact raised_acceptWrite w _ s

theorem raised_judgeRead (r : ReadRequest) (s : State) : Raised s (judgeRead r s) := by
  unfold judgeRead
  split
  case h_6 =>
    split
    · exact .of_eq rfl rfl
    · split
      · rename_i d _
        unfold answerRepeat
        (repeat' split)
        · exact .of_eq rfl rfl
        · exact .of_eq rfl rfl
        · exact .of_eq rfl rfl
        · exact (Raised.of_eq (t := freeRead r s) rfl rfl).trans (raised_answerRead _ _ _ _)
      · unfold deferRead
        split
        · exact .inl ⟨rfl, rfl⟩
        · exact .of_eq rfl rfl
      · exact .of_eq rfl rfl
  all_goals exact .of_eq rfl rfl

/-! ### The tables over the choice and the issue -/

theorem unitStands_of_jobs {s : State} {w : WorkUnit} (hw : ∀ step, w ≠ .entry step) (hjobs : s.jobs ≠ []) :
    s.unitStands w := by
  cases w with
  | entry step => exact absurd rfl (hw step)
  | write _ | restore _ _ _ | statusFirst _ | statusSecond _ => exact hjobs

theorem map_line_updHeld (line : Addr) (k : Requester) {f : HeldEntry → HeldEntry} (hf : ∀ d, (f d).line = d.line)
    (s : State) : (updHeld line k f s).held.map (·.line) = s.held.map (·.line) := by
  simp only [updHeld, List.map_map]
  refine List.map_congr_left fun d _ => ?_
  simp only [Function.comp_apply]
  split <;> simp [hf]

section
variable {s : State} (h : s.TablesCoherent)
include h

theorem chooseUnit_tablesCoherent : (chooseUnit s).TablesCoherent := by
  have hchooses := chooses s
  generalize chooseUnit s = t at hchooses
  cases hchooses with
  | stays => exact h
  | entry e rest _ _ hqueue =>
    refine h.shrinks le_rfl (List.Sublist.refl _) fun w hw => ?_
    cases hw
    simpa [State.unitStands] using hqueue ▸ List.cons_ne_nil e rest
  | job j rest _ _ hjobs =>
    refine h.shrinks le_rfl (List.Sublist.refl _) fun w hw => ?_
    cases hw
    exact unitStands_of_jobs (jobUnit_ne_entry s j) (hjobs ▸ List.cons_ne_nil j rest)

theorem engineIssues_tablesCoherent {u : State} (hu : EngineIssues s u) : u.TablesCoherent := by
  cases hu with
  | plain => exact h
  | recordData q e rest hwork hqueue =>
    refine h.shrinks (by simp) (by simp [setUnit, map_line_updHeld, allocate_frame]) fun w hw => ?_
    cases hw
    simp [State.unitStands, hqueue]
  | openRecord | endMarker | result => exact h.keepsUnit (by simp) (by simp) (by simp) (by simp)
  | restore line q j rest hwork hjobs =>
    exact h.keepsUnit (by simp) (by simp [map_line_updHeld]) (by simp) (by simp)
  | statusRecord second second' hwork =>
    refine h.shrinks (by simp) (by simp) fun w hw => ?_
    cases hw
    exact h.backed _ hwork

theorem grant_tablesCoherent : (grant s).TablesCoherent := by
  cases hport : s.dport.outstanding with
  | some o => rwa [grant_of_out hport]
  | none =>
    have hgrants := grants hport
    generalize grant s = t at hgrants
    cases hgrants with
    | stays => exact h
    | startup u q _ hissue =>
      rcases startupIssue_frame _ _ _ hissue with rfl | rfl <;>
        exact h.keepsUnit (by simp) (by simp) (by simp) (by simp)
    | engine u q _ _ hissue =>
      have hu := engineIssues_tablesCoherent h (engineIssues hissue)
      exact hu.keepsUnit rfl (List.Sublist.refl _) rfl id
    | straight | unheld | deferred | patrol => exact h.keepsUnit rfl (List.Sublist.refl _) rfl id

theorem settle_tablesCoherent : (settle s).TablesCoherent :=
  grant_tablesCoherent (chooseUnit_tablesCoherent h)

end

end Sys2Proof.Machine

/-! PROOF. The tables' clauses over replies and requests, and the D-port's own clauses over all events. -/

namespace Sys2Proof.Machine

/-! ## The tables over a reply -/

theorem work_jobWriteDone {step : JobStep} (hstep : step ≠ .restore ∧ step ≠ .statusRecord) (k : Requester) (s : State) :
    (jobWriteDone k s step).engine.work = none := by
  cases step with
  | restore => exact absurd rfl hstep.1
  | statusRecord => exact absurd rfl hstep.2
  | openRecord | commitMarker | abortedMarker | descriptorInvalidate | formatSlot _ | descriptorWrite | result =>
    simp [jobWriteDone, openRecordDone, commitMarkerDone, abortedMarkerDone, formatLineDone, descriptorWriteDone,
      resultRecordDone, setUnit]

theorem held_jobWriteDone (k : Requester) (s : State) (step : JobStep) :
    (jobWriteDone k s step).held.Sublist s.held := by
  cases step with
  | commitMarker =>
    have hheld : (jobWriteDone k s .commitMarker).held = s.held.filter fun e => !(e.holder == k) := by
      simp [jobWriteDone, commitMarkerDone, releaseHeld]
    rw [hheld]
    exact List.filter_sublist
  | openRecord | abortedMarker | descriptorInvalidate | formatSlot _ | descriptorWrite | result | restore
  | statusRecord => simp [jobWriteDone, abortedMarkerDone]

theorem work_landHead (e : PostedEntry) (s : State) : (landHead e s).engine.work = none := by
  unfold landHead
  dsimp only
  split <;> simp [setUnit]

theorem queue_landHead (e : PostedEntry) (s : State) : (landHead e s).queue.entries = s.queue.entries.tail := by
  unfold landHead
  dsimp only
  split <;> simp [dropHead]

theorem restoreWriteDone_fields (k : Requester) (line : Addr) (good : Bool) (s : State) :
    (restoreWriteAnswered k line good .done s).engine.work = none ∧
      (restoreWriteAnswered k line good .done s).held = s.held.filter fun e => !(e.line == line) := by
  simp [restoreWriteAnswered, setUnit, removeHeld]

theorem work_statusRecordDone (j : Job) (s : State) : (statusRecordDone j s).engine.work = none := by
  unfold statusRecordDone
  split
  · simp [setUnit]
  · dsimp only
    split <;> simp [setUnit]

section
variable {s : State} (h : s.TablesCoherent)
include h

/-- A table only shrinks, and the Write Engine is free. -/
theorem State.TablesCoherent.frees {t : State} (hqueue : t.queue.entries.length ≤ s.queue.entries.length)
    (hheld : (t.held.map (·.line)).Sublist (s.held.map (·.line))) (hwork : t.engine.work = none) : t.TablesCoherent :=
  h.shrinks hqueue hheld fun w hw => by simp [hwork] at hw

/-- The unit in progress is at a step of the head entry. -/
theorem State.TablesCoherent.carries {t : State} {step : EntryStep} {e : PostedEntry} {rest : List PostedEntry}
    (hentries : s.queue.entries = e :: rest) (hwork : t.engine.work = some (.entry step))
    (hqueue : t.queue.entries = s.queue.entries)
    (hheld : (t.held.map (·.line)).Sublist (s.held.map (·.line))) : t.TablesCoherent := by
  refine h.shrinks (by rw [hqueue]) hheld fun w hw => ?_
  cases hwork.symm.trans hw
  simp [State.unitStands, hqueue, hentries]

/-- The unit in progress is at a step of a job. -/
theorem State.TablesCoherent.works {t : State} {w : WorkUnit} (hw : ∀ step, w ≠ .entry step)
    (hwork : t.engine.work = some w) (hjobs : t.jobs ≠ []) (hqueue : t.queue.entries = s.queue.entries)
    (hheld : (t.held.map (·.line)).Sublist (s.held.map (·.line))) : t.TablesCoherent := by
  refine h.shrinks (by rw [hqueue]) hheld fun w' hw' => ?_
  cases hwork.symm.trans hw'
  exact unitStands_of_jobs hw hjobs

theorem engineReplies_tablesCoherent {t : State} (ht : EngineReplies s t) : t.TablesCoherent := by
  cases ht with
  | ignored => exact h
  | stops => exact h.keepsUnit (by simp) (by simp) (by simp) (raised_stopDevice s).ne_nil
  | oldRead b e rest _ hqueue => exact h.carries hqueue (t := captureRead b s) rfl rfl (List.Sublist.refl _)
  | oldReadBad kind b e rest _ hqueue =>
    exact h.carries hqueue (by simp; rfl) (by simp [captureRead]) (by simp [captureRead])
  | recordData q e rest _ hqueue => exact h.carries hqueue rfl rfl (List.Sublist.refl _)
  | recordHeader q e rest _ hqueue => exact h.carries hqueue rfl (by simp) (by simp [map_line_updHeld])
  | lands e rest _ hqueue =>
    exact h.frees (by simp [queue_landHead]) (by simp) (work_landHead e s)
  | landsUnbacked e rest _ hqueue =>
    exact h.frees (by simp [queue_landHead]) (by simp) (by simp [work_landHead])
  | jobWrite step j rest hstep =>
    exact h.frees (by simp) ((held_jobWriteDone _ s step).map _) (work_jobWriteDone hstep _ s)
  | restoreRead line q phase phase' bad j rest _ hjobs =>
    exact h.works (w := .restore line q phase') (by simp) (by simp [setUnit])
      ((raised_countIf _ _ _).ne_nil (hjobs ▸ List.cons_ne_nil j rest)) (by simp) (by simp)
  | restoreWrite line q phase good j =>
    obtain ⟨hwork, hheld⟩ := restoreWriteDone_fields j.owner.slotNumber line good s
    exact h.frees (by simp) (by rw [hheld]; exact List.filter_sublist.map _) hwork
  | statusFirst first second hwork =>
    exact h.works (w := .statusSecond second) (by simp) rfl (h.backed _ hwork) rfl (List.Sublist.refl _)
  | statusSecond second j => exact h.frees (by simp) (by simp) (work_statusRecordDone j s)

theorem handToClient_tablesCoherent (client : Client) (r : Reply) : (handToClient client r s).TablesCoherent := by
  cases client with
  | writeEngine => exact engineReplies_tablesCoherent h (engineReplies r s)
  | straightRead | deferredRead key | patrol | startup =>
    exact h.keepsUnit (by simp [handToClient]) (by simp [handToClient]) (by simp [handToClient])
      (raised_handToClient (by simp) r s).ne_nil

end

/-! ## What a write is accepted for (R56 to R60, R102 to R106) -/

/-- How a write is posted, with what its checks found. -/
inductive Accepts (s : State) (w : WriteRequest) : Admitted → Prop where
  | plain : Accepts s w (.bare none)
  | own (hopen : s.contexts[w.requester].state = .opened) : Accepts s w (.bare (some w.requester))
  | capture (hopen : s.contexts[w.requester].state = .opened) (hnew : s.lookupHeld (lineOf w.address) = none)
      (hroom : s.held.length < 512) (hlimit : s.heldCount w.requester < s.contexts[w.requester].lineLimit)
      (hclaim : s.canClaim 1 = true) : Accepts s w .capture
  | window (e : WindowEffect) (hclose : ∀ k, e = .close k ∨ e = .sequenceError k →
      k = w.requester ∧ s.slots[k].phase ≠ .executing) : Accepts s w (.window e)

section
variable {s : State} {w : WriteRequest}

theorem accepts_of_captureCheck {a : Admitted} (hopen : s.contexts[w.requester].state = .opened)
    (hnew : s.lookupHeld (lineOf w.address) = none) (h : s.captureCheck w.requester = .ok a) : Accepts s w a := by
  unfold State.captureCheck at h
  split at h
  · cases h
  · rename_i hroom
    split at h
    · cases h
    · rename_i hlimit
      split at h
      · cases h
      · rename_i hclaim
        cases h
        exact .capture hopen hnew (Nat.lt_of_not_le hroom) (Nat.lt_of_not_le hlimit) (by simpa using hclaim)

theorem accepts_of_regionCheck {mode : RegionMode} {a : Admitted}
    (h : s.regionCheck w.requester (lineOf w.address) mode = .ok a) : Accepts s w a := by
  unfold State.regionCheck at h
  split at h
  · cases h
  · split at h
    · split at h
      · cases h
      · split at h
        · rename_i hopen
          cases h
          exact .own hopen
        · cases h
    · rename_i hnew
      split at h
      · rename_i hopen
        exact accepts_of_captureCheck hopen hnew h
      · split at h
        · cases h
        · cases h
          exact .plain

theorem closing_eq_ok {c : CommandSlot} {k : Requester} {inOrder : Bool} {e : WindowEffect}
    (h : c.closing k inOrder = .ok e) : c.phase ≠ .executing ∧ (e = .close k ∨ e = .sequenceError k) := by
  unfold CommandSlot.closing at h
  split at h
  · cases h
  · rename_i hphase
    refine ⟨hphase, ?_⟩
    split at h <;> cases h
    · exact .inl rfl
    · exact .inr rfl

/-- A command word that closes the slot's staging found the slot not EXECUTING. -/
theorem phase_of_check {c : CommandSlot} {k j : Requester} {word : Fin 3} {v : Word} {e : WindowEffect}
    (h : c.check k word v = .ok e) (he : e = .close j ∨ e = .sequenceError j) : j = k ∧ c.phase ≠ .executing := by
  have hclosing {inOrder : Bool} (h : c.closing k inOrder = .ok e) : j = k ∧ c.phase ≠ .executing := by
    obtain ⟨hphase, he'⟩ := closing_eq_ok h
    refine ⟨?_, hphase⟩
    rcases he with rfl | rfl <;> rcases he' with he' | he' <;> cases he' <;> rfl
  unfold CommandSlot.check at h
  split at h
  · cases h
    simp at he
  · split at h
    · split at h
      · cases h
        simp at he
      · exact hclosing h
    · exact hclosing h

theorem accepts_of_windowCheck {e : WindowEffect} (h : s.windowCheck w = .ok e) : Accepts s w (.window e) := by
  refine .window e fun k he => ?_
  have hhost {word : WindowWord} (h : s.hostWordCheck w word = .ok e) :
      k = w.requester ∧ s.slots[k].phase ≠ .executing := by
    cases word with
    | command j n =>
      simp only [State.hostWordCheck, State.wordCheck] at h
      split at h
      · cases h
      · rename_i hforeign
        split at h
        · cases h
        · obtain ⟨rfl, hphase⟩ := phase_of_check h he
          simp only [bne_iff_ne, ne_eq, not_not] at hforeign
          exact ⟨hforeign.symm, hphase⟩
    | config c | acknowledge | regionA j | regionB j | deviceOwned | unlisted =>
      simp only [State.hostWordCheck, State.wordCheck] at h
      (repeat' split at h) <;> cases h <;> simp at he
  unfold State.windowCheck at h
  split at h
  · cases h
  · split at h
    · cases h
    · cases h
    · exact hhost h

theorem accepts_of_classCheck {a : Admitted} (h : s.classCheck w = .ok a) : Accepts s w a := by
  unfold State.classCheck at h
  dsimp only at h
  split at h
  · split at h
    · rename_i hcheck
      cases h
      exact accepts_of_windowCheck hcheck
    · cases h
  · cases h
  · exact accepts_of_regionCheck h
  · cases h
    exact .plain

theorem accepts_of_judge {a : Admitted} (h : s.judge w = .accept a) :
    s.device = .run ∧ s.queue.entries.length < 16 ∧ Accepts s w a := by
  unfold State.judge at h
  split at h
  case h_6 hdev =>
    split at h
    · cases h
    · split at h
      · cases h
      · rename_i hclass
        split at h
        · cases h
        · rename_i hfull
          cases h
          exact ⟨hdev, Nat.lt_of_not_le fun hle => hfull (decide_eq_true hle), accepts_of_classCheck hclass⟩
  all_goals cases h

end

/-! ## The tables over a request -/

theorem lookupHeld_eq_none_iff (s : State) (line : Addr) : s.lookupHeld line = none ↔ line ∉ s.held.map (·.line) := by
  simp [State.lookupHeld]

/-- An accepted write: its entry is at the end of the queue. -/
theorem entries_acceptWrite (w : WriteRequest) (a : Admitted) (s : State) :
    (acceptWrite w a s).queue.entries = s.queue.entries ++ [s.entryOf w a] := by
  simp [acceptWrite, appendEntry, State.entryOf]

theorem held_acceptWrite (w : WriteRequest) (a : Admitted) (s : State) :
    (acceptWrite w a s).held = s.held ∨
      a = .capture ∧ (acceptWrite w a s).held = s.held ++ [⟨lineOf w.address, w.requester, .capturing, none⟩] := by
  cases a with
  | bare context => exact .inl (by simp [acceptWrite, makeEffects])
  | capture => exact .inr ⟨rfl, by simp [acceptWrite, makeEffects, insertHeld]⟩
  | window e => exact .inl (by simp [acceptWrite, makeEffects])

section
variable {s : State} (h : s.TablesCoherent)
include h

theorem judgeRead_tablesCoherent (r : ReadRequest) : (judgeRead r s).TablesCoherent :=
  h.keepsUnit (by simp) (by simp) (by simp) (raised_judgeRead r s).ne_nil

theorem acceptWrite_tablesCoherent {w : WriteRequest} {a : Admitted} (hjudge : s.judge w = .accept a) :
    (acceptWrite w a s).TablesCoherent := by
  obtain ⟨-, hroom, haccepts⟩ := accepts_of_judge hjudge
  have hbacked (u : WorkUnit) (hu : (acceptWrite w a s).engine.work = some u) : (acceptWrite w a s).unitStands u := by
    have hstands := h.backed u (by simpa using hu)
    cases u with
    | entry step => simp [State.unitStands, entries_acceptWrite]
    | write _ | restore _ _ _ | statusFirst _ | statusSecond _ => exact (raised_acceptWrite w a s).ne_nil hstands
  have hqueue : (acceptWrite w a s).queue.entries.length ≤ 16 := by
    simpa [entries_acceptWrite] using hroom
  rcases held_acceptWrite w a s with hheld | ⟨rfl, hheld⟩
  · exact ⟨hqueue, by rw [hheld]; exact h.heldFits, by rw [hheld]; exact h.heldOnce, hbacked⟩
  · cases haccepts with
    | capture hopen hnew hfits =>
      rw [lookupHeld_eq_none_iff] at hnew
      refine ⟨hqueue, by rw [hheld]; simpa using hfits, ?_, hbacked⟩
      rw [hheld, List.map_append, List.nodup_append]
      exact ⟨h.heldOnce, by simp, fun line hline line' hline' => by
        rintro rfl
        simp only [List.map_cons, List.map_nil, List.mem_singleton] at hline'
        exact hnew (hline' ▸ hline)⟩

theorem judgeWrite_tablesCoherent (w : WriteRequest) : (judgeWrite w s).TablesCoherent := by
  cases hjudge : s.judge w with
  | retry => simp only [judgeWrite, hjudge]; exact h.keepsUnit rfl (List.Sublist.refl _) rfl id
  | fault f => simp only [judgeWrite, hjudge]; exact h.keepsUnit (by simp) (by simp) (by simp) (by simp)
  | accept a => simp only [judgeWrite, hjudge]; exact acceptWrite_tablesCoherent h hjudge

end

/-! ## The D-port's own clauses (R136, R137, R142, R143) -/

/-- The clauses of `State.Coherent` on the outstanding request, its timer and number, and the patrol wait count. -/
structure State.PortCoherent (s : State) : Prop where
  patrolWaitFits : s.dport.patrolWait ≤ 16
  timerRuns : s.dport.timer.isSome = s.dport.outstanding.isSome
  lastIssue : ∀ o, s.dport.outstanding = some o → o.issue = s.dport.issueNumber
  quiet : s.device = .start ∨ s.device = .stopped → s.dport.outstanding = none

theorem State.PortCoherent.keeps {s t : State} (h : s.PortCoherent)
    (hport : t.dport.outstanding = s.dport.outstanding ∧ t.dport.timer = s.dport.timer ∧
      t.dport.issueNumber = s.dport.issueNumber)
    (hdev : t.device = s.device) (hwait : t.dport.patrolWait ≤ 16) : t.PortCoherent := by
  obtain ⟨hout, htimer, hnumber⟩ := hport
  exact ⟨hwait, by rw [hout, htimer]; exact h.timerRuns, fun o ho => by rw [hnumber]; exact h.lastIssue o (hout ▸ ho),
    fun hd => by rw [hout]; exact h.quiet (hdev ▸ hd)⟩

/-- After the port is released the device state does not matter. -/
theorem State.PortCoherent.releases {t : State} (hout : t.dport.outstanding = none) (htimer : t.dport.timer = none)
    (hwait : t.dport.patrolWait ≤ 16) : t.PortCoherent :=
  ⟨hwait, by rw [hout, htimer]; rfl, fun o ho => by simp [hout] at ho, fun _ => hout⟩

theorem issueRequest_portCoherent (client : Client) (q : DportRequest) {s : State}
    (hdev : s.device ≠ .start ∧ s.device ≠ .stopped) (hwait : s.dport.patrolWait ≤ 16) :
    (issueRequest client q s).PortCoherent where
  patrolWaitFits := hwait
  timerRuns := rfl
  lastIssue o ho := by cases ho; rfl
  quiet h := by rcases h with h | h <;> simp [hdev] at h

/-- A grant to W or R, made while P is not due, counts to at most 16 (R142). -/
theorem patrolWait_markGrant (m : GrantMark) {s : State} (hwait : s.dport.patrolWait ≤ 16)
    (hdue : ¬ (s.pWaits = true ∧ s.dport.patrolWait = 16)) : (markGrant m s).dport.patrolWait ≤ 16 := by
  have heq : (markGrant m s).dport.patrolWait = if s.pWaits then s.dport.patrolWait + 1 else s.dport.patrolWait := rfl
  rw [heq]
  split
  · rename_i hp
    have hne : s.dport.patrolWait ≠ 16 := fun h16 => hdue ⟨hp, h16⟩
    omega
  · exact hwait

theorem grant_portCoherent {s : State} (h : s.PortCoherent) : (grant s).PortCoherent := by
  cases hport : s.dport.outstanding with
  | some o => rwa [grant_of_out hport]
  | none =>
    have hgrants := grants hport
    generalize grant s = t at hgrants
    have hrun (hdev : s.device = .run) : s.device ≠ .start ∧ s.device ≠ .stopped := by simp [hdev]
    cases hgrants with
    | stays => exact h
    | startup u q hdev hissue =>
      have hstarting : s.device ≠ .start ∧ s.device ≠ .stopped := by obtain h' | h' | h' := hdev <;> simp [h']
      rcases startupIssue_frame _ _ _ hissue with rfl | rfl
      · exact issueRequest_portCoherent _ _ hstarting h.patrolWaitFits
      · exact issueRequest_portCoherent _ _ (by simpa using hstarting) (by simpa using h.patrolWaitFits)
    | engine u q hdev hdue hissue =>
      obtain ⟨-, hudev, -, -, -, -, -, -, -, -, hpatrol, hdport, -⟩ := engineIssue_frame s u q hissue
      refine issueRequest_portCoherent _ _ (by simpa [hudev] using hrun hdev) (patrolWait_markGrant _ ?_ ?_)
      · rw [hdport]; exact h.patrolWaitFits
      · simpa only [State.pWaits, State.patrolRequest, hpatrol, hdport] using hdue
    | straight rest r hdev hdue | deferred rest key hdev hdue =>
      exact issueRequest_portCoherent _ _ (hrun hdev) (patrolWait_markGrant (s := { s with dport := _ }) _
        h.patrolWaitFits hdue)
    | unheld rest hdev hlist hdue =>
      exact h.keeps (t := markGrant _ _) ⟨rfl, rfl, rfl⟩ rfl (patrolWait_markGrant (s := { s with dport := _ }) _
        h.patrolWaitFits hdue)
    | patrol q hdev => exact issueRequest_portCoherent _ _ (hrun hdev) h.patrolWaitFits

theorem settle_portCoherent {s : State} (h : s.PortCoherent) : (settle s).PortCoherent :=
  grant_portCoherent (h.keeps (by simp) (by simp) (by simpa using h.patrolWaitFits))

end Sys2Proof.Machine

/-! PROOF. The Deferred Read Table, the Read List and the reads in flight over the events: the second half of
`State.Coherent`. -/

namespace Sys2Proof.Machine

/-- The clauses of `State.Coherent` on reads: the table, the Read List, and the reads that are outstanding (R83, R85, R89,
R140). -/
structure State.ReadsCoherent (s : State) : Prop where
  readsFit : s.reads.length ≤ 8
  readsOnce : (s.reads.map (·.key)).Nodup
  listOnce : s.dport.readList.Nodup
  straightHeld : ReadMember.straight ∈ s.dport.readList → s.uport.inProgress.isSome = true
  deferredWaits : ∀ key, ReadMember.deferred key ∈ s.dport.readList → ∃ d ∈ s.reads, d.key = key ∧ d.state = .waiting
  straightOut : ∀ o, s.dport.outstanding = some o → o.client = .straightRead →
    s.uport.inProgress.isSome = true ∧ ReadMember.straight ∉ s.dport.readList
  deferredOut : ∀ o key, s.dport.outstanding = some o → o.client = .deferredRead key →
    ∃ d ∈ s.reads, d.key = key ∧ d.state = .issued

/-- A reply to the Patrol Unit or the Start-up Controller stops the device or leaves the U-port and the Read List. -/
theorem patrolAnswered_keepsReads (r : Reply) (s : State) : patrolAnswered r s = stopDevice s ∨
    (patrolAnswered r s).uport = s.uport ∧ (patrolAnswered r s).dport.readList = s.dport.readList := by
  unfold patrolAnswered
  split
  · unfold patrolReadAnswered
    (repeat' split) <;> simp [patrolStartsToWait]
  · cases r <;> simp [patrolRenewAnswered]
  · simp

theorem startupAnswered_keepsReads (r : Reply) (s : State) : startupAnswered r s = stopDevice s ∨
    (startupAnswered r s).uport = s.uport ∧ (startupAnswered r s).dport.readList = s.dport.readList := by
  unfold startupAnswered
  split
  case h_8 => cases r <;> simp [playWriteAnswered]
  case h_9 => cases r <;> simp [markerAnswered]
  all_goals simp

section
variable {s t : State} (h : s.ReadsCoherent)
include h

/-! ## The changes that keep the clauses -/

theorem State.ReadsCoherent.keeps (hreads : t.reads = s.reads) (hlist : t.dport.readList = s.dport.readList)
    (hport : t.uport.inProgress = s.uport.inProgress) (hout : t.dport.outstanding = s.dport.outstanding) :
    t.ReadsCoherent := by
  constructor <;> simp only [hreads, hlist, hport, hout]
  exacts [h.readsFit, h.readsOnce, h.listOnce, h.straightHeld, h.deferredWaits, h.straightOut, h.deferredOut]

/-- The outstanding request goes to a client that is no read. -/
theorem State.ReadsCoherent.issues (hreads : t.reads = s.reads) (hlist : t.dport.readList = s.dport.readList)
    (hport : t.uport.inProgress = s.uport.inProgress)
    (hclient : ∀ o, t.dport.outstanding = some o → o.client ≠ .straightRead ∧ ∀ key, o.client ≠ .deferredRead key) :
    t.ReadsCoherent where
  readsFit := by rw [hreads]; exact h.readsFit
  readsOnce := by rw [hreads]; exact h.readsOnce
  listOnce := by rw [hlist]; exact h.listOnce
  straightHeld := by rw [hlist, hport]; exact h.straightHeld
  deferredWaits := by rw [hlist, hreads]; exact h.deferredWaits
  straightOut o ho hc := absurd hc (hclient o ho).1
  deferredOut o key ho hc := absurd hc ((hclient o ho).2 key)

/-- The entry of a key is the one that the table finds. -/
theorem State.ReadsCoherent.unique {d d' : DeferredRead} (hd : d ∈ s.reads) (hd' : d' ∈ s.reads) (hkey : d.key = d'.key) :
    d = d' :=
  List.inj_on_of_nodup_map h.readsOnce hd hd' hkey

/-- Entries keep their keys, and those that wait or are issued keep their state; members may leave the Read List. -/
theorem State.ReadsCoherent.maps {f : DeferredRead → DeferredRead} (hkey : ∀ d, (f d).key = d.key)
    (hwaiting : ∀ d, d.state = .waiting → (f d).state = .waiting) (hissued : ∀ d, d.state = .issued → (f d).state = .issued)
    (hreads : t.reads = s.reads.map f) (hlist : t.dport.readList.Sublist s.dport.readList)
    (hport : t.uport.inProgress = s.uport.inProgress) (hout : t.dport.outstanding = s.dport.outstanding) :
    t.ReadsCoherent where
  readsFit := by simpa [hreads] using h.readsFit
  readsOnce := by
    rw [hreads, List.map_map]
    have hkeys : (fun d : DeferredRead => d.key) ∘ f = fun d => d.key := funext hkey
    rw [hkeys]
    exact h.readsOnce
  listOnce := h.listOnce.sublist hlist
  straightHeld hm := by rw [hport]; exact h.straightHeld (hlist.subset hm)
  deferredWaits key hm := by
    obtain ⟨d, hd, rfl, hstate⟩ := h.deferredWaits key (hlist.subset hm)
    exact ⟨f d, by rw [hreads]; exact List.mem_map_of_mem hd, hkey d, hwaiting d hstate⟩
  straightOut o ho hc := by
    obtain ⟨hheld, hnot⟩ := h.straightOut o (hout ▸ ho) hc
    exact ⟨by rw [hport]; exact hheld, fun hm => hnot (hlist.subset hm)⟩
  deferredOut o key ho hc := by
    obtain ⟨d, hd, rfl, hstate⟩ := h.deferredOut o key (hout ▸ ho) hc
    exact ⟨f d, by rw [hreads]; exact List.mem_map_of_mem hd, hkey d, hissued d hstate⟩

/-- The entry of a read leaves the table; it was READY. -/
theorem State.ReadsCoherent.frees {key : ReadRequest} (hready : ∀ d ∈ s.reads, d.key = key → d.state = .ready)
    (hreads : t.reads = s.reads.filter fun d => !(d.key == key)) (hlist : t.dport.readList = s.dport.readList)
    (hport : t.uport.inProgress = s.uport.inProgress) (hout : t.dport.outstanding = s.dport.outstanding) :
    t.ReadsCoherent := by
  have hstays {d : DeferredRead} (hd : d ∈ s.reads) (hstate : d.state ≠ .ready) : d ∈ t.reads := by
    rw [hreads, List.mem_filter]
    exact ⟨hd, by simpa using fun hk => hstate (hready d hd hk)⟩
  exact {
    readsFit := by rw [hreads]; exact (List.length_filter_le _ _).trans h.readsFit
    readsOnce := by rw [hreads]; exact h.readsOnce.sublist (List.filter_sublist.map _)
    listOnce := by rw [hlist]; exact h.listOnce
    straightHeld := by rw [hlist, hport]; exact h.straightHeld
    deferredWaits := fun key' hm => by
      obtain ⟨d, hd, hk, hstate⟩ := h.deferredWaits key' (hlist ▸ hm)
      exact ⟨d, hstays hd (by simp [hstate]), hk, hstate⟩
    straightOut := by rw [hlist, hport, hout]; exact h.straightOut
    deferredOut := fun o key' ho hc => by
      obtain ⟨d, hd, hk, hstate⟩ := h.deferredOut o key' (hout ▸ ho) hc
      exact ⟨d, hstays hd (by simp [hstate]), hk, hstate⟩ }

/-- With a free D-port the entry of a read that is not in the Read List may change as it likes. -/
theorem State.ReadsCoherent.updates {key : ReadRequest} {f : DeferredRead → DeferredRead}
    (hkey : ∀ d, (f d).key = d.key) (hnot : ReadMember.deferred key ∉ s.dport.readList)
    (hreads : t.reads = s.reads.map fun d => if d.key = key then f d else d)
    (hlist : t.dport.readList = s.dport.readList) (hport : t.uport.inProgress = s.uport.inProgress)
    (hout : t.dport.outstanding = none) : t.ReadsCoherent where
  readsFit := by simpa [hreads] using h.readsFit
  readsOnce := by
    rw [hreads, List.map_map]
    have hkeys : (fun d : DeferredRead => d.key) ∘ (fun d => if d.key = key then f d else d) = fun d => d.key :=
      funext fun d => by simp only [Function.comp_apply]; split <;> simp [hkey]
    rw [hkeys]
    exact h.readsOnce
  listOnce := by rw [hlist]; exact h.listOnce
  straightHeld := by rw [hlist, hport]; exact h.straightHeld
  deferredWaits key' hm := by
    rw [hlist] at hm
    obtain ⟨d, hd, rfl, hstate⟩ := h.deferredWaits key' hm
    have hne : d.key ≠ key := fun hk => hnot (hk ▸ hm)
    exact ⟨d, by rw [hreads]; exact List.mem_map.mpr ⟨d, hd, if_neg hne⟩, rfl, hstate⟩
  straightOut o ho := by simp [hout] at ho
  deferredOut o key' ho := by simp [hout] at ho

theorem joinIssuable_readsCoherent : (joinIssuable s).ReadsCoherent := by
  rw [joinIssuable_eq]
  have hnew {key : ReadRequest} (hkey : key ∈ s.joiningReads) : ReadMember.deferred key ∉ s.dport.readList :=
    ((mem_joiningReads s key).mp hkey).1
  refine ⟨h.readsFit, h.readsOnce, ?_, fun hm => ?_, fun key hm => ?_, fun o ho hc => ?_, h.deferredOut⟩
  · refine List.nodup_append.mpr ⟨h.listOnce, ?_, ?_⟩
    · exact (h.readsOnce.sublist (joiningReads_sublist s)).map fun a b hab => by simpa using hab
    · rintro m hm m' hm' rfl
      obtain ⟨key, hkey, rfl⟩ := List.mem_map.mp hm'
      exact hnew hkey hm
  · rcases List.mem_append.mp hm with hm | hm
    · exact h.straightHeld hm
    · simp at hm
  · rcases List.mem_append.mp hm with hm | hm
    · exact h.deferredWaits key hm
    · obtain ⟨key', hkey, hk⟩ := List.mem_map.mp hm
      cases hk
      obtain ⟨-, d, hd, hdk, hissuable⟩ := (mem_joiningReads s key).mp hkey
      exact ⟨d, hd, hdk, ((issuable_iff s d).mp hissuable).1⟩
  · obtain ⟨hheld, hnot⟩ := h.straightOut o ho hc
    exact ⟨hheld, fun hm => (List.mem_append.mp hm).elim hnot (by simp)⟩

/-! ## A reply -/

theorem stopDevice_readsCoherent (hfree : s.dport.outstanding = none) : (stopDevice s).ReadsCoherent := by
  cases hport : s.uport.inProgress with
  | none =>
    rw [stopDevice_of_free hport]
    exact h.keeps (by simp) (by simp) (by simp) (by simp)
  | some q =>
    rw [stopDevice_of_held hport]
    have hsub : (s.dport.readList.filter (· != .straight)).Sublist s.dport.readList := List.filter_sublist
    exact {
      readsFit := by simpa using h.readsFit
      readsOnce := by simpa using h.readsOnce
      listOnce := h.listOnce.sublist hsub
      straightHeld := fun hm => by simp at hm
      deferredWaits := fun key hm => by simpa using h.deferredWaits key (hsub.subset hm)
      straightOut := fun o ho => by simp [hfree] at ho
      deferredOut := fun o key ho => by simp [hfree] at ho }

theorem clearWaitMarks_readsCoherent (n : BitVec 32) : (clearWaitMarks n s).ReadsCoherent := by
  refine joinIssuable_readsCoherent (h.maps (f := fun d => if d.waitMark = some n then { d with waitMark := none } else d)
    (fun d => ?_) (fun d hd => ?_) (fun d hd => ?_) rfl (List.Sublist.refl _) rfl rfl) <;> split <;> simp [*]

theorem landHead_readsCoherent (e : PostedEntry) : (landHead e s).ReadsCoherent := by
  have hcleared := clearWaitMarks_readsCoherent (s := setUnit none (dropHead s)) (h.keeps rfl rfl rfl rfl) e.number
  unfold landHead
  dsimp only
  split
  · exact hcleared.keeps (by simp) (by simp) (by simp) (by simp)
  · exact hcleared

theorem engineReplies_readsCoherent (hfree : s.dport.outstanding = none) (ht : EngineReplies s t) : t.ReadsCoherent := by
  cases ht with
  | ignored => exact h
  | stops => exact stopDevice_readsCoherent h hfree
  | lands e => exact landHead_readsCoherent h e
  | landsUnbacked e => exact (landHead_readsCoherent h e).keeps (by simp) (by simp) (by simp) (by simp)
  | restoreWrite line q phase good =>
    unfold restoreWriteAnswered
    exact joinIssuable_readsCoherent (h.keeps (by simp) (by simp) (by simp) (by simp))
  | oldRead | oldReadBad | recordData | recordHeader | jobWrite | restoreRead | statusFirst | statusSecond =>
    exact h.keeps (by simp [captureRead]) (by simp [captureRead]) (by simp [captureRead]) (by simp [captureRead])

theorem releasePort_readsCoherent : (releasePort s).ReadsCoherent :=
  h.issues rfl rfl rfl fun o ho => by cases ho

/-- The straight read is answered, and nothing of it is left in the Read List. -/
theorem straightAnswered_readsCoherent (hfree : s.dport.outstanding = none)
    (hnot : ReadMember.straight ∉ s.dport.readList) (r : Reply) : (straightAnswered r s).ReadsCoherent where
  readsFit := by simpa using h.readsFit
  readsOnce := by simpa using h.readsOnce
  listOnce := by simpa using h.listOnce
  straightHeld hm := absurd (by simpa using hm) hnot
  deferredWaits key hm := by simpa using h.deferredWaits key (by simpa using hm)
  straightOut o ho := by simp [hfree] at ho
  deferredOut o key ho := by simp [hfree] at ho

/-- An entry that is ISSUED is not in the Read List. -/
theorem State.ReadsCoherent.notListed {d : DeferredRead} (hd : d ∈ s.reads) (hstate : d.state = .issued) :
    ReadMember.deferred d.key ∉ s.dport.readList := fun hm => by
  obtain ⟨d', hd', hkey, hwaiting⟩ := h.deferredWaits d.key hm
  cases h.unique hd' hd hkey
  simp [hstate] at hwaiting

theorem deferredAnswered_readsCoherent {key : ReadRequest} (hfree : s.dport.outstanding = none)
    (hnot : ReadMember.deferred key ∉ s.dport.readList) (r : Reply) : (deferredAnswered key r s).ReadsCoherent := by
  unfold deferredAnswered
  split
  · exact h
  · split
    · exact joinIssuable_readsCoherent (h.updates (by simp) hnot rfl rfl rfl hfree)
    · exact h.updates (fun d => by cases r <;> rfl) hnot rfl rfl rfl hfree

theorem patrolAnswered_readsCoherent (hfree : s.dport.outstanding = none) (r : Reply) :
    (patrolAnswered r s).ReadsCoherent := by
  rcases patrolAnswered_keepsReads r s with hstops | ⟨huport, hlist⟩
  · rw [hstops]
    exact stopDevice_readsCoherent h hfree
  · exact h.keeps (by simp) hlist (by rw [huport]) (by simp)

theorem startupAnswered_readsCoherent (hfree : s.dport.outstanding = none) (r : Reply) :
    (startupAnswered r s).ReadsCoherent := by
  rcases startupAnswered_keepsReads r s with hstops | ⟨huport, hlist⟩
  · rw [hstops]
    exact stopDevice_readsCoherent h hfree
  · exact h.keeps (by simp) hlist (by rw [huport]) (by simp)

theorem handToClient_readsCoherent {o : Outstanding} (ho : s.dport.outstanding = some o) (r : Reply) :
    (handToClient o.client r (releasePort s)).ReadsCoherent := by
  have hreleased := releasePort_readsCoherent h
  cases hclient : o.client with
  | writeEngine => exact engineReplies_readsCoherent hreleased rfl (engineReplies r _)
  | straightRead => exact straightAnswered_readsCoherent hreleased rfl (h.straightOut o ho hclient).2 r
  | deferredRead key =>
    obtain ⟨d, hd, rfl, hstate⟩ := h.deferredOut o key ho hclient
    exact deferredAnswered_readsCoherent hreleased rfl (h.notListed hd hstate) r
  | patrol => exact patrolAnswered_readsCoherent hreleased rfl r
  | startup => exact startupAnswered_readsCoherent hreleased rfl r

/-! ## The choice and the grant -/

theorem grant_readsCoherent : (grant s).ReadsCoherent := by
  cases hout : s.dport.outstanding with
  | some o => rwa [grant_of_out hout]
  | none =>
    have hgrants := grants hout
    generalize grant s = t at hgrants
    cases hgrants with
    | stays => exact h
    | startup u q _ hissue =>
      rcases startupIssue_frame _ _ _ hissue with rfl | rfl
      · exact h.issues rfl rfl rfl fun o ho => by cases ho; simp
      · exact h.issues (by simp) (by simp [issueRequest]) (by simp) fun o ho => by cases ho; simp
    | engine u q _ _ hissue =>
      obtain ⟨-, -, -, -, huport, -, -, -, -, hreads, -, hdport, -⟩ := engineIssue_frame s u q hissue
      exact h.issues hreads (congrArg (·.readList) hdport) (congrArg (·.inProgress) huport)
        fun o ho => by cases ho; simp
    | straight rest r _ _ hlist hport =>
      have honce : (ReadMember.straight :: rest).Nodup := hlist ▸ h.listOnce
      have hheld : s.uport.inProgress.isSome = true := by rw [hport]; rfl
      exact {
        readsFit := h.readsFit
        readsOnce := h.readsOnce
        listOnce := (List.nodup_cons.mp honce).2
        straightHeld := fun _ => hheld
        deferredWaits := fun key hm => h.deferredWaits key (hlist ▸ List.mem_cons_of_mem _ hm)
        straightOut := fun _ _ _ => ⟨hheld, (List.nodup_cons.mp honce).1⟩
        deferredOut := fun o key ho hc => by cases ho; cases hc }
    | unheld rest _ hlist _ hport =>
      have hheld := h.straightHeld (hlist ▸ List.mem_cons_self)
      simp [hport] at hheld
    | deferred rest key _ _ hlist =>
      have honce : (ReadMember.deferred key :: rest).Nodup := hlist ▸ h.listOnce
      have hpopped : ({ s with dport := { s.dport with readList := rest } } : State).ReadsCoherent :=
        h.maps (f := id) (fun _ => rfl) (fun _ hd => hd) (fun _ hd => hd) (by simp)
          (hlist ▸ List.sublist_cons_self _ _) rfl rfl
      have hissued := hpopped.updates (key := key) (t := issueDeferred key (markGrant .r { s with
        dport := { s.dport with readList := rest } })) (f := fun d => { d with state := .issued, stale := false })
        (fun _ => rfl) (List.nodup_cons.mp honce).1 rfl rfl rfl hout
      obtain ⟨d, hd, hk, -⟩ := h.deferredWaits key (hlist ▸ List.mem_cons_self)
      exact {
        readsFit := hissued.readsFit
        readsOnce := hissued.readsOnce
        listOnce := hissued.listOnce
        straightHeld := hissued.straightHeld
        deferredWaits := hissued.deferredWaits
        straightOut := fun o ho hc => by cases ho; cases hc
        deferredOut := fun o key' ho hc => by
          cases ho
          cases hc
          exact ⟨_, List.mem_map.mpr ⟨d, hd, if_pos hk⟩, hk, rfl⟩ }
    | patrol q => exact h.issues rfl rfl rfl fun o ho => by cases ho; simp

theorem settle_readsCoherent : (settle s).ReadsCoherent :=
  grant_readsCoherent (s := chooseUnit s) (h.keeps (by simp) (by simp) (by simp) (by simp))

/-! ## A request and a timer -/

theorem readsSentBack_readsCoherent {hit : DeferredRead → Bool} {f : DeferredRead → DeferredRead}
    (hkey : ∀ d, (f d).key = d.key) (hwaiting : ∀ d, d.state = .waiting → (f d).state = .waiting)
    (hissued : ∀ d, d.state = .issued → (f d).state = .issued) : (readsSentBack hit f s).ReadsCoherent := by
  refine h.maps (f := fun d => if hit d then f d else d) (fun d => ?_) (fun d hd => ?_) (fun d hd => ?_)
    (reads_readsSentBack hit f s) ?_ ?_ ?_
  · split <;> simp [hkey]
  · split <;> simp [hwaiting, hd]
  · split <;> simp [hissued, hd]
  · rw [readsSentBack, countTimes_eq]
    exact List.filter_sublist
  · rw [readsSentBack, countTimes_eq]
  · rw [readsSentBack, countTimes_eq]

theorem overtakeReads_readsCoherent (line : Addr) (n : BitVec 32) : (overtakeReads line n s).ReadsCoherent := by
  rw [overtakeReads_eq]
  refine readsSentBack_readsCoherent h (fun d => ?_) (fun d hd => ?_) (fun d hd => ?_) <;>
    unfold DeferredRead.overtaken
  · split <;> rfl
  · simp only [hd]
  · simp only [hd]

theorem takeBackReads_readsCoherent (k : Requester) : (takeBackReads k s).ReadsCoherent := by
  rw [takeBackReads_eq]
  refine readsSentBack_readsCoherent h (fun d => ?_) (fun d hd => ?_) (fun d hd => ?_) <;>
    unfold DeferredRead.takenBack
  · split <;> rfl
  · simp only [hd]
  · simp only [hd]

theorem commandTaken_readsCoherent (k : Requester) (opcode : BitVec 4) (a : Word) :
    (commandTaken k opcode a s).ReadsCoherent := by
  unfold commandTaken
  (repeat' split)
  · exact h.keeps (by simp) (by simp) (by simp) (by simp)
  · exact h.keeps rfl rfl rfl rfl
  · exact takeBackReads_readsCoherent (s := updContext k _ s) (h.keeps rfl rfl rfl rfl) k
  · exact h.keeps rfl rfl rfl rfl
  · exact h

theorem windowTaken_readsCoherent (e : WindowEffect) : (windowTaken e s).ReadsCoherent := by
  cases e with
  | close k =>
    unfold windowTaken takeCommand
    dsimp only
    split
    · exact (commandTaken_readsCoherent h k _ _).keeps rfl rfl rfl rfl
    · exact h.keeps rfl rfl rfl rfl
  | setting c v | acknowledge v | stageBase j v | install j r | word0 k v | word1 k v | sequenceError k =>
    exact h.keeps (by simp [windowTaken]) (by simp [windowTaken]) (by simp [windowTaken]) (by simp [windowTaken])

theorem acceptWrite_readsCoherent (w : WriteRequest) (a : Admitted) : (acceptWrite w a s).ReadsCoherent := by
  have heffects : (makeEffects w a s).ReadsCoherent := by
    cases a with
    | bare context => exact h
    | capture => exact h.keeps (by simp [makeEffects]) (by simp [makeEffects]) (by simp) (by simp)
    | window e => exact windowTaken_readsCoherent h e
  have hovertaken := overtakeReads_readsCoherent (s := appendEntry (s.entryOf w a) (makeEffects w a s))
    (heffects.keeps rfl rfl rfl rfl) (s.entryOf w a).line (s.entryOf w a).number
  exact hovertaken.keeps (by simp [acceptWrite]) (by simp [acceptWrite]) (by simp [acceptWrite, giveAnswer])
    (by simp [acceptWrite])

theorem judgeWrite_readsCoherent (w : WriteRequest) : (judgeWrite w s).ReadsCoherent := by
  unfold judgeWrite
  split
  · exact h.keeps rfl rfl rfl rfl
  · exact h.keeps (by simp) (by simp) (by simp [giveAnswer]) (by simp)
  · exact acceptWrite_readsCoherent h w _

theorem freeRead_readsCoherent {key : ReadRequest} {d : DeferredRead} (hfound : s.findRead key = some d)
    (hready : d.state = .ready) : (freeRead key s).ReadsCoherent := by
  refine h.frees (key := key) (fun d' hd' hk => ?_) rfl rfl rfl rfl
  have hkey : d.key = key := by simpa using List.find?_some hfound
  rw [h.unique hd' (List.mem_of_find?_eq_some hfound) (hk.trans hkey.symm)]
  exact hready

theorem answerRepeat_readsCoherent {r : ReadRequest} {d : DeferredRead} (hfound : s.findRead r = some d) :
    (answerRepeat d r s).ReadsCoherent := by
  unfold answerRepeat
  split
  · exact h.keeps rfl rfl rfl rfl
  · exact h.keeps rfl rfl rfl rfl
  · rename_i hready
    have hfreed := freeRead_readsCoherent h hfound hready
    split
    · exact hfreed.keeps rfl rfl rfl rfl
    · exact hfreed.keeps (by simp) (by simp) (by simp [answerRead, giveAnswer]) (by simp)

theorem deferRead_readsCoherent {r : ReadRequest} (hnew : s.findRead r = none) : (deferRead r s).ReadsCoherent := by
  by_cases hfull : 8 ≤ s.reads.length
  · rw [deferRead_of_full r hfull]
    exact h.keeps rfl rfl rfl rfl
  · rw [deferRead_of_room r (Nat.lt_of_not_le hfull)]
    have hfresh : r ∉ s.reads.map (·.key) := by
      simpa [State.findRead] using hnew
    exact {
      readsFit := by simpa using Nat.lt_of_not_le hfull
      readsOnce := by
        rw [giveAnswer, List.map_append, List.nodup_append]
        exact ⟨h.readsOnce, by simp, fun a ha b hb => by
          rintro rfl
          simp only [List.map_cons, List.map_nil, List.mem_singleton] at hb
          exact hfresh (hb ▸ ha)⟩
      listOnce := h.listOnce
      straightHeld := h.straightHeld
      deferredWaits := fun key hm => by
        obtain ⟨d, hd, hk⟩ := h.deferredWaits key hm
        exact ⟨d, List.mem_append_left _ hd, hk⟩
      straightOut := h.straightOut
      deferredOut := fun o key ho hc => by
        obtain ⟨d, hd, hk⟩ := h.deferredOut o key ho hc
        exact ⟨d, List.mem_append_left _ hd, hk⟩ }

theorem startStraight_readsCoherent (hport : s.uport.inProgress = none) (r : ReadRequest) :
    (startStraight r s).ReadsCoherent where
  readsFit := h.readsFit
  readsOnce := h.readsOnce
  listOnce := by
    refine List.nodup_append.mpr ⟨h.listOnce, by simp, fun m hm m' hm' => ?_⟩
    rintro rfl
    cases List.mem_singleton.mp hm'
    have hheld := h.straightHeld hm
    simp [hport] at hheld
  straightHeld _ := rfl
  deferredWaits key hm := by
    rcases List.mem_append.mp hm with hm | hm
    · exact h.deferredWaits key hm
    · simp at hm
  straightOut o ho hc := by
    have hheld := (h.straightOut o ho hc).1
    simp [hport] at hheld
  deferredOut := h.deferredOut

theorem judgeRead_readsCoherent (hport : s.uport.inProgress = none) (r : ReadRequest) : (judgeRead r s).ReadsCoherent := by
  unfold judgeRead
  split
  case h_6 =>
    split
    · exact h.keeps rfl rfl rfl rfl
    · cases hfound : s.findRead r with
      | some d =>
        rw [classifyRead_of_entry hfound]
        exact answerRepeat_readsCoherent h hfound
      | none =>
        rw [classifyRead_of_new hfound]
        by_cases hclass : s.lineQueued (lineOf r.address) = true ∨ s.abortingHold (lineOf r.address) = true
        · rw [if_pos hclass]
          exact deferRead_readsCoherent h hfound
        · rw [if_neg hclass]
          exact startStraight_readsCoherent h hport r
  all_goals exact h.keeps rfl rfl rfl rfl

theorem discardExpires_readsCoherent (key : ReadRequest) : (discardExpires key s).ReadsCoherent := by
  unfold discardExpires
  split
  · exact h
  · rename_i d hfound
    split
    · rename_i hexpires
      exact (freeRead_readsCoherent h hfound hexpires.2.1).keeps rfl rfl rfl rfl
    · exact h

end

end Sys2Proof.Machine

/-! PROOF. Every event keeps `State.Coherent` (the first half of O56) and leaves the part settled: O58. -/

namespace Sys2Proof.Machine

/-! ## The clauses together -/

theorem unitBacked_iff (s : State) : (match s.engine.work with
    | none => True
    | some (.entry _) => s.queue.entries ≠ []
    | some (.write _) => s.jobs ≠ []
    | some (.restore ..) => s.jobs ≠ []
    | some (.statusFirst _) => s.jobs ≠ []
    | some (.statusSecond _) => s.jobs ≠ []) ↔ ∀ w, s.engine.work = some w → s.unitStands w := by
  cases hwork : s.engine.work with
  | none => simp
  | some w => cases w <;> simp [State.unitStands]

theorem coherent_iff (s : State) : s.Coherent ↔ s.TablesCoherent ∧ s.ReadsCoherent ∧ s.PortCoherent := by
  constructor
  · intro h
    exact ⟨⟨h.queueFits, h.heldFits, h.heldOnce, (unitBacked_iff s).mp h.unitBacked⟩,
      ⟨h.readsFit, h.readsOnce, h.listOnce, h.straightHeld, h.deferredWaits, h.straightOut, h.deferredOut⟩,
      ⟨h.patrolWaitFits, h.timerRuns, h.lastIssue, h.quiet⟩⟩
  · rintro ⟨ht, hr, hp⟩
    exact {
      queueFits := ht.queueFits
      heldFits := ht.heldFits
      heldOnce := ht.heldOnce
      readsFit := hr.readsFit
      readsOnce := hr.readsOnce
      patrolWaitFits := hp.patrolWaitFits
      timerRuns := hp.timerRuns
      lastIssue := hp.lastIssue
      quiet := hp.quiet
      listOnce := hr.listOnce
      straightHeld := hr.straightHeld
      deferredWaits := hr.deferredWaits
      straightOut := hr.straightOut
      deferredOut := hr.deferredOut
      unitBacked := (unitBacked_iff s).mpr ht.backed }

section
variable {s : State} (h : s.Coherent)
include h

theorem State.Coherent.tables : s.TablesCoherent := ((coherent_iff s).mp h).1
theorem State.Coherent.reads : s.ReadsCoherent := ((coherent_iff s).mp h).2.1
theorem State.Coherent.port : s.PortCoherent := ((coherent_iff s).mp h).2.2

/-! ## Every event keeps the clauses -/

theorem settle_coherent : (settle s).Coherent :=
  (coherent_iff _).mpr ⟨settle_tablesCoherent h.tables, settle_readsCoherent h.reads, settle_portCoherent h.port⟩

theorem enterLoad_coherent : (enterLoad s).Coherent :=
  (coherent_iff _).mpr ⟨h.tables.keepsUnit rfl (List.Sublist.refl _) rfl id, h.reads.keeps rfl rfl rfl rfl,
    ⟨h.patrolWaitFits, h.timerRuns, h.lastIssue, fun hdev => by simp at hdev⟩⟩

theorem judgeWrite_coherent (w : WriteRequest) : (judgeWrite w s).Coherent := by
  have hport : (judgeWrite w s).PortCoherent :=
    h.port.keeps (by simp) (by simp) (by simpa using h.patrolWaitFits)
  exact (coherent_iff _).mpr ⟨judgeWrite_tablesCoherent h.tables w, judgeWrite_readsCoherent h.reads w, hport⟩

theorem judgeRead_coherent (hfree : s.uport.inProgress = none) (r : ReadRequest) : (judgeRead r s).Coherent := by
  have hport : (judgeRead r s).PortCoherent :=
    h.port.keeps (by simp) (by simp) (by simpa using h.patrolWaitFits)
  exact (coherent_iff _).mpr ⟨judgeRead_tablesCoherent h.tables r, judgeRead_readsCoherent h.reads hfree r, hport⟩

theorem takeRequest_coherent (hfree : s.uport.inProgress = none) (q : UportRequest) : (takeRequest q s).Coherent := by
  cases q with
  | write w => exact settle_coherent (judgeWrite_coherent h w)
  | read r => exact settle_coherent (judgeRead_coherent h hfree r)

theorem discardExpires_coherent (key : ReadRequest) : (discardExpires key s).Coherent :=
  (coherent_iff _).mpr ⟨h.tables.keepsUnit (by simp) (by simp) (by simp) (by simp),
    discardExpires_readsCoherent h.reads key, h.port.keeps (by simp) (by simp) (by simpa using h.patrolWaitFits)⟩

end

/-- A reply to the Patrol Unit leaves its wait count or sets it to 0 (R142, R149). -/
theorem patrolWait_patrolAnswered (r : Reply) (s : State) :
    (patrolAnswered r s).dport.patrolWait ≤ s.dport.patrolWait := by
  unfold patrolAnswered
  split
  · unfold patrolReadAnswered
    (repeat' split) <;> simp [patrolStartsToWait]
  · simp
  · simp

theorem patrolWait_handToClient (client : Client) (r : Reply) (s : State) :
    (handToClient client r s).dport.patrolWait ≤ s.dport.patrolWait := by
  cases client with
  | patrol => exact patrolWait_patrolAnswered r s
  | writeEngine | straightRead | deferredRead key | startup => simp [handToClient]

theorem handToClient_coherent {s : State} (h : s.Coherent) {o : Outstanding} (ho : s.dport.outstanding = some o)
    (r : Reply) : (handToClient o.client r (releasePort s)).Coherent := by
  have hreleased : (releasePort s).TablesCoherent := h.tables.keepsUnit rfl (List.Sublist.refl _) rfl id
  refine (coherent_iff _).mpr ⟨handToClient_tablesCoherent hreleased o.client r, handToClient_readsCoherent h.reads ho r,
    .releases ?_ ?_ ?_⟩
  · rw [(handToClient_port _ _ _).1]; rfl
  · rw [(handToClient_port _ _ _).2.1]; rfl
  · exact (patrolWait_handToClient _ _ _).trans h.patrolWaitFits

theorem patrolExpires_coherent {s : State} (h : s.Coherent) : (patrolExpires s).Coherent := by
  have hdport : (patrolExpires s).dport.patrolWait ≤ 16 ∧ (patrolExpires s).dport.readList = s.dport.readList := by
    unfold patrolExpires
    (repeat' split) <;> simp [patrolStartsToWait, h.patrolWaitFits]
  exact (coherent_iff _).mpr ⟨h.tables.keepsUnit (by simp) (by simp) (by simp) (by simp),
    h.reads.keeps (by simp) hdport.2 (by simp) (by simp), h.port.keeps (by simp) (by simp) hdport.1⟩

theorem afterReset_coherent (cwb : BitVec 16) (s : State) : (afterReset cwb s).Coherent := { reset_coherent with }

theorem waiting_coherent {s : State} (h : s.Coherent) (l : List UportRequest) :
    ({ s with uport := { s.uport with waiting := l } } : State).Coherent := { h with }

theorem coherent_events : EventsLead State.Coherent State.Coherent where
  start _ h := h
  resets cwb s _ := afterReset_coherent cwb s
  resetLoads cwb s _ := settle_coherent (enterLoad_coherent (afterReset_coherent cwb s))
  loads _ h _ := settle_coherent (enterLoad_coherent h)
  replies _ r _ h ho _ := settle_coherent (handToClient_coherent h ho r)
  discards key _ h := discardExpires_coherent h key
  patrols _ h := settle_coherent (patrolExpires_coherent h)
  requests q _ h hfree := takeRequest_coherent h hfree q
  waits l _ h := waiting_coherent h l

/-! ## Settled: nothing to choose and nothing to grant -/

theorem settled_iff (s : State) : s.Settled ↔ chooseUnit s = s ∧ grant s = s := by
  constructor
  · intro h
    have hdport : (grant (chooseUnit s)).dport = (chooseUnit s).dport := by
      rw [show grant (chooseUnit s) = s from h]
      simp
    have hchoose : chooseUnit s = s := (grant_eq_self_of_dport hdport).symm.trans h
    refine ⟨hchoose, ?_⟩
    have hsettle : grant (chooseUnit s) = s := h
    rwa [hchoose] at hsettle
  · rintro ⟨hchoose, hgrant⟩
    show grant (chooseUnit s) = s
    rw [hchoose, hgrant]

theorem chooseUnit_eq_self_iff (s : State) :
    chooseUnit s = s ↔ (s.device = .run → s.engine.work = none → s.jobs = [] ∧ s.entryWaits = false) := by
  constructor
  · intro h hdev hwork
    have hchooses := chooses s
    generalize chooseUnit s = t at h hchooses
    cases hchooses with
    | stays hidle => exact hidle hdev hwork
    | entry e rest =>
      have hbegun := congrArg (·.engine.work) h
      simp [beginUnit, hwork] at hbegun
    | job j rest =>
      have hbegun := congrArg (·.engine.work) h
      simp [beginUnit, hwork] at hbegun
  · intro h
    by_cases hfree : s.device = .run ∧ s.engine.work = none
    · obtain ⟨hjobs, hwaits⟩ := h hfree.1 hfree.2
      exact chooseUnit_of_idle hwaits hjobs
    · exact chooseUnit_of_notFree hfree

theorem engineIssue_ne_none {s : State} {w : WorkUnit} (hwork : s.engine.work = some w) (hstands : s.unitStands w) :
    engineIssue s ≠ none := by
  cases w with
  | entry step =>
    obtain ⟨e, rest, hqueue⟩ := List.exists_cons_of_ne_nil hstands
    simp [engineIssue, hwork, hqueue]
  | write step | statusFirst _ | statusSecond _ =>
    obtain ⟨j, rest, hjobs⟩ := List.exists_cons_of_ne_nil hstands
    simp [engineIssue, hwork, hjobs]
  | restore line q phase =>
    obtain ⟨j, rest, hjobs⟩ := List.exists_cons_of_ne_nil hstands
    cases phase <;> simp [engineIssue, hwork, hjobs]

theorem pWaits_iff (s : State) : s.pWaits = true ↔ s.patrolRequest ≠ none := by
  simp [State.pWaits, Option.isSome_iff_ne_none]

/-- Nothing waits for the D-port. -/
structure State.NoneWait (s : State) : Prop where
  startup : s.device.starting → startupIssue s = none
  work : s.device = .run → s.engine.work = none
  readList : s.device = .run → s.dport.readList = []
  patrol : s.device = .run → s.patrolRequest = none

/-- A free D-port is left free exactly when nothing waits for it. -/
theorem grant_eq_self_iff {s : State} (h : s.TablesCoherent) (hfree : s.dport.outstanding = none) :
    grant s = s ↔ s.NoneWait := by
  constructor
  · intro hgrant
    have hdport : (grant s).dport = s.dport := by rw [hgrant]
    refine ⟨fun hdev => ?_, fun hdev => ?_, fun hdev => ?_, fun hdev => ?_⟩
    · rwa [grant_of_startup hfree hdev, grantS_dport_eq_iff hfree] at hdport
    all_goals
      rw [grant_of_run hfree hdev] at hdport
      have hnotDue : ¬ (s.pWaits = true ∧ s.dport.patrolWait = 16) := fun hdue => by
        rw [grantRun_of_due hdue.1 hdue.2, grantP_dport_eq_iff hfree] at hdport
        exact (pWaits_iff s).mp hdue.1 hdport
      rw [grantRun_of_notDue hnotDue] at hdport
      have hnoW : ¬ (s.wWaits = true ∧ (s.rWaits = false ∨ s.dport.lastGrant = .r)) := fun hw => by
        rw [if_pos hw, grantW_dport_eq_iff hfree] at hdport
        obtain ⟨w, hwork⟩ := Option.isSome_iff_exists.mp hw.1
        exact engineIssue_ne_none hwork (h.backed w hwork) hdport
      rw [if_neg hnoW] at hdport
      have hnoR : ¬ s.rWaits = true := fun hr => by
        rw [if_pos hr, grantR_dport_eq_iff hfree] at hdport
        exact (rWaits_iff s).mp hr hdport
      rw [if_neg hnoR, grantP_dport_eq_iff hfree] at hdport
    · have hnone : ¬ s.wWaits = true := fun hw => hnoW ⟨hw, .inl (Bool.eq_false_iff.mpr hnoR)⟩
      simpa [State.wWaits] using hnone
    · exact not_not.mp fun hlist => hnoR ((rWaits_iff s).mpr hlist)
    · exact hdport
  · intro hwait
    rcases s.device.cases_starting with hdev | hdev | hdev | hdev
    · exact grant_of_quiet (.inl hdev)
    · rw [grant_of_startup hfree hdev, grantS, hwait.startup hdev]
    · have hr : s.rWaits = false := Bool.eq_false_iff.mpr fun hr => (rWaits_iff s).mp hr (hwait.readList hdev)
      rw [grant_of_run hfree hdev, grantRun_of_alone (by simp [State.wWaits, hwait.work hdev]) hr,
        grantP_of_none (hwait.patrol hdev)]
    · exact grant_of_quiet (.inr hdev)

/-! ## The choice and the grant leave nothing -/

theorem chooseUnit_idem (s : State) : chooseUnit (chooseUnit s) = chooseUnit s := by
  have hchooses := chooses s
  generalize hu : chooseUnit s = t at hchooses
  cases hchooses with
  | stays => exact hu
  | entry e rest | job j rest => exact chooseUnit_of_notFree fun hfree => by simp [beginUnit] at hfree

theorem grant_idem {s : State} (h : s.ReadsCoherent) : grant (grant s) = grant s := by
  cases hout : s.dport.outstanding with
  | some o => rw [grant_of_out hout, grant_of_out hout]
  | none =>
    have hgrants := grants hout
    generalize hu : grant s = t at hgrants
    cases hgrants with
    | stays => exact hu
    | unheld rest _ hlist _ hport =>
      have hheld := h.straightHeld (hlist ▸ List.mem_cons_self)
      simp [hport] at hheld
    | startup | engine | straight | deferred | patrol => exact grant_of_out rfl

/-- A grant leaves a Write Engine without a unit as it is. -/
theorem grant_choice {s : State} (h : chooseUnit s = s) : chooseUnit (grant s) = grant s := by
  cases hout : s.dport.outstanding with
  | some o => rwa [grant_of_out hout]
  | none =>
    have hidle := (chooseUnit_eq_self_iff s).mp h
    have hgrants := grants hout
    generalize grant s = t at hgrants
    cases hgrants with
    | stays => exact h
    | startup u q hdev hissue =>
      refine chooseUnit_of_notRun ?_
      have hnotRun : s.device ≠ .run := by obtain h' | h' | h' := hdev <;> simp [h']
      rcases startupIssue_frame _ _ _ hissue with rfl | rfl <;> simpa using hnotRun
    | engine u q _ _ hissue =>
      refine chooseUnit_of_notFree fun hfree => ?_
      have hwork : u.engine.work = none := hfree.2
      have hissues := engineIssues hissue
      cases hissues with
      | plain w hsome | recordData _ _ _ hsome | openRecord _ _ hsome | endMarker _ _ _ _ hsome | result _ _ hsome
      | restore _ _ _ _ hsome | statusRecord _ _ hsome => simp_all [setUnit]
    | straight | unheld | deferred | patrol => exact (chooseUnit_eq_self_iff _).mpr hidle

theorem settle_settled {s : State} (h : s.Coherent) : (settle s).Settled := by
  have hchosen : (chooseUnit s).ReadsCoherent := h.reads.keeps (by simp) (by simp) (by simp) (by simp)
  exact (settled_iff _).mpr ⟨grant_choice (chooseUnit_idem s), grant_idem hchosen⟩

theorem startupIssue_eq_none_of_startup {s t : State} (hstartup : t.startup = s.startup) (h : startupIssue s = none) :
    startupIssue t = none := by
  unfold startupIssue at *
  rw [hstartup]
  cases hstep : s.startup.step with
  | marker i =>
    simp only [hstep] at h ⊢
    cases hu : s.startup.unfinished[i]? with
    | none => rfl
    | some u => simp [hu] at h
  | idle => rfl
  | readConfiguration | readRegions _ | readDescriptor | readSlot | playHeader | playData _ | playWrite _ _ _ _ =>
    simp [hstep] at h

/-- What the choice and the grant do not read may change: the requests on the bus, the answers, the Deferred Read Table
and the status. -/
theorem settled_congr {s t : State} (h : s.Coherent) (hs : s.Settled) (ht : t.TablesCoherent)
    (hdev : t.device = s.device) (hengine : t.engine = s.engine) (hjobs : t.jobs = s.jobs) (hqueue : t.queue = s.queue)
    (hcontexts : t.contexts = s.contexts) (hdport : t.dport = s.dport) (hpatrol : t.patrol = s.patrol)
    (hstartup : t.startup = s.startup) : t.Settled := by
  obtain ⟨hchoose, hgrant⟩ := (settled_iff s).mp hs
  refine (settled_iff t).mpr ⟨(chooseUnit_eq_self_iff t).mpr ?_, ?_⟩
  · simpa only [State.entryWaits, State.beginnable, hdev, hengine, hjobs, hqueue, hcontexts] using
      (chooseUnit_eq_self_iff s).mp hchoose
  · cases hout : s.dport.outstanding with
    | some o => exact grant_of_out (by rw [hdport]; exact hout)
    | none =>
      have hwait := (grant_eq_self_iff h.tables hout).mp hgrant
      refine (grant_eq_self_iff ht (by rw [hdport]; exact hout)).mpr ⟨?_, ?_, ?_, ?_⟩
      · rw [hdev]
        exact fun hd => startupIssue_eq_none_of_startup hstartup (hwait.startup hd)
      · rw [hdev, hengine]
        exact hwait.work
      · rw [hdev, hdport]
        exact hwait.readList
      · simpa only [State.patrolRequest, hdev, hpatrol] using hwait.patrol

/-- The clauses of O58 together: the hypotheses on a state before and after an event. -/
structure State.CoherentSettled (s : State) : Prop where
  coherent : s.Coherent
  settled : s.Settled

theorem settle_coherentSettled {s : State} (h : s.Coherent) : (settle s).CoherentSettled :=
  ⟨settle_coherent h, settle_settled h⟩

theorem coherentSettled_events : EventsLead State.CoherentSettled State.CoherentSettled where
  start _ h := h
  resets cwb s _ := ⟨afterReset_coherent cwb s, settle_of_quiet (.inl rfl)⟩
  resetLoads cwb s _ := settle_coherentSettled (enterLoad_coherent (afterReset_coherent cwb s))
  loads _ h _ := settle_coherentSettled (enterLoad_coherent h.coherent)
  replies _ r _ h ho _ := settle_coherentSettled (handToClient_coherent h.coherent ho r)
  discards key s h := by
    have hcoherent := discardExpires_coherent h.coherent key
    exact ⟨hcoherent, settled_congr h.coherent h.settled hcoherent.tables (by simp) (by simp) (by simp) (by simp) (by simp)
      (by simp) (by simp) (by simp)⟩
  patrols _ h := settle_coherentSettled (patrolExpires_coherent h.coherent)
  requests q s h hfree := by
    cases q with
    | write w => exact settle_coherentSettled (judgeWrite_coherent h.coherent w)
    | read r => exact settle_coherentSettled (judgeRead_coherent h.coherent hfree r)
  waits l s h := by
    have hcoherent := waiting_coherent h.coherent l
    exact ⟨hcoherent, settled_congr h.coherent h.settled hcoherent.tables rfl rfl rfl rfl rfl rfl rfl rfl⟩

theorem pending_coherent {s : State} (h : s.Coherent) (rest : List Instr) :
    ({ s with pending := rest } : State).Coherent := { h with }

/-- Settles O58: every event ends with the choice and the grant, or changes nothing that they read. -/
theorem everyStepLeavesThePartSettled : Obligations.EveryStepLeavesThePartSettled := by
  intro s t hcoherent _ hsettled hstep
  refine (step_leads coherentSettled_events (fun u rest h => ?_) ⟨hcoherent, hsettled⟩ hstep).settled
  have hpending := pending_coherent h.coherent rest
  exact ⟨hpending, settled_congr h.coherent h.settled hpending.tables rfl rfl rfl rfl rfl rfl rfl rfl⟩

end Sys2Proof.Machine

/-! PROOF. The Job List and the commands in flight over the events: the second half of O56. -/

namespace Sys2Proof.Machine

/-! ## What a slot's command owes -/

/-- A step of a format (R19). -/
def JobStep.isFormat (n : JobStep) : Prop := n = .descriptorInvalidate ∨ (∃ i, n = .formatSlot i) ∨ n = .descriptorWrite

/-- The two states' slots agree on phase and decision. -/
def SameSlots (s t : State) : Prop :=
  ∀ k : Fin 4, t.slots[k].phase = s.slots[k].phase ∧ t.slots[k].decision = s.slots[k].decision

theorem SameSlots.of_eq {s t : State} (h : t.slots = s.slots) : SameSlots s t := fun k => by rw [h]; exact ⟨rfl, rfl⟩

theorem SameSlots.trans {s t u : State} (h : SameSlots s t) (h' : SameSlots t u) : SameSlots s u :=
  fun k => ⟨(h' k).1.trans (h k).1, (h' k).2.trans (h k).2⟩

/-- A change of a slot that leaves its phase and its decision. -/
theorem SameSlots.updSlot (k : Requester) {f : CommandSlot → CommandSlot} (hphase : ∀ c, (f c).phase = c.phase)
    (hdecision : ∀ c, (f c).decision = c.decision) (s : State) : SameSlots s (updSlot k f s) := fun l => by
  by_cases hl : k = l
  · subst hl
    simp [Machine.updSlot, hphase, hdecision]
  · have hne : (k : Nat) ≠ l := fun hv => hl (Fin.ext hv)
    simp [Machine.updSlot, Vector.getElem_set_ne, hne]

/-- The two states' Job Lists hold the same jobs of slots. -/
def SameSlotJobs (s t : State) : Prop := ∀ j : Job, j.owner ≠ .statusUnit → (j ∈ t.jobs ↔ j ∈ s.jobs)

theorem Raised.jobs_eq {s t : State} (h : Raised s t) :
    t.jobs = s.jobs ∨ (t.jobs = s.jobs ++ [statusJob] ∧ s.hasStatusJob = false) := by
  rcases h with ⟨hjobs, -⟩ | ⟨hjobs, -⟩
  · exact .inl hjobs
  · unfold jobsWhenDirty at hjobs
    split at hjobs
    · exact .inl hjobs
    · rename_i hclear
      simp only [Bool.or_eq_true, not_or, Bool.not_eq_true] at hclear
      exact .inr ⟨hjobs, hclear.2⟩

theorem Raised.sameSlotJobs {s t : State} (h : Raised s t) : SameSlotJobs s t := fun j hj => by
  rcases h.jobs_eq with hjobs | ⟨hjobs, -⟩ <;> rw [hjobs]
  simp only [List.mem_append, List.mem_singleton, or_iff_left_iff_imp]
  rintro rfl
  exact absurd rfl hj

theorem Raised.slotJobs {s t : State} (h : Raised s t) (k : Requester) :
    (t.jobs.filter fun j => j.owner == .slot k) = s.jobs.filter fun j => j.owner == .slot k := by
  rcases h.jobs_eq with hjobs | ⟨hjobs, -⟩ <;> rw [hjobs]
  rw [List.filter_append]
  exact List.append_nil _

theorem owes_mono {s t : State} {k : Requester} {opcode : BitVec 4} {step : JobStep → Prop}
    (hqueue : t.closeQueued k → s.closeQueued k) (hdecision : t.slots[k].decision = s.slots[k].decision)
    (hjobs : ∀ j ∈ t.jobs, j.owner = .slot k → step j.next → s.owes k opcode step) (h : t.owes k opcode step) :
    s.owes k opcode step := by
  rcases h with ⟨hclose, tag, htaken⟩ | ⟨j, hj, howner, hnext⟩
  · exact .inl ⟨hqueue hclose, tag, hdecision ▸ htaken⟩
  · exact hjobs j hj howner hnext

theorem owes_congr {s t : State} (hqueue : t.queue.entries = s.queue.entries) (hslots : SameSlots s t)
    (hjobs : SameSlotJobs s t) (k : Requester) (opcode : BitVec 4) (step : JobStep → Prop) :
    t.owes k opcode step ↔ s.owes k opcode step := by
  have hsame (j : Job) (howner : j.owner = .slot k) := hjobs j (by simp [howner])
  unfold State.owes State.closeQueued State.takenInSlot
  rw [hqueue, (hslots k).2]
  refine or_congr Iff.rfl ⟨?_, ?_⟩ <;> rintro ⟨j, hj, howner, hnext⟩
  · exact ⟨j, (hsame j howner).mp hj, howner, hnext⟩
  · exact ⟨j, (hsame j howner).mpr hj, howner, hnext⟩

/-! ## The Job List without the unit in progress and the spare place -/

/-- The clauses of `State.JobsCoherent` on the jobs, the slots and the flag. -/
structure State.JobsListed (s : State) : Prop where
  fits : ∀ j ∈ s.jobs, j.fits
  inFlight : ∀ k : Fin 4, (s.queue.entries.filter fun e => e.commandClose && e.requester == k).length +
    (s.jobs.filter fun j => j.owner == .slot k).length = if s.slots[k].phase = .executing then 1 else 0
  decided : ∀ k : Fin 4, s.slots[k].phase = .executing → s.slots[k].decision.isSome = true
  oneStatus : (s.jobs.filter fun j => j.owner == .statusUnit).length ≤ 1
  dirty : s.status.dirty = true → s.hasStatusJob = true
  formats : ∀ k : Fin 4, s.owesFormat k → s.journal.state = .formatting
  formatsOnce : ∀ k l : Fin 4, s.owesFormat k → s.owesFormat l → k = l

theorem length_eq_owners (l : List Job) : l.length = (l.filter fun j => j.owner == .slot 0).length +
    (l.filter fun j => j.owner == .slot 1).length + (l.filter fun j => j.owner == .slot 2).length +
    (l.filter fun j => j.owner == .slot 3).length + (l.filter fun j => j.owner == .statusUnit).length := by
  induction l with
  | nil => rfl
  | cons j l ih =>
    have howner : j.owner = .slot 0 ∨ j.owner = .slot 1 ∨ j.owner = .slot 2 ∨ j.owner = .slot 3 ∨ j.owner = .statusUnit := by
      cases j.owner with
      | statusUnit => simp
      | slot k => match k with
        | 0 | 1 | 2 | 3 => simp
    rcases howner with h | h | h | h | h <;> simp [h] <;> omega

/-- The job that holds the spare place is a slot's, with format work left. -/
theorem isFormat_of_holdsSpare {j : Job} (hfits : j.fits) (hspare : j.holdsSpare = true) :
    ∃ k, j.owner = .slot k ∧ j.next.isFormat := by
  simp only [Job.holdsSpare, Bool.and_eq_true, beq_iff_eq, bne_iff_ne] at hspare
  obtain ⟨hkind, hnext⟩ := hspare
  obtain ⟨howner, hsteps⟩ := hfits
  rw [hkind] at howner hsteps
  cases hj : j.owner with
  | statusUnit => simp [hj] at howner
  | slot k =>
    refine ⟨k, rfl, ?_⟩
    rcases hsteps with hs | hs | hs | hs
    · exact .inl hs
    · exact .inr (.inl hs)
    · exact .inr (.inr hs)
    · exact absurd hs hnext

section
variable {s : State} (h : s.JobsListed)
include h

/-- Slot `k` has at most one job, and none while its close entry is queued (R75, R101). -/
theorem State.JobsListed.one (k : Requester) :
    (s.queue.entries.filter fun e => e.commandClose && e.requester == k).length +
      (s.jobs.filter fun j => j.owner == .slot k).length ≤ 1 := by
  rw [h.inFlight k]
  split <;> simp

theorem State.JobsListed.spare : (s.jobs.filter Job.holdsSpare).length ≤ 1 := by
  cases hspare : s.jobs.filter Job.holdsSpare with
  | nil => simp
  | cons j rest =>
    have howes {j : Job} (hj : j ∈ s.jobs.filter Job.holdsSpare) : ∃ k, j.owner = .slot k ∧ s.owesFormat k := by
      obtain ⟨hmem, hholds⟩ := List.mem_filter.mp hj
      obtain ⟨k, howner, hnext⟩ := isFormat_of_holdsSpare (h.fits j hmem) hholds
      exact ⟨k, howner, .inr ⟨j, hmem, howner, hnext⟩⟩
    obtain ⟨k, -, hk⟩ := howes (hspare ▸ List.mem_cons_self)
    rw [← hspare]
    have hsub : (s.jobs.filter Job.holdsSpare).Sublist (s.jobs.filter fun j => j.owner == .slot k) := by
      have hfilter : s.jobs.filter Job.holdsSpare = (s.jobs.filter Job.holdsSpare).filter fun j => j.owner == .slot k := by
        refine (List.filter_eq_self.mpr fun j hj => ?_).symm
        obtain ⟨l, howner, hl⟩ := howes hj
        rw [howner, h.formatsOnce l k hl hk]
        simp
      rw [hfilter]
      exact List.filter_sublist.filter _
    have hone := h.one k
    have hle := hsub.length_le
    omega

/-- R75: six places cover one job of each slot, the status job and the spare. -/
theorem State.JobsListed.places : s.jobPlaces ≤ 6 := by
  have hlength := length_eq_owners s.jobs
  have hone := fun k => (Nat.le_add_left _ _).trans (h.one k)
  have h0 := hone 0
  have h1 := hone 1
  have h2 := hone 2
  have h3 := hone 3
  have hstatus := h.oneStatus
  have hspare := h.spare
  unfold State.jobPlaces
  omega

end

theorem jobsCoherent_iff (s : State) : s.JobsCoherent ↔ s.JobsListed ∧ s.unitFits := by
  constructor
  · exact fun h => ⟨⟨h.fits, h.inFlight, h.decided, h.oneStatus, h.dirty, h.formats, h.formatsOnce⟩, h.unit⟩
  · rintro ⟨h, hunit⟩
    exact { h with unit := hunit, places := h.places }

end Sys2Proof.Machine

/-! PROOF. The operations that keep the clauses on the Job List: raises, the head job's steps, landings, commands taken. -/

namespace Sys2Proof.Machine

theorem hasStatusJob_iff (s : State) : s.hasStatusJob = true ↔ ∃ j ∈ s.jobs, j.owner = .statusUnit := by
  simp [State.hasStatusJob]

theorem statusJob_fits : statusJob.fits := ⟨by simp [statusJob], rfl⟩

/-- A slot job's filter over a list that gains or loses a job of another owner. -/
theorem slotFilter_cons_of_ne {j : Job} {k : Requester} (h : j.owner ≠ .slot k) (l : List Job) :
    ((j :: l).filter fun j => j.owner == .slot k) = l.filter fun j => j.owner == .slot k := by
  simp [h]

section
variable {s t : State} (h : s.JobsListed)
include h

/-- Nothing but raises: the queue, the slots and the journal's state are as they were. -/
theorem State.JobsListed.raised (hraised : Raised s t) (hqueue : t.queue.entries = s.queue.entries)
    (hslots : SameSlots s t) (hstate : s.journal.state = .formatting → t.journal.state = .formatting) :
    t.JobsListed := by
  have howes (k : Requester) : t.owesFormat k ↔ s.owesFormat k := owes_congr hqueue hslots hraised.sameSlotJobs k _ _
  refine ⟨fun j hj => ?_, fun k => ?_, fun k hk => ?_, ?_, fun hdirty => ?_, fun k hk => ?_, fun k l hk hl => ?_⟩
  · rcases hraised.jobs_eq with hjobs | ⟨hjobs, -⟩ <;> rw [hjobs] at hj
    · exact h.fits j hj
    · rcases List.mem_append.mp hj with hj | hj
      · exact h.fits j hj
      · rw [List.mem_singleton.mp hj]
        exact statusJob_fits
  · rw [hqueue, hraised.slotJobs k, (hslots k).1]
    exact h.inFlight k
  · rw [(hslots k).2]
    exact h.decided k ((hslots k).1 ▸ hk)
  · rcases hraised.jobs_eq with hjobs | ⟨hjobs, hnone⟩ <;> rw [hjobs]
    · exact h.oneStatus
    · have hempty : (s.jobs.filter fun j => j.owner == .statusUnit) = [] := by
        simpa [State.hasStatusJob] using hnone
      simp [List.filter_append, hempty, statusJob]
  · rcases hraised with ⟨hjobs, hsame⟩ | ⟨hjobs, -⟩ <;> rw [hasStatusJob_iff, hjobs]
    · exact (hasStatusJob_iff s).mp (h.dirty (hsame ▸ hdirty))
    · unfold jobsWhenDirty
      split
      · rename_i hset
        rcases (Bool.or_eq_true _ _).mp hset with hd | hs
        · exact (hasStatusJob_iff s).mp (h.dirty hd)
        · exact (hasStatusJob_iff s).mp hs
      · exact ⟨statusJob, by simp, rfl⟩
  · exact hstate (h.formats k ((howes k).mp hk))
  · exact h.formatsOnce k l ((howes k).mp hk) ((howes l).mp hl)

/-- Without format work the journal's state may change. -/
theorem State.JobsListed.changesState (hno : ∀ k, ¬ s.owesFormat k) (hjobs : t.jobs = s.jobs)
    (hstatus : t.status.dirty = s.status.dirty) (hqueue : t.queue.entries = s.queue.entries) (hslots : SameSlots s t) :
    t.JobsListed := by
  have howes (k : Requester) : ¬ t.owesFormat k := fun hk => hno k <|
    (owes_congr hqueue hslots (fun j _ => by rw [hjobs]) k _ _).mp hk
  refine ⟨by rw [hjobs]; exact h.fits, fun k => ?_, fun k hk => ?_, by rw [hjobs]; exact h.oneStatus, fun hdirty => ?_,
    fun k hk => absurd hk (howes k), fun k l hk => absurd hk (howes k)⟩
  · rw [hqueue, hjobs, (hslots k).1]
    exact h.inFlight k
  · rw [(hslots k).2]
    exact h.decided k ((hslots k).1 ▸ hk)
  · unfold State.hasStatusJob
    rw [hjobs]
    exact h.dirty (hstatus ▸ hdirty)

/-- The flag may be cleared (R174). -/
theorem State.JobsListed.clears (hjobs : t.jobs = s.jobs) (hdirty : t.status.dirty = false)
    (hqueue : t.queue.entries = s.queue.entries) (hslots : SameSlots s t)
    (hstate : t.journal.state = s.journal.state) : t.JobsListed := by
  have hother := h.raised (t := { t with status := s.status }) (.of_eq hjobs rfl) hqueue hslots
    (fun hf => hstate.trans hf)
  exact { hother with dirty := fun hd => by simp [hdirty] at hd }

/-- The head job goes to another step of its kind (R77). -/
theorem State.JobsListed.stepsHead {j j' : Job} {rest : List Job} (hjobs : s.jobs = j :: rest)
    (hjobs' : t.jobs = j' :: rest) (howner : j'.owner = j.owner) (hfits : j'.fits)
    (hformat : j'.next.isFormat → j.next.isFormat) (hqueue : t.queue.entries = s.queue.entries) (hslots : SameSlots s t)
    (hstatus : t.status.dirty = s.status.dirty) (hstate : t.journal.state = s.journal.state) : t.JobsListed := by
  have howes (k : Requester) (hk : t.owesFormat k) : s.owesFormat k := by
    refine owes_mono (fun hc => by simpa [State.closeQueued, hqueue] using hc) (hslots k).2 (fun i hi hio hin => ?_) hk
    rw [hjobs'] at hi
    rcases List.mem_cons.mp hi with rfl | hi
    · exact .inr ⟨j, by simp [hjobs], howner ▸ hio, hformat hin⟩
    · exact .inr ⟨i, by simp [hjobs, hi], hio, hin⟩
  have hfilter (o : JobOwner) : (t.jobs.filter fun i => i.owner == o).length = (s.jobs.filter fun i => i.owner == o).length := by
    rw [hjobs, hjobs', List.filter_cons, List.filter_cons, howner]
    split <;> simp
  refine ⟨fun i hi => ?_, fun k => ?_, fun k hk => ?_, by rw [hfilter]; exact h.oneStatus, fun hdirty => ?_, fun k hk => ?_,
    fun k l hk hl => h.formatsOnce k l (howes k hk) (howes l hl)⟩
  · rw [hjobs'] at hi
    rcases List.mem_cons.mp hi with rfl | hi
    · exact hfits
    · exact h.fits i (by simp [hjobs, hi])
  · rw [hqueue, hfilter, (hslots k).1]
    exact h.inFlight k
  · rw [(hslots k).2]
    exact h.decided k ((hslots k).1 ▸ hk)
  · have hstands := h.dirty (hstatus ▸ hdirty)
    simpa [State.hasStatusJob, hjobs, hjobs', howner] using hstands
  · rw [hstate]
    exact h.formats k (howes k hk)

/-- The head job's slot has no close entry in the queue and no other job. -/
theorem State.JobsListed.headOnly {j : Job} {rest : List Job} {k : Requester} (hjobs : s.jobs = j :: rest)
    (howner : j.owner = .slot k) : ¬ s.closeQueued k ∧ (∀ i ∈ rest, i.owner ≠ .slot k) ∧ s.slots[k].phase = .executing := by
  have hflight := h.inFlight k
  rw [hjobs, List.filter_cons_of_pos (by simp [howner]), List.length_cons] at hflight
  have hphase : s.slots[k].phase = .executing := by
    by_contra hidle
    rw [if_neg hidle] at hflight
    omega
  rw [if_pos hphase] at hflight
  refine ⟨?_, fun i hi hio => ?_, hphase⟩
  · rintro ⟨e, he, hclose, hrequester⟩
    have hmem : e ∈ s.queue.entries.filter fun e => e.commandClose && e.requester == k := by
      simp [he, hclose, hrequester]
    have hpos := List.length_pos_of_mem hmem
    omega
  · have hmem : i ∈ rest.filter fun j => j.owner == .slot k := by simp [hi, hio]
    have hpos := List.length_pos_of_mem hmem
    omega

/-- The status job at the head ends; the flag tells whether a new one is due (R174). -/
theorem State.JobsListed.dropsStatus {j : Job} {rest : List Job} (hjobs : s.jobs = j :: rest) (howner : j.owner = .statusUnit)
    (hjobs' : t.jobs = if t.status.dirty then rest ++ [statusJob] else rest)
    (hqueue : t.queue.entries = s.queue.entries) (hslots : SameSlots s t)
    (hstate : t.journal.state = s.journal.state) : t.JobsListed := by
  have hnone : (rest.filter fun i => i.owner == .statusUnit) = [] := by
    have hone := h.oneStatus
    rw [hjobs, List.filter_cons_of_pos (by simp [howner]), List.length_cons] at hone
    exact List.length_eq_zero_iff.mp (by omega)
  have hmem (i : Job) (hi : i.owner ≠ .statusUnit) : i ∈ t.jobs ↔ i ∈ s.jobs := by
    have hne : i ≠ j := fun hij => hi (hij ▸ howner)
    have hne' : i ≠ statusJob := fun hij => hi (hij ▸ rfl)
    rw [hjobs', hjobs]
    split <;> simp [hne, hne']
  have howes (k : Requester) : t.owesFormat k ↔ s.owesFormat k := owes_congr hqueue hslots hmem k _ _
  refine ⟨fun i hi => ?_, fun k => ?_, fun k hk => ?_, ?_, fun hdirty => ?_, fun k hk => ?_,
    fun k l hk hl => h.formatsOnce k l ((howes k).mp hk) ((howes l).mp hl)⟩
  · by_cases hi' : i.owner = .statusUnit
    · rw [hjobs'] at hi
      have hin : i ∈ rest ∨ i = statusJob := by
        split at hi
        · simpa using hi
        · exact .inl hi
      rcases hin with hin | rfl
      · exact h.fits i (by simp [hjobs, hin])
      · exact statusJob_fits
    · exact h.fits i ((hmem i hi').mp hi)
  · have hfilter : (t.jobs.filter fun i => i.owner == .slot k) = s.jobs.filter fun i => i.owner == .slot k := by
      rw [hjobs', hjobs, slotFilter_cons_of_ne (by simp [howner])]
      split <;> simp [statusJob]
    rw [hqueue, hfilter, (hslots k).1]
    exact h.inFlight k
  · rw [(hslots k).2]
    exact h.decided k ((hslots k).1 ▸ hk)
  · rw [hjobs']
    split <;> simp [List.filter_append, hnone, statusJob]
  · rw [hasStatusJob_iff, hjobs', if_pos hdirty]
    exact ⟨statusJob, by simp, rfl⟩
  · rw [hstate]
    exact h.formats k ((howes k).mp hk)

/-- The head job ends with its result, and its slot is IDLE (R117). -/
theorem State.JobsListed.endsHead {j : Job} {rest : List Job} {k : Requester} (hjobs : s.jobs = j :: rest)
    (howner : j.owner = .slot k) (hjobs' : t.jobs = rest) (hqueue : t.queue.entries = s.queue.entries)
    (hidle : t.slots[k].phase ≠ .executing) (hslots : ∀ l : Fin 4, l ≠ k →
      t.slots[l].phase = s.slots[l].phase ∧ t.slots[l].decision = s.slots[l].decision)
    (hstatus : t.status.dirty = s.status.dirty) (hstate : t.journal.state = s.journal.state) : t.JobsListed := by
  obtain ⟨hnotQueued, hnoOther, -⟩ := h.headOnly hjobs howner
  have hmem {i : Job} (hi : i ∈ t.jobs) : i ∈ s.jobs := by rw [hjobs, ← hjobs']; exact List.mem_cons_of_mem _ hi
  have howes (l : Requester) (hl : t.owesFormat l) : l ≠ k ∧ s.owesFormat l := by
    have hne : l ≠ k := by
      rintro rfl
      rcases hl with ⟨hc, -⟩ | ⟨i, hi, hio, -⟩
      · exact hnotQueued (by simpa [State.closeQueued, hqueue] using hc)
      · exact hnoOther i (hjobs' ▸ hi) hio
    exact ⟨hne, owes_mono (fun hc => by simpa [State.closeQueued, hqueue] using hc) (hslots l hne).2
      (fun i hi hio hin => .inr ⟨i, hmem hi, hio, hin⟩) hl⟩
  refine ⟨fun i hi => h.fits i (hmem hi), fun l => ?_, fun l hl => ?_, ?_, fun hdirty => ?_, fun l hl => ?_,
    fun l l' hl hl' => h.formatsOnce l l' (howes l hl).2 (howes l' hl').2⟩
  · by_cases hlk : l = k
    · subst hlk
      rw [if_neg hidle, hqueue, hjobs']
      have hno : (rest.filter fun i => i.owner == .slot l) = [] := by simpa using hnoOther
      have hnoClose : (s.queue.entries.filter fun e => e.commandClose && e.requester == l) = [] := by
        simpa [State.closeQueued] using hnotQueued
      rw [hno, hnoClose]
      rfl
    · have hflight := h.inFlight l
      have hne : j.owner ≠ .slot l := by simpa [howner] using fun hkl => hlk hkl.symm
      rw [hjobs, slotFilter_cons_of_ne hne] at hflight
      rw [hqueue, hjobs', (hslots l hlk).1]
      exact hflight
  · have hlk : l ≠ k := fun hlk => hidle (hlk ▸ hl)
    rw [(hslots l hlk).2]
    exact h.decided l ((hslots l hlk).1 ▸ hl)
  · rw [hjobs']
    have hone := h.oneStatus
    rw [hjobs] at hone
    exact ((List.sublist_cons_self j rest).filter _).length_le.trans hone
  · have hstands := h.dirty (hstatus ▸ hdirty)
    simpa [State.hasStatusJob, hjobs, hjobs', howner] using hstands
  · rw [hstate]
    exact h.formats l (howes l hl).2

end

end Sys2Proof.Machine

/-! PROOF. The clauses on the Job List where the queue changes: landings, and writes that are accepted. -/

namespace Sys2Proof.Machine

/-! ## The job of a decision (R73, Table 4-3) -/

theorem takenJob_owner (k : Requester) (opcode : BitVec 4) : (takenJob k opcode).owner = .slot k := by
  simp only [takenJob]
  (repeat' split) <;> rfl

theorem takenJob_fits (k : Requester) (opcode : BitVec 4) : (takenJob k opcode).fits := by
  simp only [takenJob]
  (repeat' split) <;> simp [Job.fits]

/-- The first step of a taken command's job, by its opcode. -/
theorem takenJob_next (k : Requester) (opcode : BitVec 4) : (takenJob k opcode).next =
    if opcode = 1 then .openRecord else if opcode = 2 then .commitMarker else if opcode = 3 then .restore
    else if opcode = 5 then .statusRecord else if opcode = 7 then .descriptorInvalidate else .result := by
  simp only [takenJob]
  by_cases h6 : opcode = 6
  · subst h6
    rfl
  · rw [if_neg h6]
    (repeat' split) <;> rfl

theorem job_owner (k : Requester) (d : Decision) : (d.job k).owner = .slot k := by
  unfold Decision.job
  split
  · exact takenJob_owner k _
  · rfl

theorem job_fits (k : Requester) (d : Decision) : (d.job k).fits := by
  unfold Decision.job
  split
  · exact takenJob_fits k _
  · simp [Job.fits]

theorem job_next_of_refused {d : Decision} (h : d.verdict ≠ .taken) (k : Requester) : (d.job k).next = .result := by
  unfold Decision.job
  split
  · rename_i htaken
    exact absurd htaken h
  · rfl

theorem job_of_taken {d : Decision} (h : d.verdict = .taken) (k : Requester) : d.job k = takenJob k d.word.opcode := by
  unfold Decision.job
  rw [h]

/-- Only a taken REINIT leaves format work. -/
theorem taken_of_job_isFormat {d : Decision} {k : Requester} (h : (d.job k).next.isFormat) :
    ∃ tag, d = ⟨⟨7, tag⟩, .taken⟩ := by
  by_cases hverdict : d.verdict = .taken
  · rw [job_of_taken hverdict, takenJob_next] at h
    have hopcode : d.word.opcode = 7 := by
      by_contra hne
      rw [if_neg hne] at h
      unfold JobStep.isFormat at h
      (repeat' split at h) <;> simp at h
    obtain ⟨⟨opcode, tag⟩, verdict⟩ := d
    cases hopcode
    cases hverdict
    exact ⟨tag, rfl⟩
  · rw [job_next_of_refused hverdict] at h
    simp [JobStep.isFormat] at h

section
variable {s t : State} (h : s.JobsListed)
include h

/-! ## Landings -/

/-- An entry that is no command close lands. -/
theorem State.JobsListed.lands {e : PostedEntry} {rest : List PostedEntry} (hentries : s.queue.entries = e :: rest)
    (hclose : e.commandClose = false) (hqueue : t.queue.entries = rest) (hjobs : t.jobs = s.jobs)
    (hslots : SameSlots s t) (hstatus : t.status.dirty = s.status.dirty)
    (hstate : t.journal.state = s.journal.state) : t.JobsListed := by
  have hclosed (k : Requester) : t.closeQueued k ↔ s.closeQueued k := by
    unfold State.closeQueued
    rw [hqueue, hentries]
    simp [hclose]
  have howes (k : Requester) (hk : t.owesFormat k) : s.owesFormat k :=
    owes_mono (hclosed k).mp (hslots k).2 (fun i hi hio hin => .inr ⟨i, hjobs ▸ hi, hio, hin⟩) hk
  refine ⟨by rw [hjobs]; exact h.fits, fun k => ?_, fun k hk => ?_, by rw [hjobs]; exact h.oneStatus, fun hdirty => ?_,
    fun k hk => by rw [hstate]; exact h.formats k (howes k hk),
    fun k l hk hl => h.formatsOnce k l (howes k hk) (howes l hl)⟩
  · have hflight := h.inFlight k
    rw [hentries, List.filter_cons_of_neg (by simp [hclose])] at hflight
    rw [hqueue, hjobs, (hslots k).1]
    exact hflight
  · rw [(hslots k).2]
    exact h.decided k ((hslots k).1 ▸ hk)
  · unfold State.hasStatusJob
    rw [hjobs]
    exact h.dirty (hstatus ▸ hdirty)

/-- A command close entry at the head: its slot is EXECUTING with a decision, and has no other work. -/
theorem State.JobsListed.headClose {e : PostedEntry} {rest : List PostedEntry} (hentries : s.queue.entries = e :: rest)
    (hclose : e.commandClose = true) : s.slots[e.requester].phase = .executing ∧
      (∃ d, s.slots[e.requester].decision = some d) ∧
      (∀ x ∈ rest, x.commandClose = true → x.requester ≠ e.requester) ∧
      ∀ j ∈ s.jobs, j.owner ≠ .slot e.requester := by
  have hflight := h.inFlight e.requester
  rw [hentries, List.filter_cons_of_pos (by simp [hclose]), List.length_cons] at hflight
  have hphase : s.slots[e.requester].phase = .executing := by
    by_contra hidle
    rw [if_neg hidle] at hflight
    omega
  rw [if_pos hphase] at hflight
  refine ⟨hphase, Option.isSome_iff_exists.mp (h.decided _ hphase), fun x hx hxc hxr => ?_, fun j hj hjo => ?_⟩
  · have hmem : x ∈ rest.filter fun x => x.commandClose && x.requester == e.requester := by simp [hx, hxc, hxr]
    have hpos := List.length_pos_of_mem hmem
    omega
  · have hmem : j ∈ s.jobs.filter fun j => j.owner == .slot e.requester := by simp [hj, hjo]
    have hpos := List.length_pos_of_mem hmem
    omega

/-- A command close entry lands: the decision's job is placed (R73). -/
theorem State.JobsListed.landsClose {e : PostedEntry} {rest : List PostedEntry} {d : Decision}
    (hentries : s.queue.entries = e :: rest) (hclose : e.commandClose = true)
    (hdecision : s.slots[e.requester].decision = some d) (hqueue : t.queue.entries = rest)
    (hjobs : t.jobs = s.jobs ++ [d.job e.requester]) (hslots : SameSlots s t)
    (hstatus : t.status.dirty = s.status.dirty) (hstate : t.journal.state = s.journal.state) : t.JobsListed := by
  have howner := job_owner e.requester d
  have hclosed (k : Requester) (hk : t.closeQueued k) : s.closeQueued k := by
    obtain ⟨x, hx, hxk⟩ := hk
    exact ⟨x, by rw [hentries, ← hqueue]; exact List.mem_cons_of_mem _ hx, hxk⟩
  have howes (k : Requester) (hk : t.owesFormat k) : s.owesFormat k := by
    refine owes_mono (hclosed k) (hslots k).2 (fun i hi hio hin => ?_) hk
    rw [hjobs] at hi
    rcases List.mem_append.mp hi with hi | hi
    · exact .inr ⟨i, hi, hio, hin⟩
    · rw [List.mem_singleton.mp hi] at hio hin
      cases howner.symm.trans hio
      obtain ⟨tag, rfl⟩ := taken_of_job_isFormat hin
      exact .inl ⟨⟨e, by simp [hentries], hclose, rfl⟩, tag, hdecision⟩
  refine ⟨fun i hi => ?_, fun k => ?_, fun k hk => ?_, ?_, fun hdirty => ?_,
    fun k hk => by rw [hstate]; exact h.formats k (howes k hk),
    fun k l hk hl => h.formatsOnce k l (howes k hk) (howes l hl)⟩
  · rw [hjobs] at hi
    rcases List.mem_append.mp hi with hi | hi
    · exact h.fits i hi
    · rw [List.mem_singleton.mp hi]
      exact job_fits _ d
  · have hflight := h.inFlight k
    rw [hentries, List.filter_cons] at hflight
    rw [hqueue, hjobs, (hslots k).1, List.filter_append, List.length_append]
    by_cases hk : e.requester = k
    · have hplaced : ([d.job e.requester].filter fun j => j.owner == .slot k).length = 1 := by
        simp [howner, ← hk]
      rw [if_pos (by simp [hclose, hk]), List.length_cons] at hflight
      omega
    · have hother : ([d.job e.requester].filter fun j => j.owner == .slot k).length = 0 := by simp [howner, hk]
      rw [if_neg (by simp [hk])] at hflight
      omega
  · rw [(hslots k).2]
    exact h.decided k ((hslots k).1 ▸ hk)
  · rw [hjobs, List.filter_append]
    simpa [howner] using h.oneStatus
  · obtain ⟨i, hi, hio⟩ := (hasStatusJob_iff s).mp (h.dirty (hstatus ▸ hdirty))
    exact (hasStatusJob_iff t).mpr ⟨i, by rw [hjobs]; exact List.mem_append_left _ hi, hio⟩

/-! ## Accepted writes -/

/-- An accepted write that is no command close. -/
theorem State.JobsListed.appends {e : PostedEntry} (hclose : e.commandClose = false)
    (hqueue : t.queue.entries = s.queue.entries ++ [e]) (hraised : Raised s t) (hslots : SameSlots s t)
    (hstate : s.journal.state = .formatting → t.journal.state = .formatting) : t.JobsListed := by
  have hother := h.raised (t := { t with queue := { t.queue with entries := s.queue.entries } }) hraised rfl hslots hstate
  have hclosed (k : Requester) : t.closeQueued k ↔ s.closeQueued k := by
    unfold State.closeQueued
    rw [hqueue]
    simp [hclose, or_and_right, exists_or]
  have howes (k : Requester) (hk : t.owesFormat k) :
      ({ t with queue := { t.queue with entries := s.queue.entries } } : State).owesFormat k :=
    hk.imp_left fun hc => ⟨(hclosed k).mp hc.1, hc.2⟩
  exact { hother with
    inFlight := fun k => by simpa [hqueue, List.filter_append, hclose] using hother.inFlight k
    formats := fun k hk => hother.formats k (howes k hk)
    formatsOnce := fun k l hk hl => hother.formatsOnce k l (howes k hk) (howes l hl) }

/-- A slot that is not EXECUTING owes nothing. -/
theorem State.JobsListed.idleOwesNothing {k : Requester} (hidle : s.slots[k].phase ≠ .executing) :
    ¬ s.closeQueued k ∧ ∀ j ∈ s.jobs, j.owner ≠ .slot k := by
  have hflight := h.inFlight k
  rw [if_neg hidle] at hflight
  refine ⟨?_, fun j hj hjo => ?_⟩
  · rintro ⟨e, he, hclose, hrequester⟩
    have hmem : e ∈ s.queue.entries.filter fun e => e.commandClose && e.requester == k := by
      simp [he, hclose, hrequester]
    have hpos := List.length_pos_of_mem hmem
    omega
  · have hmem : j ∈ s.jobs.filter fun j => j.owner == .slot k := by simp [hj, hjo]
    have hpos := List.length_pos_of_mem hmem
    omega

/-- An accepted command close: its slot becomes EXECUTING with the decision (R104, R105). -/
theorem State.JobsListed.closes {e : PostedEntry} {d : Decision} (hclose : e.commandClose = true)
    (hidle : s.slots[e.requester].phase ≠ .executing) (hqueue : t.queue.entries = s.queue.entries ++ [e])
    (hraised : Raised s t) (hslot : t.slots[e.requester].phase = .executing ∧ t.slots[e.requester].decision = some d)
    (hslots : ∀ l : Fin 4, l ≠ e.requester →
      t.slots[l].phase = s.slots[l].phase ∧ t.slots[l].decision = s.slots[l].decision)
    (hstate : s.journal.state = .formatting → t.journal.state = .formatting)
    (hreinit : ∀ tag, d = ⟨⟨7, tag⟩, .taken⟩ → s.journal.state ≠ .formatting ∧ t.journal.state = .formatting) :
    t.JobsListed := by
  obtain ⟨hnotQueued, hnoJob⟩ := h.idleOwesNothing hidle
  have hclosed (k : Requester) (hk : k ≠ e.requester) : t.closeQueued k ↔ s.closeQueued k := by
    unfold State.closeQueued
    rw [hqueue]
    simp [hk.symm, or_and_right, exists_or]
  have hjobs := hraised.sameSlotJobs
  have hown (ht : t.owesFormat e.requester) : ∃ tag, d = ⟨⟨7, tag⟩, .taken⟩ := by
    rcases ht with ⟨-, tag, htaken⟩ | ⟨i, hi, hio, -⟩
    · exact ⟨tag, Option.some.inj (hslot.2.symm.trans htaken)⟩
    · exact absurd hio (hnoJob i ((hjobs i (by simp [hio])).mp hi))
  have hothers (k : Requester) (hk : k ≠ e.requester) (ht : t.owesFormat k) : s.owesFormat k :=
    owes_mono (hclosed k hk).mp (hslots k hk).2
      (fun i hi hio hin => .inr ⟨i, (hjobs i (by simp [hio])).mp hi, hio, hin⟩) ht
  have hstatusKept := h.raised (t := { t with queue := s.queue, slots := s.slots }) hraised rfl (.of_eq rfl) hstate
  refine ⟨hstatusKept.fits, fun k => ?_, fun k hk => ?_, hstatusKept.oneStatus, hstatusKept.dirty, fun k hk => ?_,
    fun k l hk hl => ?_⟩
  · rw [hqueue, List.filter_append, List.length_append, hraised.slotJobs k]
    have hflight := h.inFlight k
    by_cases hk : k = e.requester
    · subst hk
      rw [if_neg hidle] at hflight
      rw [if_pos hslot.1]
      have hnew : ([e].filter fun x => x.commandClose && x.requester == e.requester).length = 1 := by simp [hclose]
      omega
    · rw [(hslots k hk).1, ← hflight]
      simp [Ne.symm hk]
  · by_cases hk' : k = e.requester
    · subst hk'
      rw [hslot.2]
      rfl
    · rw [(hslots k hk').2]
      exact h.decided k ((hslots k hk').1 ▸ hk)
  · by_cases hk' : k = e.requester
    · obtain ⟨tag, hd⟩ := hown (hk' ▸ hk)
      exact (hreinit tag hd).2
    · exact hstate (h.formats k (hothers k hk' hk))
  · by_cases hk' : k = e.requester <;> by_cases hl' : l = e.requester
    · rw [hk', hl']
    · obtain ⟨tag, hd⟩ := hown (hk' ▸ hk)
      exact absurd (h.formats l (hothers l hl' hl)) (hreinit tag hd).1
    · obtain ⟨tag, hd⟩ := hown (hl' ▸ hl)
      exact absurd (h.formats k (hothers k hk' hk)) (hreinit tag hd).1
    · exact h.formatsOnce k l (hothers k hk' hk) (hothers l hl' hl)

end

end Sys2Proof.Machine

/-! PROOF. Every event keeps the Job List's clauses and the unit's agreement with it: O56. -/

namespace Sys2Proof.Machine

/-! ## What a closing word leaves in its slot (R104, R105) -/

theorem closeSlot_own (k : Requester) (d : Decision) (s : State) :
    (closeSlot k d s).slots[k].phase = .executing ∧ (closeSlot k d s).slots[k].decision = some d := by
  simp [closeSlot, updSlot]

theorem closeSlot_other {k l : Fin 4} (hl : l ≠ k) (d : Decision) (s : State) :
    (closeSlot k d s).slots[l].phase = s.slots[l].phase ∧ (closeSlot k d s).slots[l].decision = s.slots[l].decision := by
  have hne : (k : Nat) ≠ l := fun hv => hl (Fin.ext hv.symm)
  simp [closeSlot, updSlot, Vector.getElem_set_ne, hne]

/-- The decision on the command that a closing word takes (R104). -/
def State.decisionOf (s : State) (k : Requester) : Decision :=
  ⟨s.slots[k].stagedWord, s.verdict k s.slots[k].stagedWord.opcode (s.slots[k].argA.getD 0)⟩

theorem takeCommand_eq (k : Requester) (s : State) : takeCommand k s = closeSlot k (s.decisionOf k)
    (if (s.decisionOf k).verdict = .taken then
      commandTaken k (s.decisionOf k).word.opcode (s.slots[k].argA.getD 0) s else s) := rfl

theorem takeCommand_own (k : Requester) (s : State) : (takeCommand k s).slots[k].phase = .executing ∧
    (takeCommand k s).slots[k].decision = some (s.decisionOf k) := closeSlot_own k _ _

theorem takeCommand_other {k l : Fin 4} (hl : l ≠ k) (s : State) :
    (takeCommand k s).slots[l].phase = s.slots[l].phase ∧ (takeCommand k s).slots[l].decision = s.slots[l].decision := by
  rw [takeCommand_eq]
  refine (closeSlot_other hl _ _).imp (·.trans ?_) (·.trans ?_) <;> split <;> simp

theorem slots_acceptWrite (w : WriteRequest) (a : Admitted) (s : State) :
    (acceptWrite w a s).slots = (makeEffects w a s).slots := by
  simp [acceptWrite]

theorem journal_acceptWrite (w : WriteRequest) (a : Admitted) (s : State) :
    (acceptWrite w a s).journal = (makeEffects w a s).journal := by
  simp [acceptWrite]

/-- A window word that closes no command leaves the phases and the decisions. -/
theorem sameSlots_windowTaken {e : WindowEffect} (h : e.commandClose = false) (s : State) :
    SameSlots s (windowTaken e s) := by
  cases e with
  | close k | sequenceError k => cases h
  | word0 k v =>
    have hstaged := SameSlots.updSlot k (f := fun c => { c with
      staging := .word0, word := some (commandWord v), argA := none }) (fun _ => rfl) (fun _ => rfl) s
    exact hstaged.trans (.of_eq (by simp [windowTaken, stageWord0]))
  | word1 k v =>
    exact .updSlot k (f := fun c => { c with staging := .word1, argA := some v }) (fun _ => rfl) (fun _ => rfl) s
  | setting c v | acknowledge v | stageBase j v | install j r => exact .of_eq (by simp [windowTaken])

theorem sameSlots_acceptWrite {w : WriteRequest} {a : Admitted} {s : State} (h : (s.entryOf w a).commandClose = false) :
    SameSlots s (acceptWrite w a s) := by
  have heffects : SameSlots s (makeEffects w a s) := by
    cases a with
    | bare context => exact .of_eq rfl
    | capture => exact .of_eq (by simp [makeEffects])
    | window e => exact sameSlots_windowTaken h s
  exact heffects.trans (.of_eq (slots_acceptWrite w a s))

/-- A command close is the word that takes the slot's command or makes a sequence error. -/
theorem commandClose_cases {w : WriteRequest} {a : Admitted} {s : State} (h : (s.entryOf w a).commandClose = true) :
    ∃ k, a = .window (.close k) ∨ a = .window (.sequenceError k) := by
  cases a with
  | bare context => cases h
  | capture => cases h
  | window e =>
    cases e with
    | close k => exact ⟨k, .inl rfl⟩
    | sequenceError k => exact ⟨k, .inr rfl⟩
    | setting c v | acknowledge v | stageBase j v | install j r | word0 k v | word1 k v => cases h

theorem formatting_commandTaken (k : Requester) (opcode : BitVec 4) (a : Word) {s : State}
    (h : s.journal.state = .formatting) : (commandTaken k opcode a s).journal.state = .formatting := by
  rcases state_commandTaken k opcode a s with hstate | hstate
  · exact hstate.trans h
  · exact hstate

theorem formatting_acceptWrite (w : WriteRequest) (a : Admitted) {s : State} (h : s.journal.state = .formatting) :
    (acceptWrite w a s).journal.state = .formatting := by
  rw [journal_acceptWrite]
  cases a with
  | bare context => exact h
  | capture => simpa [makeEffects] using h
  | window e =>
    rcases state_windowTaken e s with hstate | hstate
    · exact hstate.trans h
    · exact hstate

/-- A taken REINIT found no format running and starts one (R18, R113). -/
theorem takeCommand_reinit {k : Requester} {s : State} {tag : Byte} (h : s.decisionOf k = ⟨⟨7, tag⟩, .taken⟩) :
    s.reinitVerdict = .taken ∧ takeCommand k s = closeSlot k ⟨⟨7, tag⟩, .taken⟩ (reinitTaken s) := by
  rw [takeCommand_eq, h]
  refine ⟨?_, rfl⟩
  have hverdict : (s.decisionOf k).verdict = .taken := by rw [h]
  have hopcode : s.slots[k].stagedWord.opcode = 7 := congrArg (·.word.opcode) h
  unfold State.decisionOf at hverdict
  rwa [hopcode, verdict_of_reinit] at hverdict

theorem reinitVerdict_taken {s : State} (h : s.reinitVerdict = .taken) :
    s.allClosed = true ∧ s.journal.state ≠ .formatting ∧ s.stagedValid = true := by
  unfold State.reinitVerdict at h
  split at h
  · cases h
  · rename_i hbusy
    split at h
    · cases h
    · rename_i hvalid
      simp only [not_or, Bool.not_eq_false] at hbusy hvalid
      exact ⟨hbusy.1, hbusy.2, hvalid⟩

theorem acceptWrite_jobsListed {s : State} (h : s.JobsListed) {w : WriteRequest} {a : Admitted}
    (hjudge : s.judge w = .accept a) : (acceptWrite w a s).JobsListed := by
  obtain ⟨-, -, haccepts⟩ := accepts_of_judge hjudge
  have hraised := raised_acceptWrite w a s
  have hqueue := entries_acceptWrite w a s
  have hformatting := formatting_acceptWrite w a (s := s)
  cases hclose : (s.entryOf w a).commandClose with
  | false => exact h.appends hclose hqueue hraised (sameSlots_acceptWrite hclose) hformatting
  | true =>
    obtain ⟨k, rfl | rfl⟩ := commandClose_cases hclose
    · cases haccepts with
      | window _ hslot =>
        obtain ⟨rfl, hidle⟩ := hslot k (.inl rfl)
        have hslots : (acceptWrite w (.window (.close w.requester)) s).slots = (takeCommand w.requester s).slots :=
          slots_acceptWrite w _ s
        have hjournal : (acceptWrite w (.window (.close w.requester)) s).journal = (takeCommand w.requester s).journal :=
          journal_acceptWrite w _ s
        refine h.closes (e := s.entryOf w _) (d := s.decisionOf w.requester) hclose hidle hqueue hraised ?_ (fun l hl => ?_)
          hformatting fun tag hd => ?_
        · rw [hslots]
          exact takeCommand_own _ s
        · rw [hslots]
          exact takeCommand_other hl s
        · obtain ⟨hverdict, htaken⟩ := takeCommand_reinit hd
          rw [hjournal, htaken]
          exact ⟨(reinitVerdict_taken hverdict).2.1, rfl⟩
    · cases haccepts with
      | window _ hslot =>
        obtain ⟨rfl, hidle⟩ := hslot k (.inr rfl)
        have hslots : (acceptWrite w (.window (.sequenceError w.requester)) s).slots =
            (sequenceErrorMade w.requester s).slots := slots_acceptWrite w _ s
        refine h.closes (e := s.entryOf w _) (d := ⟨s.slots[w.requester].stagedWord, .refused .sequence⟩) hclose hidle hqueue
          hraised ?_ (fun l hl => ?_) hformatting fun tag hd => by simpa using congrArg (·.verdict) hd
        · rw [hslots]
          exact closeSlot_own _ _ s
        · rw [hslots]
          exact closeSlot_other hl _ s

theorem sameSlots_judge_other {s : State} (h : s.JobsListed) {t : State} (hraised : Raised s t)
    (hqueue : t.queue = s.queue) (hslots : t.slots = s.slots) (hjournal : t.journal = s.journal) : t.JobsListed :=
  h.raised hraised (by rw [hqueue]) (.of_eq hslots) (by rw [hjournal]; exact id)

theorem judgeWrite_jobsListed {s : State} (h : s.JobsListed) (w : WriteRequest) : (judgeWrite w s).JobsListed := by
  have hraised := raised_judgeWrite w s
  cases hjudge : s.judge w with
  | accept a =>
    have haccepted : judgeWrite w s = acceptWrite w a s := by simp only [judgeWrite, hjudge]
    rw [haccepted]
    exact acceptWrite_jobsListed h hjudge
  | retry | fault f =>
    simp only [judgeWrite, hjudge] at hraised ⊢
    exact sameSlots_judge_other h hraised (by simp) (by simp) (by simp)

/-! ## The unit in progress -/

/-- The unit in progress stays the head job's step while jobs are only placed behind it. -/
theorem unitFits_of_prefix {s t : State} (h : s.unitFits) (hwork : t.engine.work = s.engine.work)
    (hjobs : s.jobs <+: t.jobs) : t.unitFits := by
  unfold State.unitFits at *
  rw [hwork]
  cases hs : s.jobs with
  | nil =>
    rw [hs] at h
    cases hw : s.engine.work with
    | none => trivial
    | some w =>
      rw [hw] at h
      cases w with
      | entry step => trivial
      | write _ | restore _ _ _ | statusFirst _ | statusSecond _ => exact h.elim
  | cons j rest =>
    rw [hs] at h hjobs
    obtain ⟨more, hmore⟩ := hjobs
    rw [← hmore, List.cons_append]
    cases hw : s.engine.work with
    | none => trivial
    | some w =>
      rw [hw] at h
      cases w <;> exact h

theorem unitFits_of_free {t : State} (hwork : t.engine.work = none) : t.unitFits := by
  unfold State.unitFits
  rw [hwork]
  trivial

theorem unitFits_of_entry {t : State} {step : EntryStep} (hwork : t.engine.work = some (.entry step)) : t.unitFits := by
  unfold State.unitFits
  rw [hwork]
  trivial

theorem unitFits_write_iff {s : State} {step : JobStep} {j : Job} {rest : List Job}
    (hwork : s.engine.work = some (.write step)) (hjobs : s.jobs = j :: rest) : s.unitFits ↔
      j.owner ≠ .statusUnit ∧ step ≠ .restore ∧ step ≠ .statusRecord ∧
        (j.next = step ∨ (step = .abortedMarker ∧ j.next = .restore)) := by
  unfold State.unitFits
  rw [hwork, hjobs]

theorem unitFits_restore_iff {s : State} {line : Addr} {q : Seq} {phase : RestorePhase} {j : Job} {rest : List Job}
    (hwork : s.engine.work = some (.restore line q phase)) (hjobs : s.jobs = j :: rest) :
    s.unitFits ↔ j.owner ≠ .statusUnit ∧ j.next = .restore := by
  unfold State.unitFits
  rw [hwork, hjobs]

theorem unitFits_statusFirst_iff {s : State} {second : Option Line} {j : Job} {rest : List Job}
    (hwork : s.engine.work = some (.statusFirst second)) (hjobs : s.jobs = j :: rest) :
    s.unitFits ↔ j.next = .statusRecord := by
  unfold State.unitFits
  rw [hwork, hjobs]

theorem unitFits_statusSecond_iff {s : State} {second : Line} {j : Job} {rest : List Job}
    (hwork : s.engine.work = some (.statusSecond second)) (hjobs : s.jobs = j :: rest) :
    s.unitFits ↔ j.next = .statusRecord := by
  unfold State.unitFits
  rw [hwork, hjobs]

/-- The status job's only step is the status record (Table 4-3). -/
theorem next_of_statusUnit {j : Job} (hfits : j.fits) (howner : j.owner = .statusUnit) : j.next = .statusRecord := by
  obtain ⟨hkind, hsteps⟩ := hfits
  rw [hkind.mp howner] at hsteps
  exact hsteps

/-- The unit of a job's next step: its next line's restore, the ABORTED marker when none is left, the status record, or
the step's WRITE. -/
theorem jobUnit_cases (s : State) {j : Job} (hfits : j.fits) :
    (∃ k line q, j.owner = .slot k ∧ j.next = .restore ∧ newestHeld k s.held = some (line, q) ∧
        s.jobUnit j = .restore line q .header) ∨
      (∃ k, j.owner = .slot k ∧ j.next = .restore ∧ newestHeld k s.held = none ∧
        s.jobUnit j = .write .abortedMarker) ∨
      (j.next = .statusRecord ∧ s.jobUnit j = .statusFirst none) ∨
      (∃ k, j.owner = .slot k ∧ j.next ≠ .restore ∧ j.next ≠ .statusRecord ∧ s.jobUnit j = .write j.next) := by
  cases howner : j.owner with
  | statusUnit =>
    have hnext := next_of_statusUnit hfits howner
    exact .inr (.inr (.inl ⟨hnext, by simp [State.jobUnit, hnext]⟩))
  | slot k =>
    by_cases hrestore : j.next = .restore
    · cases hnew : newestHeld k s.held with
      | none => exact .inr (.inl ⟨k, rfl, hrestore, hnew, jobUnit_of_noneHeld howner hrestore hnew⟩)
      | some b => exact .inl ⟨k, b.1, b.2, rfl, hrestore, hnew, jobUnit_of_newest howner hrestore hnew⟩
    · by_cases hstatus : j.next = .statusRecord
      · exact .inr (.inr (.inl ⟨hstatus, by simp [State.jobUnit, hstatus]⟩))
      · refine .inr (.inr (.inr ⟨k, rfl, hrestore, hstatus, ?_⟩))
        unfold State.jobUnit
        rw [howner]
        cases hnext : j.next with
        | restore => exact absurd hnext hrestore
        | statusRecord => exact absurd hnext hstatus
        | openRecord | commitMarker | abortedMarker | descriptorInvalidate | formatSlot _ | descriptorWrite | result => rfl

theorem chooseUnit_unitFits {s : State} (h : s.unitFits) (hfits : ∀ j ∈ s.jobs, j.fits) : (chooseUnit s).unitFits := by
  have hchooses := chooses s
  generalize chooseUnit s = t at hchooses
  cases hchooses with
  | stays => exact h
  | entry e rest => exact unitFits_of_entry rfl
  | job j rest _ _ hjobs =>
    rcases jobUnit_cases s (hfits j (hjobs ▸ List.mem_cons_self)) with
      ⟨k, line, q, howner, hnext, -, hunit⟩ | ⟨k, howner, hnext, -, hunit⟩ | ⟨hnext, hunit⟩ |
        ⟨k, howner, hrestore, hstatus, hunit⟩ <;> rw [hunit]
    · exact (unitFits_restore_iff (by exact rfl) (by exact hjobs)).mpr ⟨by simp [howner], hnext⟩
    · exact (unitFits_write_iff (by exact rfl) (by exact hjobs)).mpr ⟨by simp [howner], by simp, by simp, .inr ⟨rfl, hnext⟩⟩
    · exact (unitFits_statusFirst_iff (by exact rfl) (by exact hjobs)).mpr hnext
    · exact (unitFits_write_iff (by exact rfl) (by exact hjobs)).mpr ⟨by simp [howner], hrestore, hstatus, .inl rfl⟩

end Sys2Proof.Machine

/-! PROOF. The choice, the grant and the replies keep the Job List's clauses: the second half of O56. -/

namespace Sys2Proof.Machine

/-! ## The choice and the grant -/

section
variable {s : State} (h : s.JobsListed)
include h

/-- Nothing that the clauses read changes. -/
theorem State.JobsListed.congr {t : State} (hjobs : t.jobs = s.jobs) (hstatus : t.status = s.status)
    (hqueue : t.queue.entries = s.queue.entries) (hslots : t.slots = s.slots)
    (hstate : t.journal.state = s.journal.state) : t.JobsListed :=
  h.raised (.of_eq hjobs hstatus) hqueue (.of_eq hslots) hstate.trans

theorem chooseUnit_jobsListed : (chooseUnit s).JobsListed :=
  h.congr (by simp) (by simp) (by simp) (by simp) (by simp)

theorem engineIssues_jobsListed {u : State} (hu : EngineIssues s u) : u.JobsListed := by
  cases hu with
  | plain => exact h
  | recordData q e rest hwork hqueue => exact h.congr (by simp) (by simp) (by simp) (by simp) (by simp)
  | openRecord j rest | endMarker step j rest | restore line q j rest =>
    exact h.congr (by simp) (by simp) (by simp) (by simp) (by simp)
  | result j rest hwork hjobs =>
    exact h.raised (.of_eq (by simp) (by simp)) (by simp)
      (.updSlot _ (f := fun c => { c with resultCount := c.resultCount + 1 }) (fun _ => rfl) (fun _ => rfl) s) (by simp)
  | statusRecord second second' hwork =>
    exact h.clears (by simp) rfl (by simp) (.of_eq (by simp)) (by simp)

theorem grant_jobsListed : (grant s).JobsListed := by
  cases hport : s.dport.outstanding with
  | some o => rwa [grant_of_out hport]
  | none =>
    have hgrants := grants hport
    generalize grant s = t at hgrants
    cases hgrants with
    | stays => exact h
    | startup u q _ hissue =>
      rcases startupIssue_frame _ _ _ hissue with rfl | rfl <;>
        exact h.congr (by simp) (by simp) (by simp) (by simp) (by simp)
    | engine u q _ _ hissue =>
      have hu := engineIssues_jobsListed h (engineIssues hissue)
      exact hu.congr rfl rfl rfl rfl rfl
    | straight | unheld | deferred | patrol => exact h.congr rfl rfl rfl rfl rfl

end

section
variable {s : State} (h : s.unitFits)
include h

theorem State.unitFits.congr {t : State} (hwork : t.engine.work = s.engine.work) (hjobs : t.jobs = s.jobs) : t.unitFits :=
  unitFits_of_prefix h hwork (by rw [hjobs])

/-- A job stands where the unit is a job's. -/
theorem State.unitFits.job {w : WorkUnit} (hwork : s.engine.work = some w) (hw : ∀ step, w ≠ .entry step) :
    ∃ j rest, s.jobs = j :: rest := by
  unfold State.unitFits at h
  rw [hwork] at h
  cases hjobs : s.jobs with
  | cons j rest => exact ⟨j, rest, rfl⟩
  | nil =>
    rw [hjobs] at h
    cases w with
    | entry step => exact absurd rfl (hw step)
    | write _ | restore _ _ _ | statusFirst _ | statusSecond _ => exact h.elim

theorem engineIssues_unitFits {u : State} (hu : EngineIssues s u) : u.unitFits := by
  cases hu with
  | recordData q e rest hwork hqueue => exact unitFits_of_entry rfl
  | plain | openRecord | endMarker | restore | result => exact h.congr (by simp) (by simp)
  | statusRecord second second' hwork =>
    obtain ⟨j, rest, hjobs⟩ := h.job hwork (by simp)
    exact (unitFits_statusFirst_iff (by exact rfl) (by exact hjobs)).mpr ((unitFits_statusFirst_iff hwork hjobs).mp h)

theorem grant_unitFits : (grant s).unitFits := by
  cases hport : s.dport.outstanding with
  | some o => rwa [grant_of_out hport]
  | none =>
    have hgrants := grants hport
    generalize grant s = t at hgrants
    cases hgrants with
    | stays => exact h
    | startup u q _ hissue =>
      rcases startupIssue_frame _ _ _ hissue with rfl | rfl <;> exact h.congr (by simp) (by simp)
    | engine u q _ _ hissue =>
      have hu := engineIssues_unitFits h (engineIssues hissue)
      exact hu.congr rfl rfl
    | straight | unheld | deferred | patrol => exact h.congr rfl rfl

end

theorem settle_jobsCoherent {s : State} (h : s.JobsListed) (hunit : s.unitFits) : (settle s).JobsCoherent :=
  (jobsCoherent_iff _).mpr ⟨grant_jobsListed (chooseUnit_jobsListed h), grant_unitFits (chooseUnit_unitFits hunit h.fits)⟩

/-! ## Landings -/

theorem jobs_landHead_of_close {e : PostedEntry} {s : State} {d : Decision} (h : e.commandClose = true)
    (hd : s.slots[e.requester].decision = some d) : (landHead e s).jobs = s.jobs ++ [d.job e.requester] := by
  rw [landHead_of_close h hd]
  split <;> simp [placeJob, clearCounters]

theorem dirty_landHead (e : PostedEntry) (s : State) : (landHead e s).status.dirty = s.status.dirty := by
  unfold landHead closingWordLands
  dsimp only
  split
  · split
    · simp
    · split <;> simp [clearCounters]
  · simp

section
variable {s : State} (h : s.JobsListed)
include h

theorem landHead_jobsListed {e : PostedEntry} {rest : List PostedEntry} (hentries : s.queue.entries = e :: rest) :
    (landHead e s).JobsListed := by
  have hqueue : (landHead e s).queue.entries = rest := by rw [queue_landHead, hentries]; rfl
  have hstatus := dirty_landHead e s
  cases hclose : e.commandClose with
  | false =>
    exact h.lands hentries hclose hqueue (by simp [landHead_of_notClose hclose]) (.of_eq (by simp)) hstatus (by simp)
  | true =>
    obtain ⟨-, ⟨d, hd⟩, -⟩ := h.headClose hentries hclose
    exact h.landsClose hentries hclose hd hqueue (jobs_landHead_of_close hclose hd) (.of_eq (by simp)) hstatus (by simp)

end

end Sys2Proof.Machine

/-! PROOF. The replies keep the Job List's clauses, and O56. -/

namespace Sys2Proof.Machine

/-! ## The head job's next step (R76, R77) -/

theorem jobs_nextStep {s : State} {j : Job} {rest : List Job} (hjobs : s.jobs = j :: rest) (step : JobStep) :
    (nextStep step s).jobs = { j with next := step } :: rest := by
  rw [nextStep, updHeadJob_of_cons hjobs]

/-- A job of a slot may go to its result. -/
theorem Job.fits.result {j j' : Job} (h : j.fits) (howner : j.owner ≠ .statusUnit) (hkept : j'.owner = j.owner)
    (hkind : j'.kind = j.kind) (hnext : j'.next = .result) : j'.fits := by
  obtain ⟨hstatus, -⟩ := h
  refine ⟨by rw [hkept, hkind]; exact hstatus, ?_⟩
  rw [hkind]
  cases hk : j.kind with
  | status => exact absurd (hstatus.mpr hk) howner
  | _ => simp [hnext]

theorem Job.fits.kind_of_restore {j : Job} (h : j.fits) (hnext : j.next = .restore) : j.kind = .abort := by
  obtain ⟨-, hsteps⟩ := h
  cases hk : j.kind <;> simp [hk, hnext] at hsteps ⊢

theorem Job.fits.kind_of_format {j : Job} (h : j.fits) (hnext : j.next.isFormat) : j.kind = .reinit := by
  obtain ⟨-, hsteps⟩ := h
  cases hk : j.kind <;> rcases hnext with hn | ⟨i, hn⟩ | hn <;> simp [hk, hn] at hsteps ⊢

theorem Job.fits.format {j j' : Job} (h : j.fits) (hnext : j.next.isFormat) (hkept : j'.owner = j.owner)
    (hkind : j'.kind = j.kind) (hnext' : j'.next.isFormat) : j'.fits := by
  have hreinit := h.kind_of_format hnext
  refine ⟨by rw [hkept, hkind]; exact h.1, ?_⟩
  rw [hkind, hreinit]
  rcases hnext' with hn | ⟨i, hn⟩ | hn <;> simp [hn]

theorem Job.fits.abort {j j' : Job} (h : j.fits) (hnext : j.next = .restore) (hkept : j'.owner = j.owner)
    (hkind : j'.kind = j.kind) (hnext' : j'.next = .restore ∨ j'.next = .abortedMarker) : j'.fits := by
  refine ⟨by rw [hkept, hkind]; exact h.1, ?_⟩
  rw [hkind, h.kind_of_restore hnext]
  rcases hnext' with hn | hn <;> simp [hn]

theorem not_isFormat_result : ¬ JobStep.isFormat .result := by simp [JobStep.isFormat]

theorem not_isFormat_of_abort {n : JobStep} (h : n = .restore ∨ n = .abortedMarker) : ¬ n.isFormat := by
  rcases h with rfl | rfl <;> simp [JobStep.isFormat]

section
variable {s : State} (h : s.JobsListed)
include h

/-- The head job's `WRITE` is durable, and only the raises follow the job's step to its result. -/
theorem State.JobsListed.resultNext {t u : State} {j j' : Job} {rest : List Job} (hjobs : s.jobs = j :: rest)
    (hslot : j.owner ≠ .statusUnit) (hjobs' : u.jobs = j' :: rest) (howner : j'.owner = j.owner)
    (hkind : j'.kind = j.kind) (hnext : j'.next = .result)
    (hqueue : u.queue.entries = s.queue.entries) (hslots : u.slots = s.slots) (hstatus : u.status.dirty = s.status.dirty)
    (hstate : u.journal.state = s.journal.state) (hraised : Raised u t) (hqueue' : t.queue.entries = u.queue.entries)
    (hslots' : t.slots = u.slots) (hstate' : t.journal.state = u.journal.state) : t.JobsListed := by
  have hhead : j.fits := h.fits j (by simp [hjobs])
  have hu : u.JobsListed := h.stepsHead hjobs hjobs' howner (hhead.result hslot howner hkind hnext)
    (fun hf => absurd (hnext ▸ hf) not_isFormat_result) hqueue (.of_eq hslots) hstatus hstate
  exact hu.raised hraised hqueue' (.of_eq hslots') hstate'.trans

/-- The head job is the only command with format work: none is left when it goes to its result. -/
theorem State.JobsListed.noFormatLeft {t : State} {j j' : Job} {rest : List Job} {k : Requester}
    (hjobs : s.jobs = j :: rest) (howner : j.owner = .slot k) (hformat : j.next.isFormat) (hjobs' : t.jobs = j' :: rest)
    (hnext : j'.next = .result) (hqueue : t.queue.entries = s.queue.entries) (hslots : SameSlots s t) (l : Requester) :
    ¬ t.owesFormat l := by
  obtain ⟨hnotQueued, hnoOther, -⟩ := h.headOnly hjobs howner
  have hk : s.owesFormat k := .inr ⟨j, by simp [hjobs], howner, hformat⟩
  have hrest {i : Job} (hi : i ∈ t.jobs) (hin : i.next.isFormat) : i ∈ rest := by
    rw [hjobs'] at hi
    rcases List.mem_cons.mp hi with rfl | hi
    · exact absurd (hnext ▸ hin) not_isFormat_result
    · exact hi
  intro hl
  have hs : s.owesFormat l := owes_mono (fun hc => by simpa [State.closeQueued, hqueue] using hc) (hslots l).2
    (fun i hi hio hin => .inr ⟨i, by simp [hjobs, hrest hi hin], hio, hin⟩) hl
  obtain rfl := h.formatsOnce l k hs hk
  rcases hl with ⟨hclose, -⟩ | ⟨i, hi, hio, hin⟩
  · exact hnotQueued (by simpa [State.closeQueued, hqueue] using hclose)
  · exact hnoOther i (hrest hi hin) hio

end

/-! ## A job's WRITE is durable -/

section
variable {s : State} {j : Job} {rest : List Job} {k : Requester} (h : s.JobsListed) (hjobs : s.jobs = j :: rest)
  (howner : j.owner = .slot k)
include h hjobs howner

theorem closeContext_jobsListed {f : Job → Job} {u : State} (hsame : u.jobs = s.jobs ∧ u.status = s.status ∧
    u.queue = s.queue ∧ u.slots = s.slots ∧ u.journal = s.journal) (hf : (f j).owner = j.owner)
    (hkind : (f j).kind = j.kind) (hnext : (f j).next = .result) : (updHeadJob f (closeContext k u)).JobsListed := by
  obtain ⟨hjobs', hstatus, hqueue, hslots, hjournal⟩ := hsame
  rw [updHeadJob_closeContext (hjobs'.trans hjobs) hf]
  exact h.resultNext hjobs (by simp [howner]) (j' := f j) (u := { u with
    contexts := u.contexts.set k { u.contexts[k] with state := .closed }, jobs := f j :: rest
    journal := { u.journal with tail := _ } }) rfl hf hkind hnext (by simp [hqueue]) (by simp [hslots])
    (by simp [hstatus]) (by simp [hjournal]) (raised_lowTest _ _ _) (by simp) (by simp) (by simp)

theorem descriptorWriteDone_jobsListed (hnext : j.next = .descriptorWrite) : (descriptorWriteDone s).JobsListed := by
  have hfits : j.fits := h.fits j (by simp [hjobs])
  have hslot : j.owner ≠ .statusUnit := by simp [howner]
  have hmoved : (nextStep .result s).JobsListed := h.stepsHead hjobs (jobs_nextStep hjobs _) rfl
    (hfits.result hslot rfl rfl rfl) (fun hf => absurd hf not_isFormat_result) (by simp) (.of_eq (by simp)) (by simp)
    (by simp)
  have hno := h.noFormatLeft hjobs howner (.inr (.inr hnext)) (jobs_nextStep hjobs .result) rfl (by simp)
    (.of_eq (by simp))
  unfold descriptorWriteDone
  rw [setUnit_lowTestAtReady, nextStep, updHeadJob_lowTestAtReady (by exact hjobs) rfl]
  have hready : ({ setUnit none { s with journal := { s.journal with state := .ready, head := 0, tail := 0 } } with
      jobs := { j with next := .result } :: rest } : State).JobsListed :=
    hmoved.changesState hno (jobs_nextStep hjobs _).symm (by simp [setUnit]) (by simp [setUnit]) (.of_eq (by simp [setUnit]))
  exact hready.raised (raised_lowTestAtReady _) (by simp) (.of_eq (by simp)) (by simp)

theorem jobWriteDone_jobsListed {step : JobStep} (hstep : step ≠ .restore ∧ step ≠ .statusRecord)
    (hnext : j.next = step ∨ (step = .abortedMarker ∧ j.next = .restore)) : (jobWriteDone k s step).JobsListed := by
  have hfits : j.fits := h.fits j (by simp [hjobs])
  have hslot : j.owner ≠ .statusUnit := by simp [howner]
  cases step with
  | restore => exact absurd rfl hstep.1
  | statusRecord => exact absurd rfl hstep.2
  | openRecord =>
    exact h.stepsHead (t := openRecordDone k s) hjobs (jobs_nextStep (by simpa using hjobs) _) rfl
      (hfits.result hslot rfl rfl rfl) (fun hf => absurd hf not_isFormat_result) (by simp) (.of_eq (by simp)) (by simp)
      (by simp)
  | commitMarker =>
    exact closeContext_jobsListed h hjobs howner (by simp [releaseHeld]) rfl rfl rfl
  | abortedMarker =>
    exact closeContext_jobsListed h hjobs howner (by simp) rfl rfl rfl
  | descriptorInvalidate =>
    have hformat : j.next.isFormat := .inl (by simpa using hnext)
    exact h.stepsHead hjobs (jobs_nextStep (by simpa using hjobs) _) rfl
      (hfits.format hformat rfl rfl (.inr (.inl ⟨0, rfl⟩))) (fun _ => hformat) (by simp [jobWriteDone])
      (.of_eq (by simp [jobWriteDone])) (by simp [jobWriteDone]) (by simp [jobWriteDone])
  | formatSlot i =>
    have hformat : j.next.isFormat := .inr (.inl ⟨i, by simpa using hnext⟩)
    have hnext' : JobStep.isFormat (if i + 1 < s.slotCount then .formatSlot (i + 1) else .descriptorWrite) := by
      split
      · exact .inr (.inl ⟨_, rfl⟩)
      · exact .inr (.inr rfl)
    exact h.stepsHead (t := formatLineDone i s) hjobs (jobs_nextStep (by simpa using hjobs) _) rfl
      (hfits.format hformat rfl rfl hnext') (fun _ => hformat) (by simp)
      (.of_eq (by simp)) (by simp) (by simp)
  | descriptorWrite => exact descriptorWriteDone_jobsListed h hjobs howner (by simpa using hnext)
  | result =>
    have hended : (updSlot k (fun c => { c with phase := .idle, decision := none }) (dropJob (setUnit none s))).JobsListed :=
      h.endsHead hjobs howner (by simp [dropJob, hjobs]) (by simp) (by simp [updSlot])
        (fun l hl => by
          have hne : (k : Nat) ≠ l := fun hv => hl (Fin.ext hv.symm)
          simp [updSlot, Vector.getElem_set_ne, hne]) (by simp) (by simp)
    exact hended.raised (t := resultRecordDone k s) (raised_raiseCause _ _) (by simp [resultRecordDone])
      (.of_eq (by simp [resultRecordDone])) (by simp [resultRecordDone])

end

/-! ## The replies -/

theorem releasePort_jobsListed {s : State} (h : s.JobsListed) : (releasePort s).JobsListed := h.congr rfl rfl rfl rfl rfl

theorem owner_of_unitFits {j : Job} (h : j.owner ≠ .statusUnit) : ∃ k, j.owner = .slot k := by
  cases howner : j.owner with
  | statusUnit => exact absurd howner h
  | slot k => exact ⟨k, rfl⟩

section
variable {s : State} (h : s.JobsListed) (hunit : s.unitFits)
include h hunit

theorem restoreWriteDone_jobsListed {line : Addr} {q : Seq} {phase : RestorePhase} {j : Job} {rest : List Job} (good : Bool)
    (hwork : s.engine.work = some (.restore line q phase)) (hjobs : s.jobs = j :: rest) :
    (restoreWriteAnswered j.owner.slotNumber line good .done s).JobsListed := by
  obtain ⟨-, hnext⟩ := (unitFits_restore_iff hwork hjobs).mp hunit
  have hfits : j.fits := h.fits j (by simp [hjobs])
  have hto (b : Bool) : (if b then .restore else .abortedMarker : JobStep) = .restore ∨
      (if b then .restore else .abortedMarker : JobStep) = .abortedMarker := by cases b <;> simp
  exact h.stepsHead hjobs (jobs_nextStep (by simpa using hjobs) _) rfl (hfits.abort hnext rfl rfl (hto _))
    (fun hf => absurd hf (not_isFormat_of_abort (hto _)))
    (by simp [restoreWriteAnswered]) (.of_eq (by simp)) (by simp [restoreWriteAnswered]) (by simp)

omit hunit in
theorem statusRecordDone_jobsListed {j : Job} {rest : List Job} (hjobs : s.jobs = j :: rest) :
    (statusRecordDone j s).JobsListed := by
  have hfits : j.fits := h.fits j (by simp [hjobs])
  unfold statusRecordDone
  cases howner : j.owner with
  | slot k =>
    exact h.stepsHead hjobs (jobs_nextStep (by simpa using hjobs) _) rfl (hfits.result (by simp [howner]) rfl rfl rfl)
      (fun hf => absurd hf not_isFormat_result) (by simp) (.of_eq (by simp)) (by simp) (by simp)
  | statusUnit =>
    dsimp only
    refine h.dropsStatus hjobs howner ?_ ?_ (.of_eq ?_) ?_ <;> split <;> simp_all [dropJob, placeJob]

/-- Every reply to the Write Engine. -/
theorem engineReplies_jobsListed {t : State} (ht : EngineReplies s t) : t.JobsListed := by
  cases ht with
  | ignored => exact h
  | stops => exact h.raised (raised_stopDevice s) (by simp) (.of_eq (by simp)) (by simp)
  | oldRead b e rest => exact h.congr rfl rfl rfl rfl rfl
  | oldReadBad kind b e rest =>
    exact (h.congr (t := captureRead b s) rfl rfl rfl rfl rfl).raised (raised_raiseError _ _ _) (by simp)
      (.of_eq (by simp)) (by simp)
  | recordData q e rest => exact h.congr rfl rfl rfl rfl rfl
  | recordHeader q e rest =>
    exact h.raised (t := setUnit _ _) (.inl ⟨by simp, by simp [count]⟩) (by simp) (.of_eq (by simp)) (by simp)
  | lands e rest _ hqueue => exact landHead_jobsListed h hqueue
  | landsUnbacked e rest _ hqueue =>
    exact (landHead_jobsListed h hqueue).raised (raised_raiseError _ _ _) (by simp) (.of_eq (by simp)) (by simp)
  | jobWrite step j rest hstep hwork hjobs =>
    obtain ⟨hslot, -, -, hnext⟩ := (unitFits_write_iff hwork hjobs).mp hunit
    obtain ⟨k, howner⟩ := owner_of_unitFits hslot
    have hk : j.owner.slotNumber = k := by rw [howner]; rfl
    rw [hk]
    exact jobWriteDone_jobsListed h hjobs howner hstep hnext
  | restoreRead line q phase phase' bad j rest =>
    exact (h.congr (t := setUnit (some (.restore line q phase')) s) rfl rfl rfl rfl rfl).raised (raised_countIf _ _ _)
      (by simp) (.of_eq (by simp)) (by simp)
  | restoreWrite line q phase good j rest hwork hjobs => exact restoreWriteDone_jobsListed h hunit good hwork hjobs
  | statusFirst first second => exact h.congr rfl rfl rfl rfl rfl
  | statusSecond second j rest hwork hjobs => exact statusRecordDone_jobsListed h hjobs

omit h in
theorem engineReplies_unitFits {t : State} (ht : EngineReplies s t) : t.unitFits := by
  cases ht with
  | ignored => exact hunit
  | stops => exact unitFits_of_prefix hunit (by simp) (raised_stopDevice s).jobs_isPrefix
  | oldRead b e rest => exact unitFits_of_entry (t := captureRead b s) rfl
  | oldReadBad kind b e rest => exact unitFits_of_entry (by simp; rfl)
  | recordData q e rest => exact unitFits_of_entry rfl
  | recordHeader q e rest => exact unitFits_of_entry rfl
  | lands e rest => exact unitFits_of_free (work_landHead e s)
  | landsUnbacked e rest => exact unitFits_of_free (by simp [work_landHead])
  | jobWrite step j rest hstep => exact unitFits_of_free (work_jobWriteDone hstep _ s)
  | restoreRead line q phase phase' bad j rest hwork hjobs =>
    have hset : (setUnit (some (.restore line q phase')) s).unitFits :=
      (unitFits_restore_iff (by exact rfl) (by exact hjobs)).mpr ((unitFits_restore_iff hwork hjobs).mp hunit)
    exact unitFits_of_prefix hset (by simp) (raised_countIf _ _ _).jobs_isPrefix
  | restoreWrite line q phase good j => exact unitFits_of_free (restoreWriteDone_fields _ line good s).1
  | statusFirst first second hwork =>
    obtain ⟨j, rest, hjobs⟩ := hunit.job hwork (by simp)
    exact (unitFits_statusSecond_iff (by exact rfl) (by exact hjobs)).mpr ((unitFits_statusFirst_iff hwork hjobs).mp hunit)
  | statusSecond second j => exact unitFits_of_free (work_statusRecordDone j s)

end

theorem handToClient_jobsCoherent {s : State} (hstart : s.StartupCoherent) (h : s.JobsListed) (hunit : s.unitFits)
    {o : Outstanding} (ho : s.dport.outstanding = some o) (r : Reply) :
    (handToClient o.client r (releasePort s)).JobsListed ∧ (handToClient o.client r (releasePort s)).unitFits := by
  have hreleased := releasePort_jobsListed h
  have hunit' : (releasePort s).unitFits := hunit.congr rfl rfl
  by_cases hclient : o.client = .writeEngine
  · rw [hclient]
    exact ⟨engineReplies_jobsListed hreleased hunit' (engineReplies r _),
      engineReplies_unitFits hunit' (engineReplies r _)⟩
  · have hraised := raised_handToClient hclient r (releasePort s)
    have hframe : (handToClient o.client r (releasePort s)).queue = s.queue ∧
        (handToClient o.client r (releasePort s)).slots = s.slots ∧
        (handToClient o.client r (releasePort s)).engine.work = s.engine.work := by
      cases hc : o.client with
      | writeEngine => exact absurd hc hclient
      | straightRead | deferredRead key | patrol | startup => simp [handToClient]
    obtain ⟨hqueue, hslots, hwork⟩ := hframe
    refine ⟨hreleased.raised hraised (by rw [hqueue]; rfl) (.of_eq hslots) ?_, unitFits_of_prefix hunit' hwork hraised.jobs_isPrefix⟩
    · intro hformatting
      have hformat : s.journal.state = .formatting := hformatting
      cases hc : o.client with
      | writeEngine => exact absurd hc hclient
      | straightRead | deferredRead key | patrol => simpa [handToClient] using hformat
      | startup =>
        rcases s.device.cases_starting with hdev | hdev | hdev | hdev
        · simp [hstart.quiet (.inl hdev)] at ho
        · simp [hstart.recovering hdev] at hformat
        · exact absurd hc (hstart.client_ne_startup hdev ho)
        · simp [hstart.quiet (.inr hdev)] at ho

/-! ## The events -/

/-- What the second half of O56 keeps. -/
def State.JobsKept (s : State) : Prop := s.StartupCoherent ∧ s.JobsListed ∧ s.unitFits

theorem settle_jobsKept {s : State} (hstart : s.StartupCoherent) (h : s.JobsListed) (hunit : s.unitFits) :
    (settle s).JobsKept :=
  ⟨settle_startupCoherent hstart, (jobsCoherent_iff _).mp (settle_jobsCoherent h hunit)⟩

theorem afterReset_jobsListed (cwb : BitVec 16) (s : State) : (afterReset cwb s).JobsListed ∧ (afterReset cwb s).unitFits := by
  obtain ⟨h, hunit⟩ := (jobsCoherent_iff _).mp reset_jobsCoherent
  exact ⟨h.congr rfl rfl rfl rfl rfl, hunit.congr rfl rfl⟩

theorem takeRequest_jobsKept {s : State} (h : s.JobsKept) (q : UportRequest) : (takeRequest q s).JobsKept := by
  obtain ⟨hstart, hlisted, hunit⟩ := h
  refine ⟨takeRequest_startupCoherent hstart q, (jobsCoherent_iff _).mp ?_⟩
  cases q with
  | write w =>
    exact settle_jobsCoherent (judgeWrite_jobsListed hlisted w)
      (unitFits_of_prefix hunit (by simp) (raised_judgeWrite w s).jobs_isPrefix)
  | read r =>
    exact settle_jobsCoherent (hlisted.raised (raised_judgeRead r s) (by simp) (.of_eq (by simp)) (by simp))
      (unitFits_of_prefix hunit (by simp) (raised_judgeRead r s).jobs_isPrefix)

theorem dirty_discardExpires (key : ReadRequest) (s : State) :
    (discardExpires key s).status.dirty = s.status.dirty := by
  unfold discardExpires
  (repeat' split) <;> simp [count]

theorem jobsKept_events : EventsLead State.JobsKept State.JobsKept where
  start _ h := h
  resets cwb s _ := ⟨afterReset_startupCoherent cwb s, afterReset_jobsListed cwb s⟩
  resetLoads cwb s _ := by
    obtain ⟨h, hunit⟩ := afterReset_jobsListed cwb s
    exact settle_jobsKept (enterLoad_startupCoherent (afterReset_startupCoherent cwb s) rfl)
      (h.congr rfl rfl rfl rfl rfl) (hunit.congr rfl rfl)
  loads _ h hdev := settle_jobsKept (enterLoad_startupCoherent h.1 hdev) (h.2.1.congr rfl rfl rfl rfl rfl)
    (h.2.2.congr rfl rfl)
  replies _ r _ h ho _ := by
    obtain ⟨hlisted, hunit⟩ := handToClient_jobsCoherent h.1 h.2.1 h.2.2 ho r
    exact ⟨handReply_startupCoherent h.1 ho r, (jobsCoherent_iff _).mp (settle_jobsCoherent hlisted hunit)⟩
  discards key s h := ⟨discardExpires_startupCoherent h.1 key,
    h.2.1.raised (.inl ⟨by simp, dirty_discardExpires key s⟩) (by simp) (.of_eq (by simp)) (by simp),
    h.2.2.congr (by simp) (by simp)⟩
  patrols s h := settle_jobsKept (patrolExpires_startupCoherent h.1)
    (h.2.1.congr (by simp) (by simp) (by simp) (by simp) (by simp)) (h.2.2.congr (by simp) (by simp))
  requests q _ h _ := takeRequest_jobsKept h q
  waits _ _ h := ⟨{ h.1 with }, h.2.1.congr rfl rfl rfl rfl rfl, h.2.2.congr rfl rfl⟩

/-- Settles O56: every event keeps the sizes, the agreements, and the jobs with the commands in flight. -/
theorem everyStepKeepsThePartCoherent : Obligations.EveryStepKeepsThePartCoherent := by
  refine ⟨fun s t h hstep => ?_, fun s t hstart hjobs hstep => ?_⟩
  · exact step_leads coherent_events (fun _ rest h => pending_coherent h rest) h hstep
  · have hkept : t.JobsKept := step_leads jobsKept_events
      (fun _ _ h => ⟨{ h.1 with }, h.2.1.congr rfl rfl rfl rfl rfl, h.2.2.congr rfl rfl⟩)
      ⟨hstart, (jobsCoherent_iff s).mp hjobs⟩ hstep
    exact (jobsCoherent_iff t).mpr hkept.2

end Sys2Proof.Machine

/-! PROOF. The laws of `State.Accounted` in groups, and the journal's own: the first half of O49. -/

namespace Sys2Proof.Machine

/-! ## The groups -/

/-- The ring, the head, the live tail and the space (R1, R9, R10, R14, R15). -/
structure State.JournalLaws (s : State) : Prop where
  ring : ∀ g, s.journal.geometry = some g → g.placed s.windowBase = true
  ringHeld : s.device = .scan ∨ s.device = .playback ∨ s.counting = true → s.journal.geometry.isSome = true
  ready : s.journal.state ≠ .ready → ∀ k : Fin 4, s.contexts[k].state = .closed
  tailAtHead : s.journal.state ≠ .recovering → (∀ k : Fin 4, s.contexts[k].live = false) → s.journal.tail = s.journal.head
  space : s.counting = true → s.journal.tail ≤ s.journal.head ∧ s.used + s.totalReserved ≤ s.slotCount
  epoch : ∀ k : Fin 4, s.contexts[k].live = true →
    ∃ q, s.contexts[k].epoch = some q ∧ s.journal.tail ≤ q ∧ q < s.journal.head

/-- The reserved balance and the line limit of every context (R31, R33). -/
structure State.ReserveLaws (s : State) : Prop where
  unreserved : ∀ k : Fin 4, s.contexts[k].state = .closed → s.journal.reserved[k] = 0
  balance : s.device = .run → ∀ k : Fin 4, s.contexts[k].state ≠ .closed →
    s.journal.reserved[k] = (if s.markerIssued k then 0 else 1) + (if s.contexts[k].openWritten then 0 else 1) +
      (s.held.filter fun h => h.holder == k && h.unallocated).length
  limit : ∀ k : Fin 4, s.contexts[k].state ≠ .closed → s.heldCount k ≤ s.contexts[k].lineLimit
  opened : ∀ k : Fin 4, s.contexts[k].openOwed = true → s.contexts[k].state = .opened ∧
    (s.device = .run → s.contexts[k].openWritten = s.openIssued k)
  written : ∀ k : Fin 4, s.contexts[k].state ≠ .closed → s.contexts[k].openOwed = false → s.contexts[k].openWritten = true

/-- What a context's state says of the work its slot's command has left (R23, R25, R28, R30). -/
structure State.CommandLaws (s : State) : Prop where
  opening : ∀ k : Fin 4, s.contexts[k].openOwed = true ↔ s.owesOpen k
  closing : ∀ k : Fin 4, s.contexts[k].state = .closing ↔ s.owesCommit k
  aborting : ∀ k : Fin 4, s.contexts[k].state = .aborting ↔ s.owesAbort k

/-- The entries of an epoch are accepted before the word that ends it (R28, R73). -/
structure State.OrderLaws (s : State) : Prop where
  endsLast : ∀ before e after, s.queue.entries = before ++ e :: after → e.commandClose = true →
    s.takenInSlot e.requester 2 ∨ s.takenInSlot e.requester 3 → ∀ x ∈ after, x.context ≠ some e.requester
  landed : ∀ k : Fin 4, ∀ j ∈ s.jobs, j.owner = .slot k →
    j.next = .commitMarker ∨ j.next = .restore ∨ j.next = .abortedMarker →
    ∀ e ∈ s.queue.entries, e.context ≠ some k
  carried : ∀ k : Fin 4, s.contexts[k].state = .closed → ∀ e ∈ s.queue.entries, e.context ≠ some k

/-- The Held-Line Table with the queue and with the restore in progress (R30, R34, R36, R39, R70). -/
structure State.HeldLaws (s : State) : Prop where
  unheld : ∀ k : Fin 4, s.contexts[k].state = .closed → ∀ h ∈ s.held, h.holder ≠ k
  captures : ∀ before e after, s.queue.entries = before ++ e :: after → e.cls = .capture →
    ∃ k, e.context = some k ∧ ∃ h ∈ s.held, h.line = e.line ∧ h.holder = k ∧
      h.agrees (if before = [] then s.engine.work else none)
  capturing : ∀ h ∈ s.held, h.state = .capturing →
    ∃ e ∈ s.queue.entries, e.cls = .capture ∧ e.line = h.line ∧ e.context = some h.holder
  captureOnce : ((s.queue.entries.filter fun e => e.cls == .capture).map (·.line)).Nodup
  recorded : ∀ h ∈ s.held, h.state ≠ .capturing → h.record.isSome = true
  restoring : ∀ h ∈ s.held, h.state = .restoring → s.headJobOf h.holder = true ∧
    ∃ q phase, s.engine.work = some (.restore h.line q phase)
  restoreLine : ∀ line q phase, s.engine.work = some (.restore line q phase) →
    ∃ h ∈ s.held, h.line = line ∧ s.headJobOf h.holder = true
  restored : ∀ k : Fin 4, (s.headJobOf k = true ∧ s.engine.work = some (.write .abortedMarker)) ∨
    (∃ j ∈ s.jobs, j.owner = .slot k ∧ j.next = .abortedMarker) → ∀ h ∈ s.held, h.holder ≠ k

/-- The entry in progress, and what of the unit's work is issued (R65, R68, R70). -/
structure State.UnitLaws (s : State) : Prop where
  begun : ∀ step, s.engine.work = some (.entry step) → ∃ e rest, s.queue.entries = e :: rest ∧
    (step ≠ .dataWrite → e.cls = .capture) ∧ ∀ k : Fin 4, e.context = some k → s.contexts[k].openOwed = false
  recordIssued : s.device = .run → ∀ q, s.engine.work = some (.entry (.recordData q)) → q.isSome = s.engineOut
  freeIssued : s.device = .run → s.engine.work = none → s.engineOut = false

/-- The groups together. -/
structure State.Laws (s : State) : Prop where
  journal : s.JournalLaws
  reserve : s.ReserveLaws
  command : s.CommandLaws
  order : s.OrderLaws
  held : s.HeldLaws
  unit : s.UnitLaws

theorem issued_iff (s : State) : (match s.engine.work with
    | some (.entry (.recordData q)) => q.isSome = s.engineOut
    | none => s.engineOut = false
    | _ => True) ↔ (∀ q, s.engine.work = some (.entry (.recordData q)) → q.isSome = s.engineOut) ∧
      (s.engine.work = none → s.engineOut = false) := by
  cases s.engine.work with
  | none => simp
  | some w =>
    cases w with
    | write _ | restore _ _ _ | statusFirst _ | statusSecond _ => simp
    | entry step => cases step <;> simp

theorem accounted_iff (s : State) : s.Accounted ↔ s.Laws := by
  constructor
  · intro h
    exact {
      journal := ⟨h.ring, h.ringHeld, h.ready, h.tailAtHead, h.space, h.epoch⟩
      reserve := ⟨fun k hk => (h.closed k hk).1, h.balance, h.limit, h.opened, h.written⟩
      command := ⟨h.opening, h.closing, h.aborting⟩
      order := ⟨h.endsLast, h.landed, fun k hk => (h.closed k hk).2.2⟩
      held := ⟨fun k hk => (h.closed k hk).2.1, h.captures, h.capturing, h.captureOnce, h.recorded, h.restoring,
        h.restoreLine, h.restored⟩
      unit := ⟨h.begun, fun hd => ((issued_iff s).mp (h.issued hd)).1, fun hd => ((issued_iff s).mp (h.issued hd)).2⟩ }
  · rintro ⟨hj, hr, hc, ho, hh, hu⟩
    exact { hj, hr, hc, ho, hh, hu with
      issued := fun hd => (issued_iff s).mpr ⟨hu.recordIssued hd, hu.freeIssued hd⟩
      closed := fun k hk => ⟨hr.unreserved k hk, hh.unheld k hk, ho.carried k hk⟩ }

/-! ## The journal's operations (R11 to R15) -/

section
variable {s t : State}

theorem slotCount_congr (h : t.journal.geometry = s.journal.geometry) : t.slotCount = s.slotCount := by
  simp only [State.slotCount, h]

theorem totalReserved_congr (h : t.journal.reserved = s.journal.reserved) : t.totalReserved = s.totalReserved := by
  simp only [State.totalReserved, h]

theorem counting_of_ready (h : s.journal.state = .ready) : s.counting = true := (counting_iff s).mpr (.inl h)

/-- Short of the last sequence an allocation raises the head by 1 and takes the record from the context's reserve. -/
theorem journal_allocate (k : Requester) (h : s.journal.head ≠ lastSequence) : (allocate k s).journal =
    { s.journal with head := s.journal.head + 1, reserved := s.journal.reserved.set k (s.journal.reserved[k] - 1) } := by
  rw [allocate_eq k h]

theorem toNat_succ_of_notLast {q : Seq} (h : q ≠ lastSequence) : (q + 1).toNat = q.toNat + 1 := by
  rw [show lastSequence = 0xFFFFFFFFFFFFFFFF#64 from rfl] at h
  bv_omega

theorem lt_succ_of_notLast {q : Seq} (h : q ≠ lastSequence) : q < q + 1 := by
  have hsucc := toNat_succ_of_notLast h
  bv_omega

/-- An allocation of a reserved slot leaves used plus reserved as it was (R13, R15). -/
theorem used_add_reserved_allocate {k : Requester} (hlast : s.journal.head ≠ lastSequence)
    (hcounting : s.counting = true) (htail : s.journal.tail ≤ s.journal.head) (hreserved : 0 < s.journal.reserved[k]) :
    (allocate k s).used + (allocate k s).totalReserved = s.used + s.totalReserved := by
  have hjournal := journal_allocate k hlast
  have hstate : (allocate k s).counting = true := (counting_congr (by rw [hjournal])).trans hcounting
  have hsucc := toNat_succ_of_notLast hlast
  have hrise := lt_succ_of_notLast hlast
  have htail' : (allocate k s).journal.tail ≤ (allocate k s).journal.head := by
    rw [hjournal]
    exact BitVec.le_trans htail (BitVec.le_of_lt hrise)
  rw [used_of_counting hstate htail', used_of_counting hcounting htail, State.totalReserved, State.totalReserved, hjournal]
  dsimp only
  have hsum := sum_toList_set s.journal.reserved k (s.journal.reserved[k] - 1)
  have hle : s.journal.tail.toNat ≤ s.journal.head.toNat := htail
  omega

theorem used_le_of_tail (hcounting : s.counting = true) (hstate : t.journal.state = s.journal.state)
    (hhead : t.journal.head = s.journal.head) (htail : s.journal.tail ≤ t.journal.tail)
    (hle : t.journal.tail ≤ t.journal.head) : t.used ≤ s.used := by
  have htotal : s.journal.tail ≤ s.journal.head := by
    rw [← hhead]
    exact BitVec.le_trans htail hle
  rw [used_of_counting ((counting_congr hstate).trans hcounting) hle, used_of_counting hcounting htotal, hhead]
  have hnat : s.journal.tail.toNat ≤ t.journal.tail.toNat := htail
  omega

theorem claim_keepsSpace {k : Requester} {n : Nat} (hclaim : s.canClaim n = true)
    (hspace : s.used + s.totalReserved ≤ s.slotCount) :
    (claim k n s).used + (claim k n s).totalReserved ≤ s.slotCount := by
  obtain ⟨hready, hfree⟩ := (canClaim_iff s n).mp hclaim
  rw [State.free, if_pos (counting_of_ready hready)] at hfree
  rw [claim_used, claim_totalReserved]
  omega

theorem journal_recomputeTail (s : State) :
    (recomputeTail s).journal = { s.journal with tail := s.liveTail } := by
  simp only [recomputeTail, lowTest_frame]

end

/-- The first half of O49: the claim, the allocation and the recomputed live tail keep used plus reserved within S. -/
theorem operations_keepSpace (s : State) (g : Geometry) (k : Requester) (n : Nat) (hgeometry : s.journal.geometry = some g)
    (hready : s.journal.state = .ready) (htail : s.journal.tail ≤ s.journal.head)
    (hspace : s.used + s.totalReserved ≤ g.slots) :
    (s.canClaim n = true → (claim k n s).used + (claim k n s).totalReserved ≤ g.slots) ∧
    (0 < s.journal.reserved[k] → s.journal.head ≠ 0xFFFFFFFFFFFFFFFF#64 →
      (allocate k s).used + (allocate k s).totalReserved = s.used + s.totalReserved ∧ (allocate k s).free = s.free) ∧
    (s.journal.tail ≤ s.liveTail → s.liveTail ≤ s.journal.head →
      (recomputeTail s).journal.tail = s.liveTail ∧ (recomputeTail s).used ≤ s.used ∧
      (recomputeTail s).used + (recomputeTail s).totalReserved ≤ g.slots) := by
  have hslots : s.slotCount = g.slots := by simp only [State.slotCount, hgeometry]
  have hcounting := counting_of_ready hready
  refine ⟨fun hclaim => ?_, fun hreserved hlast => ?_, fun hlow hhigh => ?_⟩
  · rw [← hslots] at hspace ⊢
    exact claim_keepsSpace hclaim hspace
  · have hsum := used_add_reserved_allocate hlast hcounting htail hreserved
    have hjournal := journal_allocate k hlast
    have hcounting' : (allocate k s).counting = true := (counting_congr (by rw [hjournal])).trans hcounting
    have hslots' : (allocate k s).slotCount = s.slotCount := slotCount_congr (by rw [hjournal])
    refine ⟨hsum, ?_⟩
    rw [State.free, State.free, if_pos hcounting, if_pos hcounting', hslots']
    omega
  · have hjournal := journal_recomputeTail s
    have hused : (recomputeTail s).used ≤ s.used :=
      used_le_of_tail hcounting (by rw [hjournal]) (by rw [hjournal]) (by rw [hjournal]; exact hlow)
        (by rw [hjournal]; exact hhigh)
    refine ⟨by rw [hjournal], hused, ?_⟩
    rw [totalReserved_congr (t := recomputeTail s) (s := s) (by rw [hjournal])]
    omega

end Sys2Proof.Machine

/-! PROOF. The journal's laws over its operations: claims, allocations, closed epochs, formats. -/

namespace Sys2Proof.Machine

/-- The two states' contexts agree on what the journal's laws read. -/
def SameStanding (s t : State) : Prop :=
  ∀ k : Fin 4, (t.contexts[k].state = .closed ↔ s.contexts[k].state = .closed) ∧
    t.contexts[k].openWritten = s.contexts[k].openWritten ∧ t.contexts[k].epoch = s.contexts[k].epoch

theorem SameStanding.of_eq {s t : State} (h : t.contexts = s.contexts) : SameStanding s t := fun k => by
  rw [h]
  exact ⟨Iff.rfl, rfl, rfl⟩

theorem SameStanding.live {s t : State} (h : SameStanding s t) (k : Fin 4) : t.contexts[k].live = s.contexts[k].live := by
  obtain ⟨hclosed, hwritten, -⟩ := h k
  rw [Bool.eq_iff_iff, live_iff, live_iff, hwritten, ne_eq, hclosed]

theorem getElem_updContext (k l : Fin 4) (f : Context → Context) (s : State) :
    (updContext k f s).contexts[l] = if l = k then f s.contexts[k] else s.contexts[l] := by
  by_cases hl : l = k
  · subst hl
    simp [updContext]
  · have hne : (k : Nat) ≠ l := fun hv => hl (Fin.ext hv.symm)
    simp [updContext, Vector.getElem_set_ne, hne, hl]

/-- A change of a context that leaves its standing. -/
theorem SameStanding.updContext (k : Requester) {f : Context → Context} {s : State}
    (hclosed : (f s.contexts[k]).state = .closed ↔ s.contexts[k].state = .closed)
    (hwritten : (f s.contexts[k]).openWritten = s.contexts[k].openWritten)
    (hepoch : (f s.contexts[k]).epoch = s.contexts[k].epoch) : SameStanding s (updContext k f s) := fun l => by
  rw [getElem_updContext]
  by_cases hl : l = k
  · subst hl
    rw [if_pos rfl]
    exact ⟨hclosed, hwritten, hepoch⟩
  · rw [if_neg hl]
    exact ⟨Iff.rfl, rfl, rfl⟩

theorem live_of_open {s : State} {k : Fin 4} (h : s.contexts[k].state ≠ .closed) (hwritten : s.contexts[k].openWritten = true) :
    s.contexts[k].live = true := (live_iff _).mpr ⟨h, hwritten⟩

section
variable {s t : State} (h : s.JournalLaws)
include h

theorem State.JournalLaws.ready_of_open {k : Fin 4} (hopen : s.contexts[k].state ≠ .closed) : s.journal.state = .ready := by
  by_contra hready
  exact hopen (h.ready hready k)

/-- Nothing of the journal moves, and the contexts keep their standing. -/
theorem State.JournalLaws.congr (hbase : t.cwb = s.cwb)
    (hdev : t.device = .scan ∨ t.device = .playback → s.device = .scan ∨ s.device = .playback)
    (hjournal : t.journal = s.journal) (hcontexts : SameStanding s t) : t.JournalLaws := by
  have hcounting : t.counting = s.counting := counting_congr (by rw [hjournal])
  have hwindow : t.windowBase = s.windowBase := by simp only [State.windowBase, hbase]
  refine ⟨fun g hg => ?_, fun hd => ?_, fun hr k => ?_, fun hr hnone => ?_, fun hc => ?_, fun k hk => ?_⟩
  · rw [hwindow]
    exact h.ring g (hjournal ▸ hg)
  · rw [hjournal]
    refine h.ringHeld ?_
    rcases hd with hd | hd | hd
    · exact (hdev (.inl hd)).imp_right .inl
    · exact (hdev (.inr hd)).imp_right .inl
    · exact .inr (.inr (hcounting ▸ hd))
  · exact (hcontexts k).1.mpr (h.ready (hjournal ▸ hr) k)
  · rw [hjournal]
    exact h.tailAtHead (hjournal ▸ hr) fun k => hcontexts.live k ▸ hnone k
  · have hspace := h.space (hcounting ▸ hc)
    rw [used_congr (s := s) (by rw [hjournal]) (by rw [hjournal]) (by rw [hjournal]),
      totalReserved_congr (s := s) (by rw [hjournal]), slotCount_congr (s := s) (by rw [hjournal]), hjournal]
    exact hspace
  · rw [(hcontexts k).2.2, hjournal]
    exact h.epoch k (hcontexts.live k ▸ hk)

/-- A claim that succeeds (R11, R12). -/
theorem State.JournalLaws.claims {k : Requester} {n : Nat} (hclaim : s.canClaim n = true) (hbase : t.cwb = s.cwb)
    (hjournal : t.journal = (claim k n s).journal)
    (hlive : ∀ l : Fin 4, t.contexts[l].live = s.contexts[l].live ∧
      (s.contexts[l].live = true → t.contexts[l].epoch = s.contexts[l].epoch)) : t.JournalLaws := by
  obtain ⟨hready, -⟩ := (canClaim_iff s n).mp hclaim
  obtain ⟨htail, hspace⟩ := h.space (counting_of_ready hready)
  have hclaimed := claim_journal k n s
  have hready' : t.journal.state = .ready := by rw [hjournal, hclaimed]; exact hready
  have hgeometry : t.journal.geometry = s.journal.geometry := by rw [hjournal, hclaimed]
  have hends : t.journal.head = s.journal.head ∧ t.journal.tail = s.journal.tail := by
    rw [hjournal, hclaimed]
    exact ⟨rfl, rfl⟩
  have hwindow : t.windowBase = s.windowBase := by simp only [State.windowBase, hbase]
  refine ⟨fun g hg => ?_, fun _ => ?_, fun hr => absurd hready' hr, fun _ hnone => ?_, fun _ => ?_, fun l hl => ?_⟩
  · rw [hwindow]
    exact h.ring g (hgeometry ▸ hg)
  · rw [hgeometry]
    exact h.ringHeld (.inr (.inr (counting_of_ready hready)))
  · rw [hends.1, hends.2]
    exact h.tailAtHead (by simp [hready]) fun l => (hlive l).1 ▸ hnone l
  · rw [hends.1, hends.2, used_congr (s := claim k n s) (by rw [hjournal]) (by rw [hjournal]) (by rw [hjournal]),
      totalReserved_congr (s := claim k n s) (by rw [hjournal]), slotCount_congr hgeometry]
    exact ⟨htail, claim_keepsSpace hclaim hspace⟩
  · obtain ⟨hsame, hepoch⟩ := hlive l
    rw [hepoch (hsame ▸ hl), hends.1, hends.2]
    exact h.epoch l (hsame ▸ hl)

/-- An allocation for a context that is not CLOSED, whose epoch is live after it (R13, R25). -/
theorem State.JournalLaws.allocates {k : Requester} (hlast : s.journal.head ≠ lastSequence)
    (hopen : s.contexts[k].state ≠ .closed) (hreserved : 0 < s.journal.reserved[k]) (hbase : t.cwb = s.cwb)
    (hjournal : t.journal = (allocate k s).journal) (hlive : t.contexts[k].live = true)
    (hepoch : ∀ l : Fin 4, t.contexts[l].live = true →
      (s.contexts[l].live = true ∧ t.contexts[l].epoch = s.contexts[l].epoch) ∨
        t.contexts[l].epoch = some s.journal.head) : t.JournalLaws := by
  have hready := h.ready_of_open hopen
  have hcounting := counting_of_ready hready
  obtain ⟨htail, hspace⟩ := h.space hcounting
  have hallocated := journal_allocate k hlast
  have hrise := lt_succ_of_notLast hlast
  have hready' : t.journal.state = .ready := by rw [hjournal, hallocated]; exact hready
  have hgeometry : t.journal.geometry = s.journal.geometry := by rw [hjournal, hallocated]
  have hends : t.journal.head = s.journal.head + 1 ∧ t.journal.tail = s.journal.tail := by
    rw [hjournal, hallocated]
    exact ⟨rfl, rfl⟩
  have hwindow : t.windowBase = s.windowBase := by simp only [State.windowBase, hbase]
  refine ⟨fun g hg => ?_, fun _ => ?_, fun hr => absurd hready' hr, fun _ hnone => ?_, fun _ => ?_, fun l hl => ?_⟩
  · rw [hwindow]
    exact h.ring g (hgeometry ▸ hg)
  · rw [hgeometry]
    exact h.ringHeld (.inr (.inr hcounting))
  · exact absurd hlive (Bool.eq_false_iff.mp (hnone k))
  · rw [hends.1, hends.2, used_congr (s := allocate k s) (by rw [hjournal]) (by rw [hjournal]) (by rw [hjournal]),
      totalReserved_congr (s := allocate k s) (by rw [hjournal]), slotCount_congr hgeometry,
      used_add_reserved_allocate hlast hcounting htail hreserved]
    exact ⟨BitVec.le_trans htail (BitVec.le_of_lt hrise), hspace⟩
  · rw [hends.1, hends.2]
    rcases hepoch l hl with ⟨hwas, hsame⟩ | hnew
    · obtain ⟨q, hq, hlow, hhigh⟩ := h.epoch l hwas
      exact ⟨q, hsame.trans hq, hlow, BitVec.lt_trans hhigh hrise⟩
    · exact ⟨s.journal.head, hnew, htail, hrise⟩

/-- The live tail recomputed over fewer live epochs lies between the old tail and the head (R14). -/
theorem State.JournalLaws.liveTail_between (hcounting : s.counting = true) (hhead : t.journal.head = s.journal.head)
    (hlive : ∀ l : Fin 4, t.contexts[l].live = true →
      s.contexts[l].live = true ∧ t.contexts[l].epoch = s.contexts[l].epoch) :
    s.journal.tail ≤ t.liveTail ∧ t.liveTail ≤ s.journal.head := by
  obtain ⟨htail, -⟩ := h.space hcounting
  by_cases hnone : ∀ q, q ∉ t.liveSequences
  · rw [liveTail_of_none hnone, hhead]
    exact ⟨htail, BitVec.le_refl _⟩
  · push Not at hnone
    obtain ⟨q, hq⟩ := hnone
    obtain ⟨l, hl, hepoch⟩ := mem_liveSequences.mp (liveTail_mem hq)
    obtain ⟨hwas, hsame⟩ := hlive l hl
    obtain ⟨p, hp, hlow, hhigh⟩ := h.epoch l hwas
    have heq : t.liveTail = p := Option.some.inj (hepoch.symm.trans (hsame.trans hp))
    rw [heq]
    exact ⟨hlow, BitVec.le_of_lt hhigh⟩

/-- An epoch ends, and the live tail is recomputed (R14, R28, R30). -/
theorem State.JournalLaws.closes (hready : s.journal.state = .ready) (hbase : t.cwb = s.cwb)
    (hjournal : t.journal = { s.journal with tail := t.liveTail })
    (hlive : ∀ l : Fin 4, t.contexts[l].live = true →
      s.contexts[l].live = true ∧ t.contexts[l].epoch = s.contexts[l].epoch) : t.JournalLaws := by
  have hcounting := counting_of_ready hready
  obtain ⟨htail, hspace⟩ := h.space hcounting
  have hready' : t.journal.state = .ready := by rw [hjournal]; exact hready
  have hgeometry : t.journal.geometry = s.journal.geometry := by rw [hjournal]
  have hhead : t.journal.head = s.journal.head := by rw [hjournal]
  have htail' : t.journal.tail = t.liveTail := congrArg (·.tail) hjournal
  obtain ⟨hlow, hhigh⟩ := h.liveTail_between hcounting hhead hlive
  have hwindow : t.windowBase = s.windowBase := by simp only [State.windowBase, hbase]
  refine ⟨fun g hg => ?_, fun _ => ?_, fun hr => absurd hready' hr, fun _ hnone => ?_, fun _ => ?_, fun l hl => ?_⟩
  · rw [hwindow]
    exact h.ring g (hgeometry ▸ hg)
  · rw [hgeometry]
    exact h.ringHeld (.inr (.inr hcounting))
  · rw [htail']
    refine liveTail_of_none fun q hq => ?_
    obtain ⟨l, hl, -⟩ := mem_liveSequences.mp hq
    exact Bool.eq_false_iff.mp (hnone l) hl
  · have hused : t.used ≤ s.used := used_le_of_tail hcounting (by rw [hjournal]) hhead (by rw [htail']; exact hlow)
      (by rw [htail', hhead]; exact hhigh)
    rw [htail', hhead, totalReserved_congr (t := t) (s := s) (by rw [hjournal]), slotCount_congr hgeometry]
    exact ⟨hhigh, by omega⟩
  · obtain ⟨hwas, hsame⟩ := hlive l hl
    obtain ⟨q, hq, -, hhigh'⟩ := h.epoch l hwas
    have hepoch : t.contexts[l].epoch = some q := hsame.trans hq
    rw [htail', hhead]
    exact ⟨q, hepoch, liveTail_le (mem_liveSequences.mpr ⟨l, hl, hepoch⟩), hhigh'⟩

end

/-- A journal that every context stands CLOSED to, with tail and head equal and nothing reserved: the reads of READY and
FORMATTING find used 0. -/
theorem journalLaws_of_allClosed {t : State} (hclosed : ∀ k : Fin 4, t.contexts[k].state = .closed)
    (hring : ∀ g, t.journal.geometry = some g → g.placed t.windowBase = true)
    (hheld : t.device = .scan ∨ t.device = .playback ∨ t.counting = true → t.journal.geometry.isSome = true)
    (hends : t.journal.state ≠ .recovering → t.journal.tail = t.journal.head) (htotal : t.totalReserved = 0) :
    t.JournalLaws := by
  have hnotLive (k : Fin 4) : t.contexts[k].live = false :=
    Bool.eq_false_iff.mpr fun hl => ((live_iff _).mp hl).1 (hclosed k)
  refine ⟨hring, hheld, fun _ => hclosed, fun hr _ => hends hr, fun hcounting => ?_, fun k hk => ?_⟩
  · have hnot : t.journal.state ≠ .recovering := by
      rcases (counting_iff t).mp hcounting with hs | hs <;> simp [hs]
    have heq := hends hnot
    have hle : t.journal.tail ≤ t.journal.head := heq ▸ BitVec.le_refl _
    rw [used_of_counting hcounting hle, heq, htotal]
    exact ⟨BitVec.le_refl _, by omega⟩
  · exact absurd hk (Bool.eq_false_iff.mp (hnotLive k))

end Sys2Proof.Machine

/-! PROOF. The laws of the contexts, the queue, the held lines and the unit: what leaves them as they are. -/

namespace Sys2Proof.Machine

/-! ## The head job, and what of the unit is issued -/

theorem headJobOf_iff (s : State) (k : Requester) : s.headJobOf k = true ↔ ∃ j rest, s.jobs = j :: rest ∧ j.owner = .slot k := by
  unfold State.headJobOf
  cases hjobs : s.jobs with
  | nil => simp
  | cons j rest => simp

theorem headJobOf_congr {s t : State} (h : t.jobs = s.jobs) (k : Requester) : t.headJobOf k = s.headJobOf k := by
  simp only [State.headJobOf, h]

/-- A status job placed at the end makes no slot's job the oldest. -/
theorem Raised.headJobOf {s t : State} (h : Raised s t) (k : Requester) : t.headJobOf k = s.headJobOf k := by
  rcases h.jobs_eq with hjobs | ⟨hjobs, -⟩
  · exact headJobOf_congr hjobs k
  · unfold State.headJobOf
    rw [hjobs]
    cases s.jobs with
    | nil => simp [statusJob]
    | cons j rest => rfl

theorem markerIssued_iff (s : State) (k : Requester) : s.markerIssued k = true ↔
    s.engineOut = true ∧ s.headJobOf k = true ∧
      (s.engine.work = some (.write .commitMarker) ∨ s.engine.work = some (.write .abortedMarker)) := by
  simp [State.markerIssued, and_assoc]

theorem openIssued_iff (s : State) (k : Requester) : s.openIssued k = true ↔
    s.engineOut = true ∧ s.headJobOf k = true ∧ s.engine.work = some (.write .openRecord) := by
  simp [State.openIssued, and_assoc]

/-- The two states' markers and OPEN records are issued alike. -/
def SameIssued (s t : State) : Prop :=
  ∀ k : Requester, t.markerIssued k = s.markerIssued k ∧ t.openIssued k = s.openIssued k

theorem SameIssued.of_eq {s t : State} (hout : t.engineOut = s.engineOut) (hhead : ∀ k, t.headJobOf k = s.headJobOf k)
    (hwork : t.engine.work = s.engine.work) : SameIssued s t := fun k => by
  simp only [State.markerIssued, State.openIssued, hout, hhead k, hwork]
  exact ⟨trivial, trivial⟩

/-- No record of a context's own is being written by the unit. -/
def WorkUnit.isRecord (w : WorkUnit) : Prop :=
  w = .write .openRecord ∨ w = .write .commitMarker ∨ w = .write .abortedMarker

theorem notIssued_of_notOut {s : State} (h : s.engineOut = false) (k : Requester) :
    s.markerIssued k = false ∧ s.openIssued k = false := by
  simp [State.markerIssued, State.openIssued, h]

theorem notIssued_of_work {s : State} (h : ∀ w, s.engine.work = some w → ¬ w.isRecord) (k : Requester) :
    s.markerIssued k = false ∧ s.openIssued k = false := by
  rw [← Bool.not_eq_true, ← Bool.not_eq_true, markerIssued_iff, openIssued_iff]
  refine ⟨?_, ?_⟩
  · rintro ⟨-, -, hwork | hwork⟩
    · exact h _ hwork (.inr (.inl rfl))
    · exact h _ hwork (.inr (.inr rfl))
  · rintro ⟨-, -, hwork⟩
    exact h _ hwork (.inl rfl)

/-- The states before and after both have nothing of a context issued. -/
theorem SameIssued.none {s t : State} (hs : s.engineOut = false ∨ ∀ w, s.engine.work = some w → ¬ w.isRecord)
    (ht : t.engineOut = false ∨ ∀ w, t.engine.work = some w → ¬ w.isRecord) : SameIssued s t := fun k => by
  have hs' := hs.elim (notIssued_of_notOut · k) (notIssued_of_work · k)
  have ht' := ht.elim (notIssued_of_notOut · k) (notIssued_of_work · k)
  exact ⟨ht'.1.trans hs'.1.symm, ht'.2.trans hs'.2.symm⟩

/-! ## What a change leaves of the laws -/

/-- No context holds more lines than before, and each as many without a record. -/
def SameHolding (s t : State) : Prop :=
  ∀ k : Requester, t.heldCount k ≤ s.heldCount k ∧
    (t.held.filter fun h => h.holder == k && h.unallocated).length =
      (s.held.filter fun h => h.holder == k && h.unallocated).length

theorem SameHolding.of_eq {s t : State} (h : t.held = s.held) : SameHolding s t := fun k => by
  simp only [State.heldCount, h]
  exact ⟨le_rfl, trivial⟩

/-- The two states' contexts agree on all that the laws read. -/
def SameTerms (s t : State) : Prop :=
  ∀ k : Fin 4, t.contexts[k].state = s.contexts[k].state ∧ t.contexts[k].openOwed = s.contexts[k].openOwed ∧
    t.contexts[k].lineLimit = s.contexts[k].lineLimit ∧ t.contexts[k].openWritten = s.contexts[k].openWritten ∧
    t.contexts[k].epoch = s.contexts[k].epoch

theorem SameTerms.of_eq {s t : State} (h : t.contexts = s.contexts) : SameTerms s t := fun k => by
  rw [h]
  exact ⟨rfl, rfl, rfl, rfl, rfl⟩

theorem SameTerms.standing {s t : State} (h : SameTerms s t) : SameStanding s t := fun k => by
  obtain ⟨hstate, -, -, hwritten, hepoch⟩ := h k
  exact ⟨by rw [hstate], hwritten, hepoch⟩

theorem SameTerms.closed {s t : State} (h : SameTerms s t) (k : Fin 4) (hk : t.contexts[k].state = .closed) :
    s.contexts[k].state = .closed := (h k).1.symm.trans hk

/-- The two states' slots owe the same records. -/
structure SameOwes (s t : State) : Prop where
  openRecord : ∀ k : Requester, t.owesOpen k ↔ s.owesOpen k
  commitMarker : ∀ k : Requester, t.owesCommit k ↔ s.owesCommit k
  abort : ∀ k : Requester, t.owesAbort k ↔ s.owesAbort k

theorem SameOwes.of_eq {s t : State} (hqueue : t.queue.entries = s.queue.entries) (hslots : SameSlots s t)
    (hjobs : SameSlotJobs s t) : SameOwes s t :=
  ⟨fun k => owes_congr hqueue hslots hjobs k _ _, fun k => owes_congr hqueue hslots hjobs k _ _,
    fun k => owes_congr hqueue hslots hjobs k _ _⟩

section
variable {s t : State}

theorem State.ReserveLaws.congr (h : s.ReserveLaws) (hdev : t.device = .run → s.device = .run)
    (hreserved : t.journal.reserved = s.journal.reserved) (hterms : SameTerms s t) (hheld : SameHolding s t)
    (hissued : t.device = .run → SameIssued s t) : t.ReserveLaws := by
  refine ⟨fun k hk => ?_, fun hd k hk => ?_, fun k hk => ?_, fun k hk => ?_, fun k hk howed => ?_⟩ <;>
    obtain ⟨hstate, howed', hlimit, hwritten, -⟩ := hterms k
  · rw [hreserved]
    exact h.unreserved k (hstate ▸ hk)
  · rw [hreserved, hwritten, (hheld k).2, (hissued hd k).1]
    exact h.balance (hdev hd) k (hstate ▸ hk)
  · rw [hlimit]
    exact (hheld k).1.trans (h.limit k (hstate ▸ hk))
  · obtain ⟨hopen, hwritten'⟩ := h.opened k (howed' ▸ hk)
    rw [hstate, hwritten]
    exact ⟨hopen, fun hd => (hwritten' (hdev hd)).trans (hissued hd k).2.symm⟩
  · rw [hwritten]
    exact h.written k (hstate ▸ hk) (howed' ▸ howed)

theorem State.CommandLaws.congr (h : s.CommandLaws) (howes : SameOwes s t)
    (hcontexts : ∀ k : Fin 4, t.contexts[k].openOwed = s.contexts[k].openOwed ∧
      (t.contexts[k].state = .closing ↔ s.contexts[k].state = .closing) ∧
      (t.contexts[k].state = .aborting ↔ s.contexts[k].state = .aborting)) : t.CommandLaws := by
  refine ⟨fun k => ?_, fun k => ?_, fun k => ?_⟩ <;> obtain ⟨howed, hclosing, haborting⟩ := hcontexts k
  · rw [howed, howes.openRecord k]
    exact h.opening k
  · rw [hclosing, howes.commitMarker k]
    exact h.closing k
  · rw [haborting, howes.abort k]
    exact h.aborting k

theorem State.OrderLaws.congr (h : s.OrderLaws) (hqueue : t.queue.entries = s.queue.entries) (hslots : SameSlots s t)
    (hjobs : SameSlotJobs s t) (hclosed : ∀ k : Fin 4, t.contexts[k].state = .closed → s.contexts[k].state = .closed) :
    t.OrderLaws := by
  refine ⟨fun before e after he hclose htaken => ?_, fun k j hj howner hnext => ?_, fun k hk => ?_⟩
  · unfold State.takenInSlot at htaken
    rw [(hslots e.requester).2] at htaken
    exact h.endsLast before e after (hqueue ▸ he) hclose htaken
  · rw [hqueue]
    exact h.landed k j ((hjobs j (by simp [howner])).mp hj) howner hnext
  · rw [hqueue]
    exact h.carried k (hclosed k hk)

theorem State.HeldLaws.congr (h : s.HeldLaws) (hheld : t.held = s.held) (hqueue : t.queue.entries = s.queue.entries)
    (hwork : t.engine.work = s.engine.work) (hhead : ∀ k, t.headJobOf k = s.headJobOf k) (hjobs : SameSlotJobs s t)
    (hclosed : ∀ k : Fin 4, t.contexts[k].state = .closed → s.contexts[k].state = .closed) : t.HeldLaws := by
  have hsame {k : Requester} (hj : ∃ j ∈ t.jobs, j.owner = .slot k ∧ j.next = .abortedMarker) :
      ∃ j ∈ s.jobs, j.owner = .slot k ∧ j.next = .abortedMarker := by
    obtain ⟨j, hj, howner, hnext⟩ := hj
    exact ⟨j, (hjobs j (by simp [howner])).mp hj, howner, hnext⟩
  refine ⟨fun k hk => ?_, ?_, ?_, ?_, ?_, ?_, ?_, fun k hk => ?_⟩
  · rw [hheld]
    exact h.unheld k (hclosed k hk)
  · rw [hheld, hqueue, hwork]
    exact h.captures
  · rw [hheld, hqueue]
    exact h.capturing
  · rw [hqueue]
    exact h.captureOnce
  · rw [hheld]
    exact h.recorded
  · simp only [hheld, hhead, hwork]
    exact h.restoring
  · simp only [hheld, hhead, hwork]
    exact h.restoreLine
  · rw [hheld]
    rw [hhead, hwork] at hk
    exact h.restored k (hk.imp_right hsame)

theorem State.UnitLaws.congr (h : s.UnitLaws) (hwork : t.engine.work = s.engine.work)
    (hqueue : t.queue.entries = s.queue.entries)
    (howed : ∀ k : Fin 4, s.contexts[k].openOwed = false → t.contexts[k].openOwed = false)
    (hout : t.device = .run → s.device = .run ∧ t.engineOut = s.engineOut) : t.UnitLaws := by
  refine ⟨fun step hstep => ?_, fun hd => ?_, fun hd => ?_⟩
  · obtain ⟨e, rest, he, hcls, hbegun⟩ := h.begun step (hwork ▸ hstep)
    exact ⟨e, rest, hqueue ▸ he, hcls, fun k hk => howed k (hbegun k hk)⟩
  · rw [hwork, (hout hd).2]
    exact h.recordIssued (hout hd).1
  · rw [hwork, (hout hd).2]
    exact h.freeIssued (hout hd).1

/-- Nothing but raises, or the device stops: the laws read none of it. -/
theorem State.Laws.frame (h : s.Laws) (hraised : Raised s t) (hbase : t.cwb = s.cwb)
    (hdev : t.device = .stopped ∨ (t.device = s.device ∧ t.engineOut = s.engineOut)) (hjournal : t.journal = s.journal)
    (hcontexts : t.contexts = s.contexts) (hheld : t.held = s.held) (hqueue : t.queue.entries = s.queue.entries)
    (hwork : t.engine.work = s.engine.work) (hslots : SameSlots s t) : t.Laws := by
  have hrun (hd : t.device = .run) : s.device = .run ∧ t.engineOut = s.engineOut := by
    rcases hdev with hstop | ⟨hsame, hout⟩
    · simp [hstop] at hd
    · exact ⟨hsame ▸ hd, hout⟩
  refine ⟨h.journal.congr hbase (fun hd => ?_) hjournal (.of_eq hcontexts),
    h.reserve.congr (fun hd => (hrun hd).1) (by rw [hjournal]) (.of_eq hcontexts) (.of_eq hheld)
      fun hd => .of_eq (hrun hd).2 hraised.headJobOf hwork,
    h.command.congr (.of_eq hqueue hslots hraised.sameSlotJobs) fun k => by rw [hcontexts]; exact ⟨rfl, Iff.rfl, Iff.rfl⟩,
    h.order.congr hqueue hslots hraised.sameSlotJobs (by rw [hcontexts]; exact fun _ => id),
    h.held.congr hheld hqueue hwork hraised.headJobOf hraised.sameSlotJobs (by rw [hcontexts]; exact fun _ => id),
    h.unit.congr hwork hqueue (by rw [hcontexts]; exact fun _ => id) hrun⟩
  rcases hdev with hstop | ⟨hsame, -⟩
  · simp [hstop] at hd
  · rwa [hsame] at hd

end

end Sys2Proof.Machine

/-! PROOF. The laws over the choice of the next unit (R68, R78). -/

namespace Sys2Proof.Machine

section
variable {s t : State}

/-- The held entries are updated one by one, and keep their lines and holders; the unit moves. -/
theorem State.HeldLaws.maps (h : s.HeldLaws) {g : HeldEntry → HeldEntry} (hheld : t.held = s.held.map g)
    (hg : ∀ x, (g x).line = x.line ∧ (g x).holder = x.holder) (hqueue : t.queue.entries = s.queue.entries)
    (hhead : ∀ k, t.headJobOf k = s.headJobOf k) (hjobs : SameSlotJobs s t)
    (hclosed : ∀ k : Fin 4, t.contexts[k].state = .closed → s.contexts[k].state = .closed)
    (hagrees : ∀ before e after, s.queue.entries = before ++ e :: after → e.cls = .capture → ∀ x ∈ s.held,
      x.line = e.line → e.context = some x.holder → x.agrees (if before = [] then s.engine.work else none) →
        (g x).agrees (if before = [] then t.engine.work else none))
    (hcapturing : ∀ x ∈ s.held, (g x).state = .capturing → x.state = .capturing)
    (hrecorded : ∀ x ∈ s.held, (g x).state ≠ .capturing → (g x).record.isSome = true)
    (hrestoring : ∀ x ∈ s.held, (g x).state = .restoring → s.headJobOf x.holder = true ∧
      ∃ q phase, t.engine.work = some (.restore x.line q phase))
    (hline : ∀ line q phase, t.engine.work = some (.restore line q phase) →
      ∃ x ∈ s.held, x.line = line ∧ s.headJobOf x.holder = true)
    (hmarker : ∀ k, s.headJobOf k = true → t.engine.work = some (.write .abortedMarker) → ∀ x ∈ s.held, x.holder ≠ k) :
    t.HeldLaws := by
  have hmem {P : HeldEntry → Prop} (hP : ∀ x ∈ s.held, P (g x)) : ∀ x ∈ t.held, P x := by
    rw [hheld]
    exact List.forall_mem_map.mpr hP
  refine ⟨fun k hk => hmem fun x hx => ?_, fun before e after he hcls => ?_, hmem fun x hx hxs => ?_, ?_,
    hmem hrecorded, hmem fun x hx hxs => ?_, fun line q phase hw => ?_, fun k hk => hmem fun x hx => ?_⟩
  · rw [(hg x).2]
    exact h.unheld k (hclosed k hk) x hx
  · rw [hqueue] at he
    obtain ⟨k, hk, x, hx, hxline, rfl, hxagrees⟩ := h.captures before e after he hcls
    exact ⟨_, hk, g x, by rw [hheld]; exact List.mem_map_of_mem hx, (hg x).1.trans hxline, (hg x).2,
      hagrees before e after he hcls x hx hxline hk hxagrees⟩
  · rw [hqueue, (hg x).1, (hg x).2]
    exact h.capturing x hx (hcapturing x hx hxs)
  · rw [hqueue]
    exact h.captureOnce
  · rw [(hg x).1, (hg x).2, hhead]
    exact hrestoring x hx hxs
  · obtain ⟨x, hx, hxline, hxk⟩ := hline line q phase hw
    exact ⟨g x, by rw [hheld]; exact List.mem_map_of_mem hx, (hg x).1.trans hxline, by rw [(hg x).2, hhead]; exact hxk⟩
  · rw [(hg x).2]
    rcases hk with ⟨hk, hw⟩ | ⟨j, hj, howner, hnext⟩
    · exact hmarker k ((hhead k).symm.trans hk) hw x hx
    · exact h.restored k (.inr ⟨j, (hjobs j (by simp [howner])).mp hj, howner, hnext⟩) x hx

/-- The unit moves, and the held lines, the queue and the jobs stay. -/
theorem State.HeldLaws.works (h : s.HeldLaws) (hheld : t.held = s.held) (hqueue : t.queue.entries = s.queue.entries)
    (hhead : ∀ k, t.headJobOf k = s.headJobOf k) (hjobs : SameSlotJobs s t)
    (hclosed : ∀ k : Fin 4, t.contexts[k].state = .closed → s.contexts[k].state = .closed)
    (hagrees : ∀ e rest, s.queue.entries = e :: rest → e.cls = .capture → ∀ x ∈ s.held,
      x.agrees s.engine.work → x.agrees t.engine.work)
    (hrestoring : ∀ x ∈ s.held, x.state = .restoring → ∃ q phase, t.engine.work = some (.restore x.line q phase))
    (hline : ∀ line q phase, t.engine.work = some (.restore line q phase) →
      ∃ x ∈ s.held, x.line = line ∧ s.headJobOf x.holder = true)
    (hmarker : ∀ k, s.headJobOf k = true → t.engine.work = some (.write .abortedMarker) → ∀ x ∈ s.held, x.holder ≠ k) :
    t.HeldLaws := by
  refine h.maps (g := id) (by simp [hheld]) (fun _ => ⟨rfl, rfl⟩) hqueue hhead hjobs hclosed
    (fun before e after he hcls x hx _ _ hxagrees => ?_) (fun _ _ => id) h.recorded
    (fun x hx hxs => ⟨(h.restoring x hx hxs).1, hrestoring x hx hxs⟩) hline hmarker
  by_cases hb : before = []
  · subst hb
    exact hagrees e after he hcls x hx hxagrees
  · rw [if_neg hb] at hxagrees ⊢
    exact hxagrees

/-- No line is RESTORING unless the restore of a line is in progress. -/
theorem State.HeldLaws.noneRestoring (h : s.HeldLaws) (hwork : ∀ line q phase, s.engine.work ≠ some (.restore line q phase))
    {x : HeldEntry} (hx : x ∈ s.held) : x.state ≠ .restoring := fun hxs => by
  obtain ⟨-, q, phase, hw⟩ := h.restoring x hx hxs
  exact hwork _ q phase hw

/-- A slot whose job ends its epoch has no line in capture: its captures have landed (R28, R73). -/
theorem State.Laws.noneCapturing (h : s.Laws) {j : Job} {k : Requester} (hj : j ∈ s.jobs) (howner : j.owner = .slot k)
    (hnext : j.next = .commitMarker ∨ j.next = .restore ∨ j.next = .abortedMarker) {x : HeldEntry} (hx : x ∈ s.held)
    (hxk : x.holder = k) : x.state ≠ .capturing := fun hxs => by
  obtain ⟨e, he, -, -, hcontext⟩ := h.held.capturing x hx hxs
  exact h.order.landed k j hj howner hnext e he (hxk ▸ hcontext)

/-- An abort with no line left to restore holds no line. -/
theorem State.Laws.noneHeld (h : s.Laws) {j : Job} {k : Requester}
    (hj : j ∈ s.jobs) (howner : j.owner = .slot k)
    (hnext : j.next = .commitMarker ∨ j.next = .restore ∨ j.next = .abortedMarker) {l : List HeldEntry}
    (hsub : ∀ x ∈ l, x ∈ s.held ∧ x.state ≠ .restoring) (hnone : newestHeld k l = none) : ∀ x ∈ l, x.holder ≠ k :=
  fun x hx hxk => by
  obtain ⟨hxs, hrestoring⟩ := hsub x hx
  have hcapturing := h.noneCapturing hj howner hnext hxs hxk
  have hheld : x.state = .held := by
    cases hstate : x.state with
    | held => rfl
    | capturing => exact absurd hstate hcapturing
    | restoring => exact absurd hstate hrestoring
  have hrecord := h.held.recorded x hxs hcapturing
  rw [newestHeld_eq_none.mp hnone x hx hxk hheld] at hrecord
  cases hrecord

/-! ## The choice -/

theorem engineOut_beginUnit (w : WorkUnit) (kind : UnitKind) (s : State) : (beginUnit w kind s).engineOut = s.engineOut := rfl

/-- The free Write Engine begins a unit: what the laws of held lines and of the unit ask of it. -/
theorem State.Laws.begins (h : s.Laws) {w : WorkUnit} {kind : UnitKind} (hdev : s.device = .run)
    (hfree : s.engine.work = none)
    (hagrees : ∀ e rest, s.queue.entries = e :: rest → e.cls = .capture → ∀ x : HeldEntry, x.unallocated = true →
      x.agrees (some w))
    (hline : ∀ line q phase, w = .restore line q phase → ∃ x ∈ s.held, x.line = line ∧ s.headJobOf x.holder = true)
    (hmarker : ∀ k, s.headJobOf k = true → w = .write .abortedMarker → ∀ x ∈ s.held, x.holder ≠ k)
    (hentry : ∀ step, w = .entry step → ∃ e rest, s.queue.entries = e :: rest ∧ s.beginnable e = true ∧
      step = e.firstStep) : (beginUnit w kind s).Laws := by
  have hout : s.engineOut = false := h.unit.freeIssued hdev hfree
  have hnone : ∀ x ∈ s.held, x.state ≠ .restoring := fun x hx => h.held.noneRestoring (by simp [hfree]) hx
  refine ⟨h.journal.congr rfl id rfl (.of_eq rfl), h.reserve.congr id rfl (.of_eq rfl) (.of_eq rfl)
    (fun _ => .none (.inl hout) (.inl hout)), h.command.congr (.of_eq rfl (.of_eq rfl) fun _ _ => Iff.rfl)
      (fun _ => ⟨rfl, Iff.rfl, Iff.rfl⟩), h.order.congr rfl (.of_eq rfl) (fun _ _ => Iff.rfl) (fun _ => id), ?_, ?_⟩
  · refine h.held.works rfl rfl (fun _ => rfl) (fun _ _ => Iff.rfl) (fun _ => id) (fun e rest he hcls x _ hx => ?_)
      (fun x hx hxs => absurd hxs (hnone x hx)) (fun line q phase hw => hline line q phase (Option.some.inj hw))
      (fun k hk hw => hmarker k hk (Option.some.inj hw))
    rw [hfree] at hx
    exact hagrees e rest he hcls x hx
  · refine ⟨fun step hstep => ?_, fun _ q hw => ?_, fun _ hw => by simp [beginUnit] at hw⟩
    · obtain ⟨e, rest, he, hbegin, rfl⟩ := hentry step (Option.some.inj hstep)
      refine ⟨e, rest, he, fun hne => ?_, (beginnable_iff s e).mp hbegin⟩
      unfold PostedEntry.firstStep at hne
      by_contra hcls
      exact hne (if_neg hcls)
    · obtain ⟨e, rest, -, -, hstep⟩ := hentry _ (Option.some.inj hw)
      unfold PostedEntry.firstStep at hstep
      split at hstep <;> cases hstep

theorem chooseUnit_laws (h : s.Laws) (hfits : ∀ j ∈ s.jobs, j.fits) : (chooseUnit s).Laws := by
  have hchooses := chooses s
  generalize chooseUnit s = t at hchooses
  cases hchooses with
  | stays => exact h
  | entry e rest hdev hfree hqueue hbegin =>
    refine h.begins hdev hfree (fun e' rest' he' hcls x hx => ?_) (by simp) (by simp)
      fun step hstep => ⟨e, rest, hqueue, hbegin, (WorkUnit.entry.inj hstep).symm⟩
    obtain ⟨rfl, -⟩ := List.cons.inj (hqueue.symm.trans he')
    rw [PostedEntry.firstStep, if_pos hcls]
    exact hx
  | job j rest hdev hfree hjobs =>
    have hj : j ∈ s.jobs := hjobs ▸ List.mem_cons_self
    have hhead {k l : Requester} (howner : j.owner = .slot k) (hl : s.headJobOf l = true) : l = k := by
      obtain ⟨j', rest', hjobs', howner'⟩ := (headJobOf_iff s l).mp hl
      obtain ⟨rfl, -⟩ := List.cons.inj (hjobs.symm.trans hjobs')
      simpa [howner] using howner'.symm
    have hrestoring : ∀ x ∈ s.held, x.state ≠ .restoring := fun x hx => h.held.noneRestoring (by simp [hfree]) hx
    rcases jobUnit_cases s (hfits j hj) with ⟨k, line, q, howner, hnext, hnew, hunit⟩ | ⟨k, howner, hnext, hnew, hunit⟩ |
      ⟨hnext, hunit⟩ | ⟨k, howner, hrestore, hstatus, hunit⟩ <;> rw [hunit]
    · obtain ⟨⟨x, hx, hxline, hxk, -⟩, -⟩ := newestHeld_spec hnew
      refine h.begins hdev hfree (fun _ _ _ _ x hx => hx) (fun line' q' phase' hw => ?_) (by simp) (by simp)
      obtain ⟨rfl, -⟩ := WorkUnit.restore.inj hw
      exact ⟨x, hx, hxline, (headJobOf_iff s _).mpr ⟨j, rest, hjobs, by rw [hxk]; exact howner⟩⟩
    · refine h.begins hdev hfree (fun _ _ _ _ x hx => hx) (by simp) (fun l hl _ => ?_) (by simp)
      obtain rfl := hhead howner hl
      exact h.noneHeld hj howner (.inr (.inl hnext)) (fun x hx => ⟨hx, hrestoring x hx⟩) hnew
    · exact h.begins hdev hfree (fun _ _ _ _ x hx => hx) (by simp) (by simp) (by simp)
    · refine h.begins hdev hfree (fun _ _ _ _ x hx => hx) (by simp) (fun l hl hw => ?_) (by simp)
      obtain rfl := hhead howner hl
      exact h.held.restored l (.inr ⟨j, hj, howner, WorkUnit.write.inj hw⟩)

end

end Sys2Proof.Machine

/-! PROOF. The laws over the issues of the Write Engine (R13, R25, R70). -/

namespace Sys2Proof.Machine

/-! ## One held entry is updated -/

/-- No line is held twice: an update of an entry changes a count by what it changes of that entry. -/
theorem countP_updHeld {l : List HeldEntry} (hnodup : (l.map (·.line)).Nodup) {x : HeldEntry} (hx : x ∈ l)
    (f : HeldEntry → HeldEntry) (p : HeldEntry → Bool) :
    (l.map fun e => if e.line = x.line ∧ e.holder = x.holder then f e else e).countP p + (if p x then 1 else 0) =
      l.countP p + (if p (f x) then 1 else 0) := by
  induction l with
  | nil => cases hx
  | cons d l ih =>
    rw [List.map_cons, List.nodup_cons] at hnodup
    obtain ⟨hd, hnodup⟩ := hnodup
    rw [List.map_cons, List.countP_cons, List.countP_cons]
    rcases List.mem_cons.mp hx with rfl | hx
    · have hrest : (l.map fun e => if e.line = x.line ∧ e.holder = x.holder then f e else e) = l := by
        refine (List.map_congr_left (g := id) fun e he => if_neg fun hsame => ?_).trans (List.map_id l)
        exact hd (hsame.1 ▸ List.mem_map_of_mem he)
      rw [hrest, if_pos (show x.line = x.line ∧ x.holder = x.holder from ⟨rfl, rfl⟩)]
      omega
    · have hne : ¬ (d.line = x.line ∧ d.holder = x.holder) := fun hsame =>
        hd (hsame.1 ▸ List.mem_map_of_mem hx)
      rw [if_neg hne]
      have hrest := ih hnodup hx
      omega

theorem held_updHeld (x : HeldEntry) (f : HeldEntry → HeldEntry) (s : State) : (updHeld x.line x.holder f s).held =
    s.held.map fun e => if e.line = x.line ∧ e.holder = x.holder then f e else e := rfl

theorem unallocated_length (l : List HeldEntry) (k : Requester) :
    (l.filter fun h => h.holder == k && h.unallocated).length = l.countP fun h => h.holder == k && h.unallocated :=
  List.countP_eq_length_filter.symm

/-- An update that neither takes the entry from its holder nor allocates its record. -/
theorem SameHolding.updHeld {s t : State} (hnodup : (s.held.map (·.line)).Nodup) {x : HeldEntry} (hx : x ∈ s.held)
    {f : HeldEntry → HeldEntry} (hheld : t.held = (updHeld x.line x.holder f s).held) (hholder : (f x).holder = x.holder)
    (hunallocated : (f x).unallocated = x.unallocated) : SameHolding s t := fun k => by
  rw [unallocated_length, unallocated_length, State.heldCount, State.heldCount, hheld, held_updHeld]
  have hcount := countP_updHeld hnodup hx f fun e => e.holder == k
  have hopen := countP_updHeld hnodup hx f fun e => e.holder == k && e.unallocated
  rw [hholder] at hcount hopen
  rw [hunallocated] at hopen
  exact ⟨(Nat.add_right_cancel hcount).le, Nat.add_right_cancel hopen⟩

theorem unallocated_iff (x : HeldEntry) : x.unallocated = true ↔ x.state = .capturing ∧ x.record = none := by
  simp [HeldEntry.unallocated]

/-- The held entry whose record is allocated, and the one whose capture is durable (R70, R71). -/
def HeldEntry.recordedAt (q : Seq) (x : HeldEntry) : HeldEntry := { x with record := some q }
def HeldEntry.nowHeld (x : HeldEntry) : HeldEntry := { x with state := .held }
def HeldEntry.nowRestoring (x : HeldEntry) : HeldEntry := { x with state := .restoring }

theorem unallocated_recordedAt (q : Seq) (x : HeldEntry) : (x.recordedAt q).unallocated = false := by
  simp [HeldEntry.unallocated, HeldEntry.recordedAt]

/-! ## The head entry's capture -/

section
variable {s : State}

/-- No two capture entries stand in the queue for one line (R36). -/
theorem State.HeldLaws.otherLine (h : s.HeldLaws) {e e' : PostedEntry} {rest before after : List PostedEntry}
    (hqueue : s.queue.entries = e :: rest) (hcls : e.cls = .capture) (hqueue' : s.queue.entries = before ++ e' :: after)
    (hcls' : e'.cls = .capture) (hbefore : before ≠ []) : e'.line ≠ e.line := by
  obtain ⟨b, before, rfl⟩ := List.exists_cons_of_ne_nil hbefore
  have hrest : rest = before ++ e' :: after := (List.cons.inj (hqueue.symm.trans hqueue')).2
  have honce := h.captureOnce
  rw [hqueue, List.filter_cons_of_pos (by simp [hcls]), List.map_cons, List.nodup_cons] at honce
  intro hline
  refine honce.1 (hline ▸ List.mem_map_of_mem (List.mem_filter.mpr ⟨?_, by simp [hcls']⟩))
  simp [hrest]

/-- A capture entry in progress: its context, whose OPEN record is durable, and its held entry. -/
theorem State.Laws.headCapture (h : s.Laws) {step : EntryStep} {e : PostedEntry} {rest : List PostedEntry}
    (hwork : s.engine.work = some (.entry step)) (hqueue : s.queue.entries = e :: rest) (hcls : e.cls = .capture) :
    ∃ k, e.context = some k ∧ e.owner = k ∧ s.contexts[k].state ≠ .closed ∧ s.contexts[k].openOwed = false ∧
      ∃ x ∈ s.held, x.line = e.line ∧ x.holder = k ∧ x.agrees (some (.entry step)) := by
  obtain ⟨e', rest', he', -, hbegun⟩ := h.unit.begun _ hwork
  obtain ⟨rfl, rfl⟩ := List.cons.inj (hqueue.symm.trans he')
  obtain ⟨k, hk, x, hx, hxline, hxk, hxagrees⟩ := h.held.captures [] e rest hqueue hcls
  rw [if_pos rfl, hwork] at hxagrees
  exact ⟨k, hk, by simp [PostedEntry.owner, hk], fun hc => h.order.carried k hc e (by simp [hqueue]) hk, hbegun k hk,
    x, hx, hxline, hxk, hxagrees⟩

/-- The head entry in progress is a capture while its record is written. -/
theorem State.Laws.headCls (h : s.Laws) {step : EntryStep} {e : PostedEntry} {rest : List PostedEntry}
    (hwork : s.engine.work = some (.entry step)) (hqueue : s.queue.entries = e :: rest) (hstep : step ≠ .dataWrite) :
    e.cls = .capture := by
  obtain ⟨e', rest', he', hcls, -⟩ := h.unit.begun _ hwork
  obtain ⟨rfl, rfl⟩ := List.cons.inj (hqueue.symm.trans he')
  exact hcls hstep

/-- The step of the head capture updates its held entry: the other capture entries stand for other lines. -/
theorem State.HeldLaws.updatesHead {t : State} (h : s.HeldLaws) {step : EntryStep} {e : PostedEntry}
    {rest : List PostedEntry} (hwork : s.engine.work = some (.entry step)) (hqueue : s.queue.entries = e :: rest)
    (hcls : e.cls = .capture) {x : HeldEntry} (hxline : x.line = e.line) {f : HeldEntry → HeldEntry}
    (hf : ∀ y, (f y).line = y.line ∧ (f y).holder = y.holder)
    (hheld : t.held = (updHeld x.line x.holder f s).held) (hentries : t.queue.entries = s.queue.entries)
    (hjobs : t.jobs = s.jobs)
    (hclosed : ∀ k : Fin 4, t.contexts[k].state = .closed → s.contexts[k].state = .closed) {step' : EntryStep}
    (hwork' : t.engine.work = some (.entry step'))
    (hagrees : ∀ y ∈ s.held, y.agrees (some (.entry step)) → (f y).agrees (some (.entry step')))
    (hcontext : e.context = some x.holder)
    (hcapturing : ∀ y ∈ s.held, (f y).state = .capturing → y.state = .capturing)
    (hrecorded : ∀ y ∈ s.held, y.line = x.line → y.holder = x.holder → (f y).state ≠ .capturing →
      (f y).record.isSome = true)
    (hrestoring : ∀ y ∈ s.held, (f y).state = .restoring → y.state = .restoring) : t.HeldLaws := by
  have hnone {y : HeldEntry} (hy : y ∈ s.held) : y.state ≠ .restoring := h.noneRestoring (by simp [hwork]) hy
  refine h.maps (g := fun y => if y.line = x.line ∧ y.holder = x.holder then f y else y) hheld (fun y => ?_) hentries
    (headJobOf_congr hjobs) (fun j _ => by rw [hjobs]) hclosed ?_ (fun y hy hys => ?_) (fun y hy hys => ?_)
    (fun y hy hys => ?_) (by simp [hwork']) (by simp [hwork'])
  · split
    · exact hf y
    · exact ⟨rfl, rfl⟩
  · intro before e' after he' hcls' y hy hyline hyk hyagrees
    by_cases hb : before = []
    · subst hb
      obtain ⟨rfl, rfl⟩ := List.cons.inj (hqueue.symm.trans he')
      rw [if_pos rfl, hwork] at hyagrees
      rw [if_pos ⟨hyline.trans hxline.symm, Option.some.inj (hyk.symm.trans hcontext)⟩, if_pos rfl, hwork']
      exact hagrees y hy hyagrees
    · have hother : y.line ≠ x.line := by
        rw [hyline, hxline]
        exact h.otherLine hqueue hcls he' hcls' hb
      rw [if_neg hb] at hyagrees ⊢
      rw [if_neg fun hsame => hother hsame.1]
      exact hyagrees
  · split at hys
    · exact hcapturing y hy hys
    · exact hys
  · by_cases hyx : y.line = x.line ∧ y.holder = x.holder
    · rw [if_pos hyx] at hys ⊢
      exact hrecorded y hy hyx.1 hyx.2 hys
    · rw [if_neg hyx] at hys ⊢
      exact h.recorded y hy hys
  · split at hys
    · exact absurd (hrestoring y hy hys) (hnone hy)
    · exact absurd hys (hnone hy)

end

/-! ## The oldest job's context -/

section
variable {s : State}

/-- While an end marker is owed the context is not CLOSED, and its OPEN record is durable (R25, R28, R30). -/
theorem State.Laws.endingContext (h : s.Laws) {j : Job} {k : Requester} (hj : j ∈ s.jobs) (howner : j.owner = .slot k)
    (hnext : j.next = .commitMarker ∨ j.next = .restore ∨ j.next = .abortedMarker) :
    (s.contexts[k].state = .closing ∨ s.contexts[k].state = .aborting) ∧ s.contexts[k].state ≠ .closed ∧
      s.contexts[k].openOwed = false ∧ s.contexts[k].openWritten = true := by
  have hends : s.contexts[k].state = .closing ∨ s.contexts[k].state = .aborting := by
    rcases hnext with hn | hn
    · exact .inl ((h.command.closing k).mpr (.inr ⟨j, hj, howner, hn⟩))
    · exact .inr ((h.command.aborting k).mpr (.inr ⟨j, hj, howner, hn⟩))
  have hnotClosed : s.contexts[k].state ≠ .closed := by rcases hends with hc | hc <;> rw [hc] <;> simp
  have hnotOpen : s.contexts[k].state ≠ .opened := by rcases hends with hc | hc <;> rw [hc] <;> simp
  have hnotOwed : s.contexts[k].openOwed = false := Bool.eq_false_iff.mpr fun howed => hnotOpen (h.reserve.opened k howed).1
  exact ⟨hends, hnotClosed, hnotOwed, h.reserve.written k hnotClosed hnotOwed⟩

theorem headJobOf_other {j : Job} {rest : List Job} {k l : Requester} (hjobs : s.jobs = j :: rest) (howner : j.owner = .slot k)
    (hl : l ≠ k) : s.headJobOf l = false := by
  simp only [State.headJobOf, hjobs, howner]
  simpa using fun hkl => hl hkl.symm

theorem headJobOf_own {j : Job} {rest : List Job} {k : Requester} (hjobs : s.jobs = j :: rest) (howner : j.owner = .slot k) :
    s.headJobOf k = true := (headJobOf_iff s k).mpr ⟨j, rest, hjobs, howner⟩

theorem notIssued_of_notHead {k : Requester} (h : s.headJobOf k = false) :
    s.markerIssued k = false ∧ s.openIssued k = false := by
  simp [State.markerIssued, State.openIssued, h]

end

/-! ## The issue -/

section
variable {s t : State} (h : s.Laws) (hout : s.engineOut = false)
  (hkept : t.cwb = s.cwb ∧ t.device = s.device ∧ t.queue.entries = s.queue.entries ∧ SameSlots s t ∧ t.jobs = s.jobs)
include h hout hkept

/-- The issue of a step that allocates no record. -/
theorem State.Laws.issues {w w' : WorkUnit} (hwork : s.engine.work = some w) (hwork' : t.engine.work = some w')
    (hw : w'.allocates = false) (hentry : ∀ step, w' = .entry step → w' = w) (hjournal : t.journal = s.journal)
    (hcontexts : t.contexts = s.contexts) (hholding : SameHolding s t) (hheld : t.HeldLaws) : t.Laws := by
  obtain ⟨hbase, hsame, hqueue, hslots, hjobs⟩ := hkept
  have hnotRecord : ∀ v, t.engine.work = some v → ¬ v.isRecord := fun v hv => by
    obtain rfl := Option.some.inj (hwork'.symm.trans hv)
    rintro (rfl | rfl | rfl) <;> cases hw
  have hsameJobs : SameSlotJobs s t := fun j _ => by rw [hjobs]
  refine ⟨h.journal.congr hbase (by rw [hsame]; exact id) hjournal (.of_eq hcontexts),
    h.reserve.congr (by rw [hsame]; exact id) (by rw [hjournal]) (.of_eq hcontexts) hholding
      (fun _ => .none (.inl hout) (.inr hnotRecord)),
    h.command.congr (.of_eq hqueue hslots hsameJobs) (by rw [hcontexts]; exact fun _ => ⟨rfl, Iff.rfl, Iff.rfl⟩),
    h.order.congr hqueue hslots hsameJobs (by rw [hcontexts]; exact fun _ => id), hheld, fun step hstep => ?_,
    fun _ q hq => ?_, fun _ hfree => by simp [hwork'] at hfree⟩
  · have hv := Option.some.inj (hwork'.symm.trans hstep)
    rw [hqueue, hcontexts]
    exact h.unit.begun step (by rw [hwork, ← hentry step hv, hv])
  · have hv := Option.some.inj (hwork'.symm.trans hq)
    rw [hv] at hw
    cases hw

end

end Sys2Proof.Machine

/-! PROOF. The laws over the allocations, and over the grant of the D-port (R13, R25, R70, R141). -/

namespace Sys2Proof.Machine

/-! ## The reserve of an allocation -/

/-- What context `k` still has to allocate: its end marker, its OPEN record, its captures (R31). -/
def State.dues (s : State) (k : Fin 4) : Nat :=
  (if s.markerIssued k then 0 else 1) + (if s.contexts[k].openWritten then 0 else 1) +
    (s.held.filter fun h => h.holder == k && h.unallocated).length

theorem dues_of_notIssued {s : State} {k : Fin 4} (h : s.markerIssued k = false) :
    s.dues k = 1 + (if s.contexts[k].openWritten then 0 else 1) +
      (s.held.filter fun h => h.holder == k && h.unallocated).length := by
  rw [State.dues, h, if_neg Bool.false_ne_true]

theorem reserved_allocate {s : State} (k l : Fin 4) (hlast : s.journal.head ≠ lastSequence) :
    (allocate k s).journal.reserved[l] = if l = k then s.journal.reserved[k] - 1 else s.journal.reserved[l] := by
  rw [journal_allocate k hlast]
  by_cases hl : l = k
  · subst hl
    simp
  · have hne : (k : Nat) ≠ l := fun hv => hl (Fin.ext hv.symm)
    simp [Vector.getElem_set_ne, hne, hl]

/-- What an issue keeps of a context's own fields. -/
def SameContexts (s t : State) : Prop :=
  ∀ k : Fin 4, t.contexts[k].state = s.contexts[k].state ∧ t.contexts[k].openOwed = s.contexts[k].openOwed ∧
    t.contexts[k].lineLimit = s.contexts[k].lineLimit

theorem SameContexts.of_eq {s t : State} (h : t.contexts = s.contexts) : SameContexts s t := fun k => by
  rw [h]
  exact ⟨rfl, rfl, rfl⟩

section
variable {s t : State}

/-- An allocation draws one of what its context still has to allocate. -/
theorem State.ReserveLaws.allocates (h : s.ReserveLaws) (hdev : s.device = .run) {k : Fin 4}
    (hopen : s.contexts[k].state ≠ .closed) (hlast : s.journal.head ≠ lastSequence)
    (hjournal : t.journal = (allocate k s).journal) (hcontexts : SameContexts s t)
    (hcount : ∀ l, t.heldCount l = s.heldCount l) (hdues : t.dues k + 1 = s.dues k)
    (hothers : ∀ l : Fin 4, l ≠ k → t.dues l = s.dues l)
    (hwritten : ∀ l : Fin 4, s.contexts[l].openWritten = true → t.contexts[l].openWritten = true)
    (hissued : ∀ l : Fin 4, s.contexts[l].openOwed = true → t.contexts[l].openWritten = t.openIssued l) :
    t.ReserveLaws := by
  have hreserved (l : Fin 4) : t.journal.reserved[l] = if l = k then s.journal.reserved[k] - 1 else s.journal.reserved[l] := by
    rw [hjournal]
    exact reserved_allocate k l hlast
  have hdue (l : Fin 4) (hl : s.contexts[l].state ≠ .closed) : s.journal.reserved[l] = s.dues l := h.balance hdev l hl
  refine ⟨fun l hl => ?_, fun _ l hl => ?_, fun l hl => ?_, fun l hl => ?_, fun l hl howed => ?_⟩ <;>
    obtain ⟨hstate, howed', hlimit⟩ := hcontexts l
  · rw [hstate] at hl
    rw [hreserved, if_neg (fun hlk : l = k => hopen (hlk ▸ hl))]
    exact h.unreserved l hl
  · rw [hstate] at hl
    rw [hreserved]
    show _ = t.dues l
    by_cases hlk : l = k
    · subst hlk
      rw [if_pos rfl, hdue l hl]
      omega
    · rw [if_neg hlk, hothers l hlk]
      exact hdue l hl
  · rw [hcount, hlimit]
    exact h.limit l (hstate ▸ hl)
  · rw [howed'] at hl
    rw [hstate]
    exact ⟨(h.opened l hl).1, fun _ => hissued l hl⟩
  · exact hwritten l (h.written l (hstate ▸ hl) (howed' ▸ howed))

/-- An open context with something to allocate has it reserved. -/
theorem State.ReserveLaws.reserved_pos (h : s.ReserveLaws) (hdev : s.device = .run) {k : Fin 4}
    (hopen : s.contexts[k].state ≠ .closed) (hdues : 0 < s.dues k) : 0 < s.journal.reserved[k] := by
  have hbalance : s.journal.reserved[k] = s.dues k := h.balance hdev k hopen
  omega

end

/-! ## The allocating issues -/

section
variable {s t : State} (h : s.Laws) (hdev : s.device = .run) (hout : s.engineOut = false) (hout' : t.engineOut = true)
  (hkept : t.cwb = s.cwb ∧ t.device = s.device ∧ t.queue.entries = s.queue.entries ∧ SameSlots s t ∧ t.jobs = s.jobs)
  (hlast : s.journal.head ≠ lastSequence)
include h hdev hout hout' hkept hlast

/-- RECORD_DATA allocates the record of the head entry's line (R70). -/
theorem State.Laws.issuesRecordData {q : Option Seq} {e : PostedEntry} {rest : List PostedEntry}
    (hnodup : (s.held.map (·.line)).Nodup) (hwork : s.engine.work = some (.entry (.recordData q)))
    (hqueue : s.queue.entries = e :: rest) (hjournal : t.journal = (allocate e.owner s).journal)
    (hheld : t.held = (updHeld e.line e.owner (HeldEntry.recordedAt s.journal.head) s).held)
    (hcontexts : t.contexts = s.contexts)
    (hwork' : t.engine.work = some (.entry (.recordData (some s.journal.head)))) : t.Laws := by
  obtain ⟨hbase, hsame, hentries, hslots, hjobs⟩ := hkept
  have hsameJobs : SameSlotJobs s t := fun j _ => by rw [hjobs]
  have hclosed : ∀ k : Fin 4, t.contexts[k].state = .closed → s.contexts[k].state = .closed := by
    rw [hcontexts]; exact fun _ => id
  obtain rfl : q = none := by
    have hissued := h.unit.recordIssued hdev q hwork
    rwa [hout, Option.isSome_eq_false_iff, Option.isNone_iff_eq_none] at hissued
  have hcls := h.headCls hwork hqueue (by simp)
  obtain ⟨k, hk, howner, hopen, hnotOwed, x, hx, hxline, rfl, hxagrees⟩ := h.headCapture hwork hqueue hcls
  have hunallocated : x.unallocated = true := hxagrees
  rw [howner] at hheld hjournal
  rw [← hxline] at hheld
  have hwritten : s.contexts[x.holder].openWritten = true := h.reserve.written _ hopen hnotOwed
  have hissued : SameIssued s t := .none (.inr fun v hv => by simp [WorkUnit.isRecord, ← Option.some.inj (hwork.symm.trans hv)])
    (.inr fun v hv => by simp [WorkUnit.isRecord, ← Option.some.inj (hwork'.symm.trans hv)])
  have hcount (p : HeldEntry → Bool) := countP_updHeld hnodup hx (HeldEntry.recordedAt s.journal.head) p
  rw [← held_updHeld, ← hheld] at hcount
  have hdues (l : Fin 4) : t.dues l + (if l = x.holder then 1 else 0) = s.dues l := by
    have hl := hcount fun y => y.holder == l && y.unallocated
    rw [State.dues, State.dues, unallocated_length, unallocated_length, (hissued l).1, hcontexts]
    simp only [unallocated_recordedAt, Bool.and_false, Bool.false_eq_true, if_false, hunallocated, Bool.and_true,
      beq_iff_eq, Nat.add_zero, eq_comm (a := x.holder)] at hl
    omega
  have hk1 : t.dues x.holder + 1 = s.dues x.holder := by simpa using hdues x.holder
  refine ⟨h.journal.allocates hlast hopen (h.reserve.reserved_pos hdev hopen (by omega)) hbase hjournal
      (by rw [hcontexts]; exact live_of_open hopen hwritten) (by rw [hcontexts]; exact fun l hl => .inl ⟨hl, rfl⟩),
    h.reserve.allocates hdev hopen hlast hjournal (.of_eq hcontexts)
      (fun l => Nat.add_right_cancel (hcount fun y => y.holder == l)) hk1
      (fun l hl => by simpa [hl] using hdues l) (by rw [hcontexts]; exact fun _ => id) (fun l hl => ?_),
    h.command.congr (.of_eq hentries hslots hsameJobs) (by rw [hcontexts]; exact fun _ => ⟨rfl, Iff.rfl, Iff.rfl⟩),
    h.order.congr hentries hslots hsameJobs hclosed,
    h.held.updatesHead hwork hqueue hcls hxline (f := HeldEntry.recordedAt s.journal.head) (fun _ => ⟨rfl, rfl⟩) hheld hentries hjobs hclosed hwork'
      (fun y _ hy => ⟨((unallocated_iff y).mp hy).1, rfl⟩) hk (fun _ _ => id) (fun _ _ _ _ _ => rfl) (fun _ _ => id),
    fun step hstep => ?_, fun _ p hp => ?_, fun _ hfree => by simp [hwork'] at hfree⟩
  · rw [hcontexts, (hissued l).2]
    exact (h.reserve.opened l hl).2 hdev
  · obtain rfl := WorkUnit.entry.inj (Option.some.inj (hwork'.symm.trans hstep))
    obtain ⟨e', rest', he', -, hbegun⟩ := h.unit.begun _ hwork
    rw [hentries, hcontexts]
    exact ⟨e', rest', he', fun _ => (List.cons.inj (hqueue.symm.trans he')).1 ▸ hcls, hbegun⟩
  · obtain hp' := EntryStep.recordData.inj (WorkUnit.entry.inj (Option.some.inj (hwork'.symm.trans hp)))
    rw [← hp', hout']
    rfl

/-- The OPEN record is allocated, and its sequence is the context's epoch ID (R25). -/
theorem State.Laws.issuesOpenRecord {j : Job} {rest : List Job} {k : Requester}
    (hwork : s.engine.work = some (.write .openRecord)) (hjobs : s.jobs = j :: rest) (howner : j.owner = .slot k)
    (hnext : j.next = .openRecord) (hjournal : t.journal = (allocate k s).journal) (hheld : t.held = s.held)
    (hcontexts : t.contexts =
      (updContext k (fun c => { c with epoch := some s.journal.head, openWritten := true }) s).contexts)
    (hwork' : t.engine.work = s.engine.work) : t.Laws := by
  obtain ⟨hbase, hsame, hentries, hslots, hjobs'⟩ := hkept
  have hsameJobs : SameSlotJobs s t := fun j _ => by rw [hjobs']
  have howed : s.contexts[k].openOwed = true :=
    (h.command.opening k).mpr (.inr ⟨j, by simp [hjobs], howner, hnext⟩)
  obtain ⟨hopened, hissued⟩ := h.reserve.opened k howed
  have hopen : s.contexts[k].state ≠ .closed := by rw [hopened]; simp
  have hunwritten : s.contexts[k].openWritten = false := (hissued hdev).trans (notIssued_of_notOut hout k).2
  have hcontext (l : Fin 4) : t.contexts[l] = if l = k then { s.contexts[k] with
      epoch := some s.journal.head, openWritten := true } else s.contexts[l] := by
    rw [hcontexts, getElem_updContext]
  have hsameContexts : SameContexts s t := fun l => by
    rw [hcontext]
    by_cases hl : l = k
    · rw [if_pos hl, hl]; exact ⟨rfl, rfl, rfl⟩
    · rw [if_neg hl]; exact ⟨rfl, rfl, rfl⟩
  have hhead : t.openIssued k = true :=
    (openIssued_iff t k).mpr ⟨hout', by rw [headJobOf_congr hjobs']; exact headJobOf_own hjobs howner, hwork'.trans hwork⟩
  have hnotMarker (l : Fin 4) : t.markerIssued l = false := by
    rw [← Bool.not_eq_true, markerIssued_iff, hwork', hwork]
    simp
  have hother {l : Fin 4} (hl : l ≠ k) : t.openIssued l = false :=
    (notIssued_of_notHead (by rw [headJobOf_congr hjobs']; exact headJobOf_other hjobs howner hl)).2
  have hdues (l : Fin 4) := dues_of_notIssued (hnotMarker l)
  have hdues' (l : Fin 4) := dues_of_notIssued (notIssued_of_notOut hout l).1
  rw [hheld] at hdues
  have hk1 : t.dues k + 1 = s.dues k := by
    rw [hdues, hdues', hcontext, if_pos rfl, hunwritten]
    simp only [if_true, Bool.false_eq_true, if_false]
    omega
  refine ⟨h.journal.allocates hlast hopen (h.reserve.reserved_pos hdev hopen (by omega)) hbase hjournal ?_ (fun l hl => ?_),
    h.reserve.allocates hdev hopen hlast hjournal hsameContexts (fun l => by simp only [State.heldCount, hheld]) hk1
      (fun l hl => by rw [hdues, hdues', hcontext, if_neg hl]) (fun l hl => ?_) (fun l hl => ?_),
    h.command.congr (.of_eq hentries hslots hsameJobs) (fun l => ?_),
    h.order.congr hentries hslots hsameJobs (fun l => by rw [(hsameContexts l).1]; exact id),
    h.held.congr hheld hentries hwork' (headJobOf_congr hjobs') hsameJobs (fun l => by rw [(hsameContexts l).1]; exact id),
    fun step hstep => by simp [hwork', hwork] at hstep, fun _ q hq => by simp [hwork', hwork] at hq,
    fun _ hfree => by simp [hwork', hwork] at hfree⟩
  · rw [hcontext, if_pos rfl]
    exact (live_iff _).mpr ⟨hopen, rfl⟩
  · rw [hcontext] at hl ⊢
    by_cases hlk : l = k
    · rw [if_pos hlk]
      exact .inr rfl
    · rw [if_neg hlk] at hl ⊢
      exact .inl ⟨hl, rfl⟩
  · rw [hcontext]
    split
    · rfl
    · exact hl
  · by_cases hlk : l = k
    · subst hlk
      rw [hhead, hcontext, if_pos rfl]
    · rw [hother hlk, hcontext, if_neg hlk]
      exact ((h.reserve.opened l hl).2 hdev).trans (notIssued_of_notOut hout l).2
  · obtain ⟨hstate, howed', -⟩ := hsameContexts l
    rw [hstate]
    exact ⟨howed', Iff.rfl, Iff.rfl⟩

/-- The COMMIT or the ABORTED marker is allocated (R13, R28, R30). -/
theorem State.Laws.issuesEndMarker {step : JobStep} {j : Job} {rest : List Job} {k : Requester}
    (hstep : step = .commitMarker ∨ step = .abortedMarker) (hwork : s.engine.work = some (.write step))
    (hjobs : s.jobs = j :: rest) (howner : j.owner = .slot k)
    (hnext : j.next = .commitMarker ∨ j.next = .restore ∨ j.next = .abortedMarker)
    (hjournal : t.journal = (allocate k s).journal) (hheld : t.held = s.held) (hcontexts : t.contexts = s.contexts)
    (hwork' : t.engine.work = s.engine.work) : t.Laws := by
  obtain ⟨hbase, hsame, hentries, hslots, hjobs'⟩ := hkept
  have hsameJobs : SameSlotJobs s t := fun j _ => by rw [hjobs']
  have hclosed : ∀ k : Fin 4, t.contexts[k].state = .closed → s.contexts[k].state = .closed := by
    rw [hcontexts]; exact fun _ => id
  obtain ⟨-, hopen, hnotOwed, hwritten⟩ := h.endingContext (j := j) (by simp [hjobs]) howner hnext
  have hmarker : t.markerIssued k = true := by
    refine (markerIssued_iff t k).mpr ⟨hout', by rw [headJobOf_congr hjobs']; exact headJobOf_own hjobs howner, ?_⟩
    rw [hwork', hwork]
    rcases hstep with rfl | rfl <;> simp
  have hnotOpen (l : Fin 4) : t.openIssued l = false := by
    rw [← Bool.not_eq_true, openIssued_iff, hwork', hwork]
    rcases hstep with rfl | rfl <;> simp
  have hother {l : Fin 4} (hl : l ≠ k) : t.markerIssued l = false :=
    (notIssued_of_notHead (by rw [headJobOf_congr hjobs']; exact headJobOf_other hjobs howner hl)).1
  have hk1 : t.dues k + 1 = s.dues k := by
    rw [State.dues, State.dues, hmarker, (notIssued_of_notOut hout k).1, hcontexts, hheld]
    simp only [if_true, Bool.false_eq_true, if_false]
    omega
  refine ⟨h.journal.allocates hlast hopen (h.reserve.reserved_pos hdev hopen (by omega)) hbase hjournal
      (by rw [hcontexts]; exact live_of_open hopen hwritten) (by rw [hcontexts]; exact fun l hl => .inl ⟨hl, rfl⟩),
    h.reserve.allocates hdev hopen hlast hjournal (.of_eq hcontexts) (fun l => by simp only [State.heldCount, hheld]) hk1
      (fun l hl => ?_) (by rw [hcontexts]; exact fun _ => id) (fun l hl => ?_),
    h.command.congr (.of_eq hentries hslots hsameJobs) (by rw [hcontexts]; exact fun _ => ⟨rfl, Iff.rfl, Iff.rfl⟩),
    h.order.congr hentries hslots hsameJobs hclosed,
    h.held.congr hheld hentries hwork' (headJobOf_congr hjobs') hsameJobs hclosed,
    fun step hstep => by simp [hwork', hwork] at hstep, fun _ q hq => by simp [hwork', hwork] at hq,
    fun _ hfree => by simp [hwork', hwork] at hfree⟩
  · rw [State.dues, State.dues, hother hl, (notIssued_of_notOut hout l).1, hcontexts, hheld]
  · rw [hcontexts, hnotOpen]
    exact ((h.reserve.opened l hl).2 hdev).trans (notIssued_of_notOut hout l).2

end

end Sys2Proof.Machine

/-! PROOF. The laws over the grant of the D-port and over what follows an event (R78, R141). -/

namespace Sys2Proof.Machine

theorem engineOut_of_free {s : State} (h : s.dport.outstanding = none) : s.engineOut = false := by
  simp only [State.engineOut, h]

theorem engineOut_of_client {s : State} {o : Outstanding} (h : s.dport.outstanding = some o) :
    s.engineOut = (o.client == .writeEngine) := by
  simp only [State.engineOut, h]

/-- The unit that allocates a record finds the head short of the last sequence. -/
def State.RoomToAllocate (s : State) : Prop :=
  ∀ w, s.engine.work = some w → w.allocates = true → s.journal.head ≠ lastSequence

section
variable {s : State} (h : s.Laws) (hdev : s.device = .run) (hfree : s.dport.outstanding = none)
include h hdev hfree

omit hdev in
/-- The header read of a line's restore marks its held entry RESTORING (R39). -/
theorem State.Laws.issuesRestore {t : State} {line : Addr} {q : Seq} {j : Job} {rest : List Job} {k : Requester}
    (hnodup : (s.held.map (·.line)).Nodup) (hwork : s.engine.work = some (.restore line q .header))
    (hjobs : s.jobs = j :: rest) (howner : j.owner = .slot k) (hnext : j.next = .restore) (hbase : t.cwb = s.cwb)
    (hsame : t.device = s.device) (hqueue : t.queue = s.queue) (hslots : t.slots = s.slots) (hjobs' : t.jobs = s.jobs)
    (hjournal : t.journal = s.journal) (hcontexts : t.contexts = s.contexts)
    (hheld : t.held = (updHeld line k HeldEntry.nowRestoring s).held) (hwork' : t.engine.work = s.engine.work) : t.Laws := by
  have hj : j ∈ s.jobs := by simp [hjobs]
  obtain ⟨x, hx, rfl, hxhead⟩ := h.held.restoreLine _ _ _ hwork
  obtain rfl : x.holder = k := by
    by_contra hne
    rw [headJobOf_other hjobs howner hne] at hxhead
    cases hxhead
  have hnotCapturing {y : HeldEntry} (hy : y ∈ s.held) (hyk : y.holder = x.holder) : y.state ≠ .capturing :=
    h.noneCapturing hj howner (.inr (.inl hnext)) hy hyk
  have hunallocated : x.nowRestoring.unallocated = x.unallocated := by
    have hx' : x.unallocated = false := Bool.eq_false_iff.mpr fun hu =>
      hnotCapturing hx rfl ((unallocated_iff x).mp hu).1
    rw [hx']
    rfl
  refine h.issues (engineOut_of_free hfree) ⟨hbase, hsame, by rw [hqueue], .of_eq hslots, hjobs'⟩ hwork (hwork'.trans hwork)
    rfl (by simp) hjournal hcontexts (.updHeld hnodup hx hheld rfl hunallocated) ?_
  refine h.held.maps (g := fun y => if y.line = x.line ∧ y.holder = x.holder then y.nowRestoring else y)
    hheld (fun y => ?_) (by rw [hqueue]) (headJobOf_congr hjobs') (fun _ _ => by rw [hjobs']) (by rw [hcontexts]; exact fun _ => id)
    (fun before e after he hcls y hy hyline hyk hyagrees => ?_) (fun y hy hys => ?_) (fun y hy hys => ?_) (fun y hy hys => ?_)
    (by rw [hwork']; exact h.held.restoreLine) (by simp [hwork', hwork])
  · split <;> exact ⟨rfl, rfl⟩
  · have hother : ¬ (y.line = x.line ∧ y.holder = x.holder) := fun hsame =>
      h.order.landed x.holder j hj howner (.inr (.inl hnext)) e (by simp [he]) (hsame.2 ▸ hyk)
    rw [if_neg hother, hwork']
    exact hyagrees
  · split at hys
    · cases hys
    · exact hys
  · by_cases hyx : y.line = x.line ∧ y.holder = x.holder
    · rw [if_pos hyx]
      exact h.held.recorded y hy (hnotCapturing hy hyx.2)
    · rw [if_neg hyx] at hys ⊢
      exact h.held.recorded y hy hys
  · rw [hwork']
    by_cases hyx : y.line = x.line ∧ y.holder = x.holder
    · rw [hyx.1, hyx.2]
      exact ⟨hxhead, q, .header, hwork⟩
    · rw [if_neg hyx] at hys
      exact h.held.restoring y hy hys

/-- The issue of the unit's next step. -/
theorem engineIssues_laws (hnodup : (s.held.map (·.line)).Nodup) (hunit : s.unitFits) (hroom : s.RoomToAllocate) {u : State}
    (hu : EngineIssues s u) (q : DportRequest) : (issueRequest .writeEngine q (markGrant .w u)).Laws := by
  have hout := engineOut_of_free hfree
  cases hu with
  | plain w hwork hw =>
    exact h.issues hout ⟨rfl, rfl, rfl, .of_eq rfl, rfl⟩ hwork hwork hw (fun _ _ => rfl) rfl rfl (.of_eq rfl)
      (h.held.congr rfl rfl rfl (fun _ => rfl) (fun _ _ => Iff.rfl) (fun _ => id))
  | recordData p e rest hwork hqueue =>
    exact h.issuesRecordData hdev hout rfl ⟨by simp [issueRequest], by simp [issueRequest], by simp [issueRequest],
      .of_eq (by simp [issueRequest]), by simp [issueRequest]⟩ (hroom _ hwork rfl) hnodup hwork hqueue
      (by simp [issueRequest]) (by simp [issueRequest, updHeld, HeldEntry.recordedAt]) (by simp [issueRequest]) rfl
  | openRecord j rest hwork hjobs =>
    obtain ⟨hslot, -, -, hnext⟩ := (unitFits_write_iff hwork hjobs).mp hunit
    obtain ⟨k, howner⟩ := owner_of_unitFits hslot
    have hk : j.owner.slotNumber = k := by rw [howner]; rfl
    rw [hk]
    exact h.issuesOpenRecord hdev hout rfl ⟨by simp [issueRequest], by simp [issueRequest], by simp [issueRequest],
      .of_eq (by simp [issueRequest]), by simp [issueRequest]⟩ (hroom _ hwork rfl) hwork hjobs howner (by simpa using hnext)
      (by simp [issueRequest]) (by simp [issueRequest]) (by simp [issueRequest, updContext]) (by simp [issueRequest])
  | endMarker step j rest hstep hwork hjobs =>
    obtain ⟨hslot, -, -, hnext⟩ := (unitFits_write_iff hwork hjobs).mp hunit
    obtain ⟨k, howner⟩ := owner_of_unitFits hslot
    have hk : j.owner.slotNumber = k := by rw [howner]; rfl
    rw [hk]
    have hends : j.next = .commitMarker ∨ j.next = .restore ∨ j.next = .abortedMarker := by
      rcases hnext with hn | ⟨-, hn⟩
      · rcases hstep with rfl | rfl <;> simp [hn]
      · exact .inr (.inl hn)
    have hlast : s.journal.head ≠ lastSequence := hroom _ hwork (by rcases hstep with rfl | rfl <;> rfl)
    exact h.issuesEndMarker hdev hout rfl ⟨by simp [issueRequest], by simp [issueRequest], by simp [issueRequest],
      .of_eq (by simp [issueRequest]), by simp [issueRequest]⟩ hlast hstep hwork hjobs howner hends
      (by simp [issueRequest]) (by simp [issueRequest]) (by simp [issueRequest]) (by simp [issueRequest])
  | result j rest hwork hjobs =>
    exact h.issues hout ⟨rfl, rfl, rfl, .updSlot _ (f := fun c => { c with resultCount := c.resultCount + 1 })
      (fun _ => rfl) (fun _ => rfl) s, rfl⟩ hwork hwork rfl (by simp) rfl rfl (.of_eq rfl)
      (h.held.congr rfl rfl rfl (fun _ => rfl) (fun _ _ => Iff.rfl) (fun _ => id))
  | restore line p j rest hwork hjobs =>
    obtain ⟨hslot, hnext⟩ := (unitFits_restore_iff hwork hjobs).mp hunit
    obtain ⟨k, howner⟩ := owner_of_unitFits hslot
    have hk : j.owner.slotNumber = k := by rw [howner]; rfl
    rw [hk]
    exact h.issuesRestore hfree hnodup hwork hjobs howner hnext rfl rfl rfl rfl rfl rfl rfl rfl rfl
  | statusRecord second second' hwork =>
    refine h.issues hout ⟨rfl, rfl, rfl, .of_eq rfl, rfl⟩ hwork rfl rfl (by simp) rfl rfl (.of_eq rfl)
      (h.held.works rfl rfl (fun _ => rfl) (fun _ _ => Iff.rfl) (fun _ => id) (fun _ _ _ _ x _ hx => ?_)
        (fun x hx hxs => absurd hxs (h.held.noneRestoring (by simp [hwork]) hx)) (fun line p phase hw => by cases hw)
        (fun k _ hw => by cases hw))
    rw [hwork] at hx
    exact hx

end

/-! ## The grant -/

/-- Before RUN every context is CLOSED, and the laws are those of the journal (R10, R170). -/
theorem State.Laws.starts {s t : State} (h : s.Laws) (hclosed : ∀ k : Fin 4, s.contexts[k].state = .closed)
    (hjournal : t.JournalLaws) (hreserved : t.journal.reserved = s.journal.reserved) (hcontexts : t.contexts = s.contexts)
    (hheld : t.held = s.held) (hqueue : t.queue.entries = s.queue.entries) (hfree : s.engine.work = none)
    (hwork : t.engine.work = none) (hslots : SameSlots s t) (hraised : Raised s t) (hout : t.engineOut = false) : t.Laws := by
  have hclosed' : ∀ k : Fin 4, t.contexts[k].state = .closed := by rw [hcontexts]; exact hclosed
  have hsame : ∀ k : Fin 4, t.contexts[k].state = .closed → s.contexts[k].state = .closed := fun k _ => hclosed k
  refine ⟨hjournal, ⟨fun k _ => ?_, fun _ k hk => absurd (hclosed' k) hk, fun k hk => absurd (hclosed' k) hk,
      fun k hk => ?_, fun k hk => absurd (hclosed' k) hk⟩,
    h.command.congr (.of_eq hqueue hslots hraised.sameSlotJobs) (by rw [hcontexts]; exact fun _ => ⟨rfl, Iff.rfl, Iff.rfl⟩),
    h.order.congr hqueue hslots hraised.sameSlotJobs hsame,
    h.held.congr hheld hqueue (hwork.trans hfree.symm) hraised.headJobOf hraised.sameSlotJobs hsame,
    fun step hstep => by simp [hwork] at hstep, fun _ q hq => by simp [hwork] at hq, fun _ _ => hout⟩
  · rw [hreserved]
    exact h.reserve.unreserved k (hclosed k)
  · have hopened := (h.reserve.opened k (hcontexts ▸ hk)).1
    rw [hclosed k] at hopened
    cases hopened

theorem totalReserved_of_allClosed {s : State} (h : s.ReserveLaws) (hclosed : ∀ k : Fin 4, s.contexts[k].state = .closed) :
    s.totalReserved = 0 := by
  have hzero (k : Fin 4) := h.unreserved k (hclosed k)
  rw [totalReserved_eq]
  have h0 : s.journal.reserved[0] = 0 := hzero 0
  have h1 : s.journal.reserved[1] = 0 := hzero 1
  have h2 : s.journal.reserved[2] = 0 := hzero 2
  have h3 : s.journal.reserved[3] = 0 := hzero 3
  omega

/-- The RECOVERY marker's issue raises the head of a journal that is still RECOVERING (R167). -/
theorem raiseHead_journalLaws {s : State} (h : s.Laws) (hrecovering : s.journal.state = .recovering) :
    (raiseHead s).JournalLaws := by
  have hclosed := h.journal.ready (by simp [hrecovering])
  refine journalLaws_of_allClosed (by simpa using hclosed) ?_ ?_ (fun hne => absurd ((state_raiseHead s).trans hrecovering) hne) ?_
  · simpa [State.windowBase] using h.journal.ring
  · rw [geometry_raiseHead, counting_congr (state_raiseHead s)]
    simpa using h.journal.ringHeld
  · rw [totalReserved_congr (s := s) (by unfold raiseHead; split <;> rfl)]
    exact totalReserved_of_allClosed h.reserve hclosed

theorem grant_laws {s : State} (h : s.Laws) (hstart : s.StartupCoherent) (hnodup : (s.held.map (·.line)).Nodup)
    (hunit : s.unitFits) (hroom : s.device = .run → s.dport.outstanding = none → s.RoomToAllocate) : (grant s).Laws := by
  cases hfree : s.dport.outstanding with
  | some o => rwa [grant_of_out hfree]
  | none =>
    have hgrants := grants hfree
    generalize grant s = t at hgrants
    have hout := engineOut_of_free hfree
    cases hgrants with
    | stays => exact h
    | startup u q hdev hissue =>
      have hunused := hstart.unused (.inr hdev)
      have hrecovering := hstart.recovering hdev
      have hclosed := h.journal.ready (by simp [hrecovering])
      rcases startupIssue_frame _ _ _ hissue with rfl | rfl
      · exact h.frame (.of_eq rfl rfl) rfl (.inr ⟨rfl, hout.symm⟩) rfl rfl rfl rfl rfl (.of_eq rfl)
      · have hjournal : (issueRequest .startup q (raiseHead s)).JournalLaws :=
          (raiseHead_journalLaws h hrecovering).congr rfl id rfl (.of_eq rfl)
        exact h.starts hclosed hjournal (by unfold raiseHead; split <;> rfl) (by simp [issueRequest])
          (by simp [issueRequest]) (by simp [issueRequest]) hunused.work (by simp [issueRequest, hunused.work])
          (.of_eq (by simp [issueRequest])) (.of_eq (by simp [issueRequest]) (by simp [issueRequest])) rfl
    | engine u q hdev hdue hissue => exact engineIssues_laws h hdev hfree hnodup hunit (hroom hdev hfree) (engineIssues hissue) q
    | unheld => exact h.frame (.of_eq rfl rfl) rfl (.inr ⟨rfl, rfl⟩) rfl rfl rfl rfl rfl (.of_eq rfl)
    | straight | deferred | patrol =>
      exact h.frame (.of_eq rfl rfl) rfl (.inr ⟨rfl, hout.symm⟩) rfl rfl rfl rfl rfl (.of_eq rfl)

end Sys2Proof.Machine

/-! PROOF. The laws over the replies to an entry's steps (R65, R69 to R73). -/

namespace Sys2Proof.Machine

/-! ## What a slot's command owes, over a landing and over a job's step -/

/-- `step` describes the work that a taken command of the opcode has left: its job begins there, and the result is none
of it (Table 4-3). -/
structure Describes (opcode : BitVec 4) (step : JobStep → Prop) : Prop where
  begins : ∀ k (d : Decision), step (d.job k).next ↔ ∃ tag, d = ⟨⟨opcode, tag⟩, .taken⟩
  ends : ¬ step .result

theorem describes_of_takenJob {opcode : BitVec 4} {step : JobStep → Prop} (hends : ¬ step .result)
    (htaken : ∀ k op, step (takenJob k op).next ↔ op = opcode) : Describes opcode step := by
  refine ⟨fun k d => ?_, hends⟩
  by_cases hverdict : d.verdict = .taken
  · rw [job_of_taken hverdict, htaken]
    constructor
    · rintro rfl
      exact ⟨d.word.tag, by obtain ⟨⟨op, tag⟩, v⟩ := d; cases hverdict; rfl⟩
    · rintro ⟨tag, rfl⟩
      rfl
  · rw [job_next_of_refused hverdict]
    refine iff_of_false hends ?_
    rintro ⟨tag, rfl⟩
    exact hverdict rfl

theorem describes_open : Describes 1 (· = .openRecord) := by
  refine describes_of_takenJob (by simp) fun k op => ?_
  rw [takenJob_next]
  (repeat' split) <;> simp_all

theorem describes_commit : Describes 2 (· = .commitMarker) := by
  refine describes_of_takenJob (by simp) fun k op => ?_
  rw [takenJob_next]
  (repeat' split) <;> simp_all

theorem describes_abort : Describes 3 (fun n => n = .restore ∨ n = .abortedMarker) := by
  refine describes_of_takenJob (by simp) fun k op => ?_
  rw [takenJob_next]
  (repeat' split) <;> simp_all

theorem SameOwes.of_describes {s t : State}
    (h : ∀ opcode step, Describes opcode step → ∀ k, t.owes k opcode step ↔ s.owes k opcode step) : SameOwes s t :=
  ⟨h _ _ describes_open, h _ _ describes_commit, h _ _ describes_abort⟩

section
variable {s t : State}

/-- An entry that is no command close lands: no slot owes more or less. -/
theorem owes_lands {e : PostedEntry} {rest : List PostedEntry} (hentries : s.queue.entries = e :: rest)
    (hclose : e.commandClose = false) (hqueue : t.queue.entries = rest) (hjobs : t.jobs = s.jobs) (hslots : SameSlots s t) :
    SameOwes s t := by
  refine .of_describes fun opcode step _ k => ?_
  unfold State.owes State.closeQueued State.takenInSlot
  rw [hentries, hqueue, hjobs, (hslots k).2]
  simp [hclose]

/-- A command close entry lands: what its command owes moves from the queue to its job (R73). -/
theorem owes_landsClose {e : PostedEntry} {rest : List PostedEntry} {d : Decision}
    (hentries : s.queue.entries = e :: rest) (hclose : e.commandClose = true)
    (hdecision : s.slots[e.requester].decision = some d) (hqueue : t.queue.entries = rest)
    (hjobs : t.jobs = s.jobs ++ [d.job e.requester]) (hslots : SameSlots s t) : SameOwes s t := by
  refine .of_describes fun opcode step hdescribes k => ?_
  have htaken (htag : ∃ tag, d = ⟨⟨opcode, tag⟩, .taken⟩) : s.owes e.requester opcode step := by
    obtain ⟨tag, rfl⟩ := htag
    exact .inl ⟨⟨e, by simp [hentries], hclose, rfl⟩, tag, hdecision⟩
  constructor
  · rintro (⟨⟨x, hx, hxclose⟩, htag⟩ | ⟨j, hj, howner, hnext⟩)
    · unfold State.takenInSlot at htag
      rw [(hslots k).2] at htag
      exact .inl ⟨⟨x, by rw [hentries, ← hqueue]; exact List.mem_cons_of_mem _ hx, hxclose⟩, htag⟩
    · rw [hjobs] at hj
      rcases List.mem_append.mp hj with hj | hj
      · exact .inr ⟨j, hj, howner, hnext⟩
      · rw [List.mem_singleton.mp hj] at howner hnext
        cases (job_owner e.requester d).symm.trans howner
        exact htaken ((hdescribes.begins _ d).mp hnext)
  · rintro (⟨⟨x, hx, hxclose, rfl⟩, htag⟩ | ⟨j, hj, howner, hnext⟩)
    · rw [hentries] at hx
      rcases List.mem_cons.mp hx with rfl | hx
      · obtain ⟨tag, htag⟩ := htag
        obtain rfl : d = ⟨⟨opcode, tag⟩, .taken⟩ := Option.some.inj (hdecision.symm.trans htag)
        exact .inr ⟨_, by rw [hjobs]; simp, job_owner _ _, (hdescribes.begins _ _).mpr ⟨tag, rfl⟩⟩
      · unfold State.takenInSlot at htag
        rw [← (hslots x.requester).2] at htag
        exact .inl ⟨⟨x, hqueue ▸ hx, hxclose, rfl⟩, htag⟩
    · exact .inr ⟨j, by rw [hjobs]; exact List.mem_append_left _ hj, howner, hnext⟩

/-! ## Landings -/

/-- An entry lands, with the job that it places: none, or the job of a decision (R65, R73). -/
inductive Places (s : State) (e : PostedEntry) : List Job → Prop where
  | none (hclose : e.commandClose = false) : Places s e []
  | job (d : Decision) (hclose : e.commandClose = true) (hdecision : s.slots[e.requester].decision = some d) :
      Places s e [d.job e.requester]

theorem State.OrderLaws.lands (h : s.OrderLaws) {e : PostedEntry} {rest : List PostedEntry} {placed : List Job}
    (hentries : s.queue.entries = e :: rest) (hplaced : Places s e placed) (hqueue : t.queue.entries = rest)
    (hjobs : t.jobs = s.jobs ++ placed) (hslots : SameSlots s t) (hcontexts : t.contexts = s.contexts) : t.OrderLaws := by
  have hmem {x : PostedEntry} (hx : x ∈ t.queue.entries) : x ∈ s.queue.entries := by
    rw [hentries, ← hqueue]
    exact List.mem_cons_of_mem _ hx
  refine ⟨fun before x after hx hclose htaken => ?_, fun k j hj howner hnext x hx => ?_, fun k hk x hx => ?_⟩
  · unfold State.takenInSlot at htaken
    rw [(hslots x.requester).2] at htaken
    exact h.endsLast (e :: before) x after (by rw [hentries, ← hqueue, hx]; rfl) hclose htaken
  · rw [hjobs] at hj
    rcases List.mem_append.mp hj with hj | hj
    · exact h.landed k j hj howner hnext x (hmem hx)
    · cases hplaced with
      | none => cases hj
      | job d hclose hdecision =>
        rw [List.mem_singleton.mp hj] at howner hnext
        cases (job_owner e.requester d).symm.trans howner
        refine h.endsLast [] e rest hentries hclose ?_ x (hqueue ▸ hx)
        rcases hnext with hn | hn
        · obtain ⟨tag, rfl⟩ := (describes_commit.begins _ d).mp hn
          exact .inl ⟨tag, hdecision⟩
        · obtain ⟨tag, rfl⟩ := (describes_abort.begins _ d).mp hn
          exact .inr ⟨tag, hdecision⟩
  · exact h.carried k (hcontexts ▸ hk) x (hmem hx)

theorem State.HeldLaws.lands (h : s.HeldLaws) {e : PostedEntry} {rest : List PostedEntry} {placed : List Job}
    (hnodup : (s.held.map (·.line)).Nodup) (hwork : s.engine.work = some (.entry .dataWrite))
    (hentries : s.queue.entries = e :: rest) (hplaced : Places s e placed) (hqueue : t.queue.entries = rest)
    (hjobs : t.jobs = s.jobs ++ placed) (hheld : t.held = s.held) (hcontexts : t.contexts = s.contexts)
    (hwork' : t.engine.work = none) : t.HeldLaws := by
  refine ⟨fun k hk => ?_, fun before x after hx hcls => ?_, fun y hy hys => ?_, ?_, ?_, fun y hy hys => ?_, by simp [hwork'],
    fun k hk => ?_⟩
  · rw [hheld]
    exact h.unheld k (hcontexts ▸ hk)
  · obtain ⟨k, hk, y, hy, hyline, hyk, hyagrees⟩ := h.captures (e :: before) x after
      (by rw [hentries, ← hqueue, hx]; rfl) hcls
    refine ⟨k, hk, y, hheld ▸ hy, hyline, hyk, ?_⟩
    rw [hwork', ite_self]
    exact hyagrees
  · rw [hheld] at hy
    obtain ⟨x, hx, hcls, hxline, hcontext⟩ := h.capturing y hy hys
    rw [hentries] at hx
    rcases List.mem_cons.mp hx with rfl | hx
    · obtain ⟨k, -, z, hz, hzline, -, hzagrees⟩ := h.captures [] x rest hentries hcls
      rw [if_pos rfl, hwork] at hzagrees
      have hzheld : z.state = .held := hzagrees
      rw [List.inj_on_of_nodup_map hnodup hy hz (hxline.symm.trans hzline.symm), hzheld] at hys
      cases hys
    · exact ⟨x, hqueue ▸ hx, hcls, hxline, hcontext⟩
  · have honce := h.captureOnce
    rw [hentries] at honce
    rw [hqueue]
    exact honce.sublist (((List.sublist_cons_self e rest).filter _).map _)
  · rw [hheld]
    exact h.recorded
  · exact absurd hys (h.noneRestoring (by simp [hwork]) (hheld ▸ hy))
  · rw [hheld]
    rcases hk with ⟨-, hw⟩ | ⟨j, hj, howner, hnext⟩
    · simp [hwork'] at hw
    · refine h.restored k (.inr ⟨j, ?_, howner, hnext⟩)
      rw [hjobs] at hj
      refine (List.mem_append.mp hj).resolve_right fun hj => ?_
      cases hplaced with
      | none => cases hj
      | job d hclose hdecision =>
        rw [List.mem_singleton.mp hj] at hnext
        obtain ⟨tag, rfl⟩ := (describes_abort.begins _ d).mp (.inr hnext)
        rw [job_of_taken rfl, takenJob_next] at hnext
        simp at hnext

theorem places_landHead (h : s.JobsListed) {e : PostedEntry} {rest : List PostedEntry}
    (hentries : s.queue.entries = e :: rest) :
    ∃ placed, Places s e placed ∧ (landHead e s).jobs = s.jobs ++ placed := by
  cases hclose : e.commandClose with
  | false => exact ⟨[], .none hclose, by simp [landHead_of_notClose hclose]⟩
  | true =>
    obtain ⟨-, ⟨d, hd⟩, -⟩ := h.headClose hentries hclose
    exact ⟨_, .job d hclose hd, jobs_landHead_of_close hclose hd⟩

end

/-! ## The replies to an entry's steps -/

theorem engineOut_releasePort (s : State) : (releasePort s).engineOut = false := engineOut_of_free rfl

/-- No WRITE of a context's own record is in progress. -/
theorem SameIssued.of_entry {s t : State} {step : EntryStep} (hwork : s.engine.work = some (.entry step))
    (hout : t.engineOut = false) : SameIssued s t :=
  .none (.inr fun v hv => by simp [WorkUnit.isRecord, ← Option.some.inj (hwork.symm.trans hv)]) (.inl hout)

section
variable {s t : State} (h : s.Laws) (hout : t.engineOut = false)
include h hout

/-- The head entry goes to its next step. -/
theorem State.Laws.nextEntryStep {step step' : EntryStep} (hwork : s.engine.work = some (.entry step))
    (hwork' : t.engine.work = some (.entry step'))
    (hkept : t.cwb = s.cwb ∧ t.device = s.device ∧ t.journal = s.journal ∧ t.contexts = s.contexts ∧
      t.queue.entries = s.queue.entries ∧ t.slots = s.slots ∧ t.jobs = s.jobs)
    (hholding : SameHolding s t) (hheld : t.HeldLaws) (hstep : step ≠ .dataWrite)
    (hrecord : ∀ q, step' = .recordData q → q = none) : t.Laws := by
  obtain ⟨hbase, hsame, hjournal, hcontexts, hentries, hslots, hjobs⟩ := hkept
  have hsameJobs : SameSlotJobs s t := fun j _ => by rw [hjobs]
  refine ⟨h.journal.congr hbase (by rw [hsame]; exact id) hjournal (.of_eq hcontexts),
    h.reserve.congr (by rw [hsame]; exact id) (by rw [hjournal]) (.of_eq hcontexts) hholding (fun _ => .of_entry hwork hout),
    h.command.congr (.of_eq hentries (.of_eq hslots) hsameJobs) (by rw [hcontexts]; exact fun _ => ⟨rfl, Iff.rfl, Iff.rfl⟩),
    h.order.congr hentries (.of_eq hslots) hsameJobs (by rw [hcontexts]; exact fun _ => id), hheld,
    fun next hnext => ?_, fun _ q hq => ?_, fun _ hfree => by simp [hwork'] at hfree⟩
  · obtain ⟨e, rest, hqueue, hcls, hbegun⟩ := h.unit.begun step hwork
    rw [hentries, hcontexts]
    exact ⟨e, rest, hqueue, fun _ => hcls hstep, hbegun⟩
  · rw [hrecord q (WorkUnit.entry.inj (Option.some.inj (hwork'.symm.trans hq))), hout]
    rfl

/-- The capture record is durable: the held entry is HELD (R36, R71). -/
theorem State.Laws.recordDurable {q : Seq} {e : PostedEntry} {rest : List PostedEntry}
    (hnodup : (s.held.map (·.line)).Nodup) (hwork : s.engine.work = some (.entry (.recordHeader q)))
    (hqueue : s.queue.entries = e :: rest) (hwork' : t.engine.work = some (.entry .dataWrite))
    (hkept : t.cwb = s.cwb ∧ t.device = s.device ∧ t.journal = s.journal ∧ t.contexts = s.contexts ∧
      t.queue.entries = s.queue.entries ∧ t.slots = s.slots ∧ t.jobs = s.jobs)
    (hheld : t.held = (updHeld e.line e.owner HeldEntry.nowHeld s).held) : t.Laws := by
  have hcls := h.headCls hwork hqueue (by simp)
  obtain ⟨k, hk, howner, -, -, x, hx, hxline, rfl, hxagrees⟩ := h.headCapture hwork hqueue hcls
  obtain ⟨hxstate, hxrecord⟩ : x.state = .capturing ∧ x.record = some q := hxagrees
  rw [howner, ← hxline] at hheld
  have hunallocated : x.nowHeld.unallocated = x.unallocated := by
    simp [HeldEntry.unallocated, HeldEntry.nowHeld, hxrecord]
  refine h.nextEntryStep hout hwork hwork' hkept (.updHeld hnodup hx hheld rfl hunallocated) ?_ (by simp) (by simp)
  obtain ⟨-, -, -, hcontexts, hentries, -, hjobs⟩ := hkept
  refine h.held.updatesHead hwork hqueue hcls hxline (f := HeldEntry.nowHeld) (fun _ => ⟨rfl, rfl⟩) hheld hentries hjobs
    (by rw [hcontexts]; exact fun _ => id) hwork' (fun _ _ _ => rfl) hk (fun y _ hy => by cases hy) (fun y hy hyline _ _ => ?_)
    (fun y _ hy => by cases hy)
  rw [List.inj_on_of_nodup_map hnodup hy hx hyline]
  simp [HeldEntry.nowHeld, hxrecord]

theorem State.Laws.headLands {e : PostedEntry} {rest : List PostedEntry}
    {placed : List Job} (hnodup : (s.held.map (·.line)).Nodup) (hwork : s.engine.work = some (.entry .dataWrite))
    (hentries : s.queue.entries = e :: rest) (hplaced : Places s e placed) (hqueue : t.queue.entries = rest)
    (hjobs : t.jobs = s.jobs ++ placed) (hwork' : t.engine.work = none)
    (hkept : t.cwb = s.cwb ∧ t.device = s.device ∧ t.journal = s.journal ∧ t.contexts = s.contexts ∧ t.held = s.held ∧
      t.slots = s.slots) : t.Laws := by
  obtain ⟨hbase, hsame, hjournal, hcontexts, hheld, hslots⟩ := hkept
  have howes : SameOwes s t := by
    cases hplaced with
    | none hclose => exact owes_lands hentries hclose hqueue (by simpa using hjobs) (.of_eq hslots)
    | job d hclose hdecision => exact owes_landsClose hentries hclose hdecision hqueue hjobs (.of_eq hslots)
  exact ⟨h.journal.congr hbase (by rw [hsame]; exact id) hjournal (.of_eq hcontexts),
    h.reserve.congr (by rw [hsame]; exact id) (by rw [hjournal]) (.of_eq hcontexts) (.of_eq hheld) (fun _ => .of_entry hwork hout),
    h.command.congr howes (by rw [hcontexts]; exact fun _ => ⟨rfl, Iff.rfl, Iff.rfl⟩),
    h.order.lands hentries hplaced hqueue hjobs (.of_eq hslots) hcontexts,
    h.held.lands hnodup hwork hentries hplaced hqueue hjobs hheld hcontexts hwork',
    fun step hstep => by simp [hwork'] at hstep, fun _ q hq => by simp [hwork'] at hq, fun _ _ => hout⟩

end

end Sys2Proof.Machine

/-! PROOF. The laws over the replies to job steps (R25, R28, R30, R39 to R41, R77, R174). -/

namespace Sys2Proof.Machine

/-- A step of the work that ends an epoch (R28, R30). -/
def JobStep.endsEpoch (n : JobStep) : Prop := n = .commitMarker ∨ n = .restore ∨ n = .abortedMarker

theorem agrees_of_notEntry {w : Option WorkUnit} (h : ∀ step, w ≠ some (.entry step)) (x : HeldEntry) :
    x.agrees w ↔ x.unallocated = true := by
  cases w with
  | none => exact Iff.rfl
  | some w =>
    cases w with
    | entry step => exact absurd rfl (h step)
    | write _ | restore _ _ _ | statusFirst _ | statusSecond _ => exact Iff.rfl

section
variable {s t : State}

/-! ## What the oldest job's move leaves -/

/-- The oldest job moves on: what its slot owes follows its step, and the other slots owe what they did. -/
theorem owes_moves {j j' : Job} {rest : List Job} {k : Requester} {opcode : BitVec 4} {step : JobStep → Prop}
    (hjobs : s.jobs = j :: rest) (hjobs' : t.jobs = j' :: rest) (howner : j'.owner = j.owner)
    (hqueue : t.queue.entries = s.queue.entries) (hslots : SameSlots s t)
    (hstep : j.owner = .slot k → (step j'.next ↔ step j.next)) : t.owes k opcode step ↔ s.owes k opcode step := by
  unfold State.owes State.closeQueued State.takenInSlot
  rw [hqueue, (hslots k).2, hjobs, hjobs']
  refine or_congr Iff.rfl ?_
  simp only [List.mem_cons, exists_eq_or_imp, howner]
  exact or_congr (and_congr_right hstep) Iff.rfl

theorem owes_leaves {j : Job} {rest : List Job} {k : Requester} {opcode : BitVec 4} {step : JobStep → Prop}
    (hjobs : s.jobs = j :: rest) (hjobs' : t.jobs = rest) (hqueue : t.queue.entries = s.queue.entries)
    (hslot : t.slots[k].decision = s.slots[k].decision) (hother : j.owner = .slot k → ¬ step j.next) :
    t.owes k opcode step ↔ s.owes k opcode step := by
  unfold State.owes State.closeQueued State.takenInSlot
  rw [hqueue, hslot, hjobs, hjobs']
  refine or_congr Iff.rfl ?_
  simp only [List.mem_cons, exists_eq_or_imp]
  exact ⟨.inr, fun hj => hj.resolve_left fun ⟨howner, hnext⟩ => hother howner hnext⟩

/-- The oldest job stands at its result: its slot owes nothing. -/
theorem State.JobsListed.owesNothing (h : s.JobsListed) {j j' : Job} {rest : List Job} {k : Requester}
    {opcode : BitVec 4} {step : JobStep → Prop} (hjobs : s.jobs = j :: rest) (howner : j.owner = .slot k)
    (hjobs' : t.jobs = j' :: rest) (hnext : ¬ step j'.next) (hqueue : t.queue.entries = s.queue.entries) :
    ¬ t.owes k opcode step := by
  obtain ⟨hnotQueued, hnoOther, -⟩ := h.headOnly hjobs howner
  rintro (⟨hclose, -⟩ | ⟨i, hi, hio, hin⟩)
  · unfold State.closeQueued at hclose
    rw [hqueue] at hclose
    exact hnotQueued hclose
  · rw [hjobs'] at hi
    rcases List.mem_cons.mp hi with rfl | hi
    · exact hnext hin
    · exact hnoOther i hi hio

theorem State.OrderLaws.moves (h : s.OrderLaws) {j j' : Job} {rest : List Job} (hjobs : s.jobs = j :: rest)
    (hjobs' : t.jobs = j' :: rest) (howner : j'.owner = j.owner) (hqueue : t.queue.entries = s.queue.entries)
    (hslots : SameSlots s t) (hends : j'.next.endsEpoch → j.next.endsEpoch)
    (hclosed : ∀ k : Fin 4, t.contexts[k].state = .closed →
      s.contexts[k].state = .closed ∨ (j.owner = .slot k ∧ j.next.endsEpoch)) : t.OrderLaws := by
  refine ⟨fun before e after he hclose htaken => ?_, fun k i hi hio hin => ?_, fun k hk => ?_⟩
  · unfold State.takenInSlot at htaken
    rw [(hslots e.requester).2] at htaken
    exact h.endsLast before e after (hqueue ▸ he) hclose htaken
  · rw [hqueue]
    rw [hjobs'] at hi
    rcases List.mem_cons.mp hi with rfl | hi
    · exact h.landed k j (by simp [hjobs]) (howner.symm.trans hio) (hends hin)
    · exact h.landed k i (by simp [hjobs, hi]) hio hin
  · rw [hqueue]
    rcases hclosed k hk with hc | ⟨hj, hn⟩
    · exact h.carried k hc
    · exact h.landed k j (by simp [hjobs]) hj hn

/-- A job's unit ends, and the lines that `p` rejects leave the table. -/
theorem State.HeldLaws.frees (h : s.HeldLaws) {p : HeldEntry → Bool} (hheld : t.held = s.held.filter p)
    (hqueue : t.queue.entries = s.queue.entries) (hwork : ∀ step, s.engine.work ≠ some (.entry step))
    (hwork' : t.engine.work = none)
    (hkeeps : ∀ e ∈ s.queue.entries, ∀ x ∈ s.held, e.context = some x.holder → p x = true)
    (hrestoring : ∀ x ∈ s.held, x.state = .restoring → p x = false)
    (hclosed : ∀ k : Fin 4, t.contexts[k].state = .closed → ∀ x ∈ s.held, x.holder = k → p x = false)
    (hmarker : ∀ k : Fin 4, (∃ j ∈ t.jobs, j.owner = .slot k ∧ j.next = .abortedMarker) → ∀ x ∈ s.held, x.holder = k →
      p x = false) : t.HeldLaws := by
  have hmem {x : HeldEntry} (hx : x ∈ t.held) : x ∈ s.held ∧ p x = true := by
    rw [hheld] at hx
    exact List.mem_filter.mp hx
  have hgone {x : HeldEntry} (hx : x ∈ t.held) : ¬ p x = false := by simp [(hmem hx).2]
  refine ⟨fun k hk x hx hxk => hgone hx (hclosed k hk x (hmem hx).1 hxk), fun before e after he hcls => ?_,
    fun x hx => ?_, ?_, fun x hx => h.recorded x (hmem hx).1, fun x hx hxs => absurd (hrestoring x (hmem hx).1 hxs) (hgone hx),
    by simp [hwork'], fun k hk x hx hxk => ?_⟩
  · rw [hqueue] at he
    obtain ⟨k, hk, x, hx, hxline, rfl, hxagrees⟩ := h.captures before e after he hcls
    refine ⟨_, hk, x, ?_, hxline, rfl, ?_⟩
    · rw [hheld]
      exact List.mem_filter.mpr ⟨hx, hkeeps e (by simp [he]) x hx hk⟩
    · rw [hwork', ite_self]
      refine (agrees_of_notEntry (by split <;> simp [hwork]) x).mp hxagrees
  · rw [hqueue]
    exact h.capturing x (hmem hx).1
  · rw [hqueue]
    exact h.captureOnce
  · rcases hk with ⟨-, hw⟩ | hj
    · simp [hwork'] at hw
    · exact hgone hx (hmarker k hj x (hmem hx).1 hxk)

theorem SameHolding.filter {p : HeldEntry → Bool} (hheld : t.held = s.held.filter p)
    (hp : ∀ x ∈ s.held, x.unallocated = true → p x = true) : SameHolding s t := fun k => by
  rw [unallocated_length, unallocated_length, State.heldCount, State.heldCount, hheld]
  refine ⟨List.filter_sublist.countP_le, ?_⟩
  rw [List.countP_filter]
  refine List.countP_congr fun x hx => ?_
  simp only [Bool.and_eq_true, and_iff_left_iff_imp, and_imp]
  exact fun _ => hp x hx

/-- A reply to a job's step that writes no record of its context's own. -/
theorem State.Laws.answers (h : s.Laws) (hout : t.engineOut = false) {w : WorkUnit} (hwork : s.engine.work = some w)
    (hrecord : ¬ w.isRecord) (hwork' : ∀ step, t.engine.work ≠ some (.entry step)) (hsame : t.device = s.device)
    (hjournal : t.JournalLaws) (hreserved : t.journal.reserved = s.journal.reserved) (hterms : SameTerms s t)
    (hholding : SameHolding s t) (howes : SameOwes s t) (horder : t.OrderLaws) (hheld : t.HeldLaws) : t.Laws :=
  ⟨hjournal, h.reserve.congr (by rw [hsame]; exact id) hreserved hterms hholding
      (fun _ => .none (.inr fun v hv => Option.some.inj (hwork.symm.trans hv) ▸ hrecord) (.inl hout)),
    h.command.congr howes fun k => by obtain ⟨hstate, howed, -⟩ := hterms k; rw [hstate]; exact ⟨howed, Iff.rfl, Iff.rfl⟩,
    horder, hheld, fun step hstep => absurd hstep (hwork' step), fun _ q hq => absurd hq (hwork' _), fun _ _ => hout⟩

end

end Sys2Proof.Machine

/-! PROOF. The laws after each job step's WRITE (R19, R20, R25, R28, R30, R77, R111, R174). -/

namespace Sys2Proof.Machine

/-- A step that writes a record of its slot's context, or restores its lines. -/
def JobStep.isRecord (n : JobStep) : Prop := n = .openRecord ∨ n.endsEpoch

theorem not_isRecord_result : ¬ JobStep.isRecord .result := by simp [JobStep.isRecord, JobStep.endsEpoch]

theorem not_isRecord_of_format {n : JobStep} (h : n.isFormat) : ¬ n.isRecord := by
  rcases h with rfl | ⟨i, rfl⟩ | rfl <;> simp [JobStep.isRecord, JobStep.endsEpoch]

theorem filter_true_of_eq {l l' : List HeldEntry} (h : l' = l) : l' = l.filter fun _ => true := by
  rw [h, List.filter_true]

section
variable {s t : State}

theorem SameOwes.moves {j j' : Job} {rest : List Job} (hjobs : s.jobs = j :: rest) (hjobs' : t.jobs = j' :: rest)
    (howner : j'.owner = j.owner) (hqueue : t.queue.entries = s.queue.entries) (hslots : SameSlots s t)
    (hnext : ¬ j.next.isRecord) (hnext' : ¬ j'.next.isRecord) : SameOwes s t := by
  have hopen {n : JobStep} (hn : ¬ n.isRecord) : ¬ n = .openRecord := fun hn' => hn (.inl hn')
  have hcommit {n : JobStep} (hn : ¬ n.isRecord) : ¬ n = .commitMarker := fun hn' => hn (.inr (.inl hn'))
  have habort {n : JobStep} (hn : ¬ n.isRecord) : ¬ (n = .restore ∨ n = .abortedMarker) := fun hn' => hn (.inr (.inr hn'))
  exact ⟨fun k => owes_moves hjobs hjobs' howner hqueue hslots fun _ => iff_of_false (hopen hnext') (hopen hnext),
    fun k => owes_moves hjobs hjobs' howner hqueue hslots fun _ => iff_of_false (hcommit hnext') (hcommit hnext),
    fun k => owes_moves hjobs hjobs' howner hqueue hslots fun _ => iff_of_false (habort hnext') (habort hnext)⟩

/-- A job's unit ends, no line leaves the table, and no job comes to stand before its ABORTED marker. -/
theorem State.HeldLaws.freesAll (h : s.HeldLaws) (hheld : t.held = s.held) (hqueue : t.queue.entries = s.queue.entries)
    {w : WorkUnit} (hwork : s.engine.work = some w) (hentry : ∀ step, w ≠ .entry step)
    (hrestore : ∀ line q phase, w ≠ .restore line q phase) (hwork' : t.engine.work = none)
    (hclosed : ∀ k : Fin 4, t.contexts[k].state = .closed → ∀ x ∈ s.held, x.holder ≠ k)
    (hmarker : ∀ j ∈ t.jobs, j.owner ≠ .statusUnit → j.next = .abortedMarker → j ∈ s.jobs) : t.HeldLaws := by
  have hnone : ∀ x ∈ s.held, x.state ≠ .restoring := fun x hx =>
    h.noneRestoring (by rw [hwork]; exact fun line q phase hw => hrestore line q phase (Option.some.inj hw)) hx
  refine h.frees (p := fun _ => true) (filter_true_of_eq hheld) hqueue
    (by rw [hwork]; exact fun step hw => hentry step (Option.some.inj hw)) hwork' (fun _ _ _ _ _ => rfl)
    (fun x hx hxs => absurd hxs (hnone x hx)) (fun k hk x hx hxk => absurd hxk (hclosed k hk x hx)) fun k hk x hx hxk => ?_
  obtain ⟨j, hj, howner, hnext⟩ := hk
  exact absurd hxk (h.restored k (.inr ⟨j, hmarker j hj (by simp [howner]) hnext, howner, hnext⟩) x hx)

section
variable (h : s.Laws) (hout : t.engineOut = false) {j : Job} {rest : List Job} (hjobs : s.jobs = j :: rest)
include h hout hjobs

/-- The oldest job's WRITE, no record of its context's, leads to a step that is none either. -/
theorem State.Laws.headMoves {j' : Job} {w : WorkUnit} (hwork : s.engine.work = some w) (hrecord : ¬ w.isRecord)
    (hentry : ∀ step, w ≠ .entry step) (hrestore : ∀ line q phase, w ≠ .restore line q phase)
    (hjobs' : t.jobs = j' :: rest) (howner : j'.owner = j.owner) (hnext : ¬ j.next.isRecord) (hnext' : ¬ j'.next.isRecord)
    (hwork' : t.engine.work = none) (hjournal : t.JournalLaws) (hreserved : t.journal.reserved = s.journal.reserved)
    (hkept : t.device = s.device ∧ t.contexts = s.contexts ∧ t.held = s.held ∧
      t.queue.entries = s.queue.entries ∧ t.slots = s.slots) : t.Laws := by
  obtain ⟨hsame, hcontexts, hheld, hqueue, hslots⟩ := hkept
  refine h.answers hout hwork hrecord (by simp [hwork']) hsame hjournal hreserved (.of_eq hcontexts) (.of_eq hheld)
    (.moves hjobs hjobs' howner hqueue (.of_eq hslots) hnext hnext')
    (h.order.moves hjobs hjobs' howner hqueue (.of_eq hslots) (fun hn => absurd (.inr hn) hnext') fun k hk => ?_)
    (h.held.freesAll hheld hqueue hwork hentry hrestore hwork' (by rw [hcontexts]; exact h.held.unheld) fun i hi _ hin => ?_)
  · rw [hcontexts] at hk
    exact .inl hk
  · rw [hjobs'] at hi
    rw [hjobs]
    rcases List.mem_cons.mp hi with rfl | hi
    · exact absurd (.inr (.inr (.inr hin))) hnext'
    · exact List.mem_cons_of_mem _ hi

/-- The result record is durable: the job leaves the list and its slot is IDLE (R117). -/
theorem State.Laws.headLeaves {k : Requester} (hlisted : s.JobsListed) (howner : j.owner = .slot k)
    (hnext : j.next = .result) (hwork : s.engine.work = some (.write .result)) (hjobs' : t.jobs = rest)
    (hwork' : t.engine.work = none)
    (hkept : t.cwb = s.cwb ∧ t.device = s.device ∧ t.journal = s.journal ∧ t.contexts = s.contexts ∧ t.held = s.held ∧
      t.queue.entries = s.queue.entries)
    (hslots : ∀ l : Fin 4, l ≠ k → t.slots[l].decision = s.slots[l].decision) : t.Laws := by
  obtain ⟨hbase, hsame, hjournal, hcontexts, hheld, hqueue⟩ := hkept
  obtain ⟨hnotQueued, hnoOther, -⟩ := hlisted.headOnly hjobs howner
  have hmem {i : Job} (hi : i ∈ t.jobs) : i ∈ s.jobs := by
    rw [hjobs, ← hjobs']
    exact List.mem_cons_of_mem _ hi
  have howes : SameOwes s t := .of_describes fun opcode step hdescribes l => by
    by_cases hl : l = k
    · subst hl
      refine iff_of_false ?_ ?_
      · rintro (⟨hclose, -⟩ | ⟨i, hi, hio, -⟩)
        · unfold State.closeQueued at hclose
          rw [hqueue] at hclose
          exact hnotQueued hclose
        · exact hnoOther i (hjobs' ▸ hi) hio
      · rintro (⟨hclose, -⟩ | ⟨i, hi, hio, hin⟩)
        · exact hnotQueued hclose
        · rw [hjobs] at hi
          rcases List.mem_cons.mp hi with rfl | hi
          · exact hdescribes.ends (hnext ▸ hin)
          · exact hnoOther i hi hio
    · exact owes_leaves hjobs hjobs' hqueue (hslots l hl) fun hj => absurd (by simpa [howner] using hj.symm) hl
  refine h.answers hout hwork (by simp [WorkUnit.isRecord]) (by simp [hwork']) hsame
    (h.journal.congr hbase (by rw [hsame]; exact id) hjournal (.of_eq hcontexts)) (by rw [hjournal]) (.of_eq hcontexts)
    (.of_eq hheld) howes ⟨fun before e after he hclose htaken => ?_, fun l i hi hio hin => ?_, fun l hl => ?_⟩
    (h.held.freesAll hheld hqueue hwork (by simp) (by simp) hwork' (by rw [hcontexts]; exact h.held.unheld)
      fun i hi _ _ => hmem hi)
  · rw [hqueue] at he
    have hne : e.requester ≠ k := fun hek => hnotQueued ⟨e, by simp [he], hclose, hek⟩
    unfold State.takenInSlot at htaken
    rw [hslots _ hne] at htaken
    exact h.order.endsLast before e after he hclose htaken
  · rw [hqueue]
    exact h.order.landed l i (hmem hi) hio hin
  · rw [hqueue]
    exact h.order.carried l (hcontexts ▸ hl)

omit hjobs in
/-- The status job ends, and a new one may be placed (R174). -/
theorem State.Laws.statusEnds {second : Line} (hwork : s.engine.work = some (.statusSecond second))
    (hjobs' : SameSlotJobs s t) (hwork' : t.engine.work = none)
    (hkept : t.cwb = s.cwb ∧ t.device = s.device ∧ t.journal = s.journal ∧ t.contexts = s.contexts ∧ t.held = s.held ∧
      t.queue.entries = s.queue.entries ∧ t.slots = s.slots) : t.Laws := by
  obtain ⟨hbase, hsame, hjournal, hcontexts, hheld, hqueue, hslots⟩ := hkept
  exact h.answers hout hwork (by simp [WorkUnit.isRecord]) (by simp [hwork']) hsame
    (h.journal.congr hbase (by rw [hsame]; exact id) hjournal (.of_eq hcontexts)) (by rw [hjournal]) (.of_eq hcontexts)
    (.of_eq hheld) (.of_eq hqueue (.of_eq hslots) hjobs')
    (h.order.congr hqueue (.of_eq hslots) hjobs' (by rw [hcontexts]; exact fun _ => id))
    (h.held.freesAll hheld hqueue hwork (by simp) (by simp) hwork' (by rw [hcontexts]; exact h.held.unheld)
      fun i hi hio _ => (hjobs' i hio).mp hi)

end

/-! ## The records of a context -/

/-- The record that the oldest job wrote for its slot's context is durable: the job stands at its result (R25, R28, R30). -/
structure RecordEnds (s t : State) (j j' : Job) (rest : List Job) (k : Requester) (step : JobStep) : Prop where
  jobs : s.jobs = j :: rest
  owner : j.owner = .slot k
  run : s.device = .run
  issued : s.engineOut = true
  work : s.engine.work = some (.write step)
  jobs' : t.jobs = j' :: rest
  owner' : j'.owner = j.owner
  next' : j'.next = .result
  work' : t.engine.work = none
  out : t.engineOut = false
  base : t.cwb = s.cwb
  device : t.device = s.device
  queue : t.queue.entries = s.queue.entries
  slots : t.slots = s.slots

section
variable {j j' : Job} {rest : List Job} {k : Requester} {step : JobStep} (hends : RecordEnds s t j j' rest k step)
include hends

theorem RecordEnds.notHead {l : Requester} (hl : l ≠ k) : s.headJobOf l = false :=
  headJobOf_other hends.jobs hends.owner hl

theorem RecordEnds.issuedOther {l : Requester} (hl : l ≠ k) :
    t.markerIssued l = s.markerIssued l ∧ t.openIssued l = s.openIssued l := by
  obtain ⟨hmarker, hopen⟩ := notIssued_of_notHead (hends.notHead hl)
  obtain ⟨hmarker', hopen'⟩ := notIssued_of_notOut hends.out l
  exact ⟨hmarker'.trans hmarker.symm, hopen'.trans hopen.symm⟩

theorem RecordEnds.owesOther {l : Requester} (hl : l ≠ k) {opcode : BitVec 4} {describes : JobStep → Prop} :
    t.owes l opcode describes ↔ s.owes l opcode describes :=
  owes_moves hends.jobs hends.jobs' hends.owner' hends.queue (.of_eq hends.slots) fun hjl =>
    absurd (by simpa [hends.owner] using hjl.symm) hl

/-- No job comes to stand before its ABORTED marker. -/
theorem RecordEnds.oldMarker {i : Job} (hi : i ∈ t.jobs) (hnext : i.next = .abortedMarker) : i ∈ s.jobs := by
  rw [hends.jobs'] at hi
  rw [hends.jobs]
  rcases List.mem_cons.mp hi with rfl | hi
  · simp [hends.next'] at hnext
  · exact List.mem_cons_of_mem _ hi

theorem RecordEnds.unitLaws : t.UnitLaws :=
  ⟨by simp [hends.work'], by simp [hends.work'], fun _ _ => hends.out⟩

/-- The other contexts stand as they were; the slot's own has no work left. -/
theorem RecordEnds.commandLaws (h : s.Laws) (hlisted : s.JobsListed)
    (hother : ∀ l : Fin 4, l ≠ k → t.contexts[l] = s.contexts[l]) (hnotOwed : t.contexts[k].openOwed = false)
    (hnotClosing : t.contexts[k].state ≠ .closing) (hnotAborting : t.contexts[k].state ≠ .aborting) : t.CommandLaws := by
  have hnothing {opcode : BitVec 4} {describes : JobStep → Prop} (hresult : ¬ describes .result) :
      ¬ t.owes k opcode describes :=
    hlisted.owesNothing hends.jobs hends.owner hends.jobs' (by rwa [hends.next']) hends.queue
  refine ⟨fun l => ?_, fun l => ?_, fun l => ?_⟩ <;> by_cases hl : l = k
  · rw [hl]
    exact iff_of_false (by rw [hnotOwed]; exact Bool.false_ne_true) (hnothing (by simp))
  · rw [hother l hl, h.command.opening l]
    exact (hends.owesOther hl).symm
  · rw [hl]
    exact iff_of_false hnotClosing (hnothing (by simp))
  · rw [hother l hl, h.command.closing l]
    exact (hends.owesOther hl).symm
  · rw [hl]
    exact iff_of_false hnotAborting (hnothing (by simp))
  · rw [hother l hl, h.command.aborting l]
    exact (hends.owesOther hl).symm

theorem RecordEnds.orderLaws (h : s.OrderLaws) (hclosed : ∀ l : Fin 4, t.contexts[l].state = .closed →
    s.contexts[l].state = .closed ∨ (j.owner = .slot l ∧ j.next.endsEpoch)) : t.OrderLaws :=
  h.moves hends.jobs hends.jobs' hends.owner' hends.queue (.of_eq hends.slots)
    (fun hn => by rw [hends.next'] at hn; exact absurd (.inr hn) not_isRecord_result) hclosed

end

/-! ### The OPEN record -/

section
variable {j j' : Job} {rest : List Job} {k : Requester} (h : s.Laws) (hends : RecordEnds s t j j' rest k .openRecord)
  (hnext : j.next = .openRecord)
  (hcontexts : t.contexts = (updContext k (fun c => { c with openOwed := false }) s).contexts)
include h hends hcontexts

omit h hends in
theorem openDurable_context (l : Fin 4) :
    t.contexts[l] = if l = k then { s.contexts[k] with openOwed := false } else s.contexts[l] := by
  rw [hcontexts, getElem_updContext]

omit h hends in
theorem openDurable_same (l : Fin 4) : t.contexts[l].state = s.contexts[l].state ∧
    t.contexts[l].openWritten = s.contexts[l].openWritten ∧ t.contexts[l].epoch = s.contexts[l].epoch ∧
      t.contexts[l].lineLimit = s.contexts[l].lineLimit := by
  rw [openDurable_context hcontexts]
  by_cases hl : l = k
  · rw [if_pos hl, hl]
    exact ⟨rfl, rfl, rfl, rfl⟩
  · rw [if_neg hl]
    exact ⟨rfl, rfl, rfl, rfl⟩

include hnext in
omit hcontexts in
/-- The context was OPEN with its OPEN record issued. -/
theorem openDurable_opened : s.contexts[k].state = .opened ∧ s.contexts[k].openWritten = true := by
  have howed : s.contexts[k].openOwed = true :=
    (h.command.opening k).mpr (.inr ⟨j, by simp [hends.jobs], hends.owner, hnext⟩)
  obtain ⟨hopened, hwritten⟩ := h.reserve.opened k howed
  exact ⟨hopened, (hwritten hends.run).trans
    ((openIssued_iff s k).mpr ⟨hends.issued, headJobOf_own hends.jobs hends.owner, hends.work⟩)⟩

include hnext in
theorem openDurable_reserveLaws (hreserved : t.journal.reserved = s.journal.reserved) (hheld : t.held = s.held) :
    t.ReserveLaws := by
  have hcontext := openDurable_context hcontexts
  have hsame := openDurable_same hcontexts
  have hnotMarker (l : Requester) : s.markerIssued l = false := by
    rw [← Bool.not_eq_true, markerIssued_iff, hends.work]
    simp
  refine ⟨fun l hl => ?_, fun _ l hl => ?_, fun l hl => ?_, fun l hl => ?_, fun l hl hlo => ?_⟩
  · rw [hreserved]
    exact h.reserve.unreserved l ((hsame l).1 ▸ hl)
  · rw [hreserved, (hsame l).2.1, hheld, (notIssued_of_notOut hends.out l).1, ← hnotMarker l]
    exact h.reserve.balance hends.run l ((hsame l).1 ▸ hl)
  · rw [(hsame l).2.2.2, State.heldCount, hheld]
    exact h.reserve.limit l ((hsame l).1 ▸ hl)
  · have hlk : l ≠ k := by
      rintro rfl
      rw [hcontext, if_pos rfl] at hl
      cases hl
    rw [hcontext, if_neg hlk] at hl ⊢
    obtain ⟨hopened, hwritten⟩ := h.reserve.opened l hl
    exact ⟨hopened, fun _ => (hwritten hends.run).trans (hends.issuedOther hlk).2.symm⟩
  · by_cases hlk : l = k
    · rw [hlk, (hsame k).2.1]
      exact (openDurable_opened h hends hnext).2
    · rw [hcontext, if_neg hlk] at hl hlo ⊢
      exact h.reserve.written l hl hlo

include hnext in
/-- The OPEN record is durable: the hold on the context's entries ends (R25, R68). -/
theorem State.Laws.openDurable (hlisted : s.JobsListed) (hjournal : t.journal = s.journal) (hheld : t.held = s.held) :
    t.Laws := by
  have hcontext := openDurable_context hcontexts
  have hsame := openDurable_same hcontexts
  obtain ⟨hopened, -⟩ := openDurable_opened h hends hnext
  refine ⟨h.journal.congr hends.base (by rw [hends.device]; exact id) hjournal (fun l => ?_),
    openDurable_reserveLaws h hends hnext hcontexts (by rw [hjournal]) hheld,
    hends.commandLaws h hlisted (fun l hl => by rw [hcontext, if_neg hl]) (by rw [hcontext, if_pos rfl])
      (by rw [(hsame k).1, hopened]; simp) (by rw [(hsame k).1, hopened]; simp),
    hends.orderLaws h.order (fun l hl => .inl ((hsame l).1 ▸ hl)),
    h.held.freesAll hheld hends.queue hends.work (by simp) (by simp) hends.work'
      (fun l hl => h.held.unheld l ((hsame l).1 ▸ hl)) (fun _ hi _ => hends.oldMarker hi), hends.unitLaws⟩
  obtain ⟨hstate, hwritten, hepoch, -⟩ := hsame l
  exact ⟨by rw [hstate], hwritten, hepoch⟩

end

/-! ### The end markers -/

section
variable {j j' : Job} {rest : List Job} {k : Requester} {step : JobStep} (h : s.Laws)
  (hends : RecordEnds s t j j' rest k step) (hnext : j.next.endsEpoch)
  (hstep : step = .commitMarker ∨ step = .abortedMarker)
  (hcontexts : t.contexts = (updContext k (fun c => { c with state := .closed }) s).contexts)
  (hheld : t.held = s.held.filter fun x => !(x.holder == k))
include h hends

omit h hends in
include hcontexts in
theorem epochEnds_context (l : Fin 4) :
    t.contexts[l] = if l = k then { s.contexts[k] with state := .closed } else s.contexts[l] := by
  rw [hcontexts, getElem_updContext]

omit h hends in
include hheld in
/-- The lines of the other contexts stay. -/
theorem epochEnds_countP {l : Requester} (hl : l ≠ k) (p : HeldEntry → Bool) (hp : ∀ x, p x = true → x.holder = l) :
    t.held.countP p = s.held.countP p := by
  rw [hheld, List.countP_filter]
  refine List.countP_congr fun x _ => ?_
  simp only [Bool.and_eq_true, and_iff_left_iff_imp]
  exact fun hx => by simp [hp x hx, hl]

include hnext hstep in
/-- With its marker issued and no line unrecorded, the context's reserve is spent (R31). -/
theorem epochEnds_unreserved : s.journal.reserved[k] = 0 := by
  have hj : j ∈ s.jobs := by simp [hends.jobs]
  obtain ⟨-, hopen, -, hwritten⟩ := h.endingContext hj hends.owner hnext
  have hmarker : s.markerIssued k = true := by
    refine (markerIssued_iff s k).mpr ⟨hends.issued, headJobOf_own hends.jobs hends.owner, ?_⟩
    rw [hends.work]
    rcases hstep with rfl | rfl <;> simp
  have hempty : (s.held.filter fun x => x.holder == k && x.unallocated) = [] := by
    refine List.filter_eq_nil_iff.mpr fun x hx => ?_
    simp only [Bool.and_eq_true, beq_iff_eq, not_and]
    exact fun hxk hxu => h.noneCapturing hj hends.owner hnext hx hxk ((unallocated_iff x).mp hxu).1
  have hbalance := h.reserve.balance hends.run k hopen
  rwa [hmarker, hwritten, hempty] at hbalance

include hnext hstep hcontexts hheld in
theorem epochEnds_reserveLaws (hreserved : t.journal.reserved = s.journal.reserved) : t.ReserveLaws := by
  have hcontext := epochEnds_context hcontexts
  have hclosed : t.contexts[k].state = .closed := by rw [hcontext, if_pos rfl]
  have hne {l : Fin 4} (hl : t.contexts[l].state ≠ .closed) : l ≠ k := fun hlk => hl (hlk ▸ hclosed)
  refine ⟨fun l hl => ?_, fun _ l hl => ?_, fun l hl => ?_, fun l hl => ?_, fun l hl hlo => ?_⟩
  · rw [hreserved]
    by_cases hlk : l = k
    · rw [hlk]
      exact epochEnds_unreserved h hends hnext hstep
    · rw [hcontext, if_neg hlk] at hl
      exact h.reserve.unreserved l hl
  · have hlk := hne hl
    rw [hcontext, if_neg hlk] at hl ⊢
    rw [hreserved, unallocated_length, epochEnds_countP hheld hlk _ (by simp +contextual), ← unallocated_length,
      (hends.issuedOther hlk).1]
    exact h.reserve.balance hends.run l hl
  · have hlk := hne hl
    rw [hcontext, if_neg hlk] at hl ⊢
    rw [State.heldCount, epochEnds_countP hheld hlk _ (by simp)]
    exact h.reserve.limit l hl
  · obtain ⟨-, -, hnotOwed, -⟩ := h.endingContext (by simp [hends.jobs]) hends.owner hnext
    have hlk : l ≠ k := by
      rintro rfl
      rw [hcontext, if_pos rfl, hnotOwed] at hl
      cases hl
    rw [hcontext, if_neg hlk] at hl ⊢
    obtain ⟨hopened, hwritten⟩ := h.reserve.opened l hl
    exact ⟨hopened, fun _ => (hwritten hends.run).trans (hends.issuedOther hlk).2.symm⟩
  · have hlk := hne hl
    rw [hcontext, if_neg hlk] at hl hlo ⊢
    exact h.reserve.written l hl hlo

include hnext hcontexts hheld in
theorem epochEnds_heldLaws : t.HeldLaws := by
  have hnone : ∀ x ∈ s.held, x.state ≠ .restoring := fun x hx => h.held.noneRestoring (by simp [hends.work]) hx
  refine h.held.frees hheld hends.queue (by simp [hends.work]) hends.work' (fun e he x _ hx => ?_)
    (fun x hx hxs => absurd hxs (hnone x hx)) (fun l hl x hx hxl => ?_) (fun l hl x hx hxl => ?_)
  · have hxk : x.holder ≠ k := fun hxk =>
      h.order.landed k j (by simp [hends.jobs]) hends.owner hnext e he (hxk ▸ hx)
    simp [hxk]
  · by_cases hlk : l = k
    · simp [hxl, hlk]
    · rw [epochEnds_context hcontexts, if_neg hlk] at hl
      exact absurd hxl (h.held.unheld l hl x hx)
  · obtain ⟨i, hi, hio, hin⟩ := hl
    exact absurd hxl (h.held.restored l (.inr ⟨i, hends.oldMarker hi hin, hio, hin⟩) x hx)

include hnext hstep hcontexts hheld in
/-- An end marker is durable: the context is CLOSED, its lines have left the table, and the live tail is recomputed
(R14, R28, R30). -/
theorem State.Laws.epochEnds (hlisted : s.JobsListed) (hjournal : t.journal = { s.journal with tail := t.liveTail }) :
    t.Laws := by
  obtain ⟨-, hopen, hnotOwed, -⟩ := h.endingContext (by simp [hends.jobs]) hends.owner hnext
  have hcontext := epochEnds_context hcontexts
  have hclosed : t.contexts[k].state = .closed := by rw [hcontext, if_pos rfl]
  refine ⟨h.journal.closes (h.journal.ready_of_open hopen) hends.base hjournal (fun l hl => ?_),
    epochEnds_reserveLaws h hends hnext hstep hcontexts hheld (by rw [hjournal]),
    hends.commandLaws h hlisted (fun l hl => by rw [hcontext, if_neg hl]) (by rw [hcontext, if_pos rfl]; exact hnotOwed)
      (by rw [hclosed]; simp) (by rw [hclosed]; simp),
    hends.orderLaws h.order (fun l hl => ?_), epochEnds_heldLaws h hends hnext hcontexts hheld, hends.unitLaws⟩
  · have hlk : l ≠ k := by
      rintro rfl
      exact ((live_iff _).mp hl).1 hclosed
    rw [hcontext, if_neg hlk] at hl ⊢
    exact ⟨hl, rfl⟩
  · by_cases hlk : l = k
    · exact .inr ⟨hlk ▸ hends.owner, hnext⟩
    · rw [hcontext, if_neg hlk] at hl
      exact .inl hl

end

end

end Sys2Proof.Machine

/-! PROOF. The laws over every reply to the Write Engine. -/

namespace Sys2Proof.Machine

/-! ## Raises -/

section
variable {s : State} (h : s.Laws)
include h

theorem State.Laws.raiseCause (c : Cause) : (raiseCause c s).Laws :=
  h.frame (raised_raiseCause c s) (by simp) (.inr ⟨by simp, by simp [State.engineOut]⟩) (by simp) (by simp) (by simp)
    (by simp) (by simp) (.of_eq (by simp))

theorem State.Laws.raiseError (kind : ErrorKind) (addr : Addr) : (raiseError kind addr s).Laws :=
  h.frame (raised_raiseError kind addr s) (by simp) (.inr ⟨by simp, by simp [State.engineOut]⟩) (by simp) (by simp) (by simp)
    (by simp) (by simp) (.of_eq (by simp))

theorem State.Laws.lowTest (freeBefore markBefore : Nat) : (lowTest freeBefore markBefore s).Laws :=
  h.frame (raised_lowTest _ _ s) (by simp) (.inr ⟨by simp, by simp [State.engineOut]⟩) (by simp) (by simp) (by simp)
    (by simp) (by simp) (.of_eq (by simp))

theorem State.Laws.lowTestAtReady : (lowTestAtReady s).Laws :=
  h.frame (raised_lowTestAtReady s) (by simp) (.inr ⟨by simp, by simp [State.engineOut]⟩) (by simp) (by simp) (by simp)
    (by simp) (by simp) (.of_eq (by simp))

theorem State.Laws.countIf (b : Bool) (c : Counter) : (countIf b c s).Laws :=
  h.frame (raised_countIf b c s) (by simp) (.inr ⟨by simp, by simp [State.engineOut]⟩) (by simp) (by simp) (by simp)
    (by simp) (by simp) (.of_eq (by simp))

theorem State.Laws.stopDevice : (stopDevice s).Laws :=
  h.frame (raised_stopDevice s) (by simp) (.inl (device_stopDevice s)) (by simp) (by simp) (by simp) (by simp) (by simp)
    (.of_eq (by simp))

end

/-! ## A line is restored (R41) -/

section
variable {s t : State} (h : s.Laws) (hout : t.engineOut = false)
include h hout

/-- A unit that is no entry and writes no record goes on to another such. -/
theorem State.Laws.unitMoves {w w' : WorkUnit} (hwork : s.engine.work = some w) (hrecord : ¬ w.isRecord)
    (hwork' : t.engine.work = some w') (hentry' : ∀ step, w' ≠ .entry step)
    (hkept : t.cwb = s.cwb ∧ t.device = s.device ∧ t.journal = s.journal ∧ t.contexts = s.contexts ∧
      t.queue.entries = s.queue.entries ∧ t.slots = s.slots ∧ t.jobs = s.jobs ∧ t.held = s.held)
    (hheld : t.HeldLaws) : t.Laws := by
  obtain ⟨hbase, hsame, hjournal, hcontexts, hqueue, hslots, hjobs, hheld'⟩ := hkept
  have hsameJobs : SameSlotJobs s t := fun j _ => by rw [hjobs]
  exact h.answers hout hwork hrecord (fun step hstep => hentry' step (Option.some.inj (hwork'.symm.trans hstep))) hsame
    (h.journal.congr hbase (by rw [hsame]; exact id) hjournal (.of_eq hcontexts)) (by rw [hjournal]) (.of_eq hcontexts)
    (.of_eq hheld') (.of_eq hqueue (.of_eq hslots) hsameJobs)
    (h.order.congr hqueue (.of_eq hslots) hsameJobs (by rw [hcontexts]; exact fun _ => id)) hheld

/-- The restore write is durable: the line leaves the table, and the marker is next when it was the last (R30, R41). -/
theorem State.Laws.lineRestored {line : Addr} {q : Seq} {phase : RestorePhase} {j j' : Job} {rest : List Job} {k : Requester}
    (hnodup : (s.held.map (·.line)).Nodup) (hwork : s.engine.work = some (.restore line q phase))
    (hjobs : s.jobs = j :: rest) (howner : j.owner = .slot k) (hnext : j.next = .restore) (hjobs' : t.jobs = j' :: rest)
    (howner' : j'.owner = j.owner)
    (hnext' : j'.next = if (newestHeld k t.held).isSome then .restore else .abortedMarker) (hwork' : t.engine.work = none)
    (hterms : SameTerms s t) (hheld : t.held = s.held.filter fun x => !(x.line == line))
    (hkept : t.cwb = s.cwb ∧ t.device = s.device ∧ t.journal = s.journal ∧ t.queue.entries = s.queue.entries ∧
      t.slots = s.slots) : t.Laws := by
  obtain ⟨hbase, hsame, hjournal, hqueue, hslots⟩ := hkept
  have hj : j ∈ s.jobs := by simp [hjobs]
  have hends : j.next.endsEpoch := .inr (.inl hnext)
  have habort : j'.next = .restore ∨ j'.next = .abortedMarker := by
    rw [hnext']
    split <;> simp
  obtain ⟨y, hy, hyline, hyhead⟩ := h.held.restoreLine _ _ _ hwork
  have hyk : y.holder = k := by
    by_contra hne
    rw [headJobOf_other hjobs howner hne] at hyhead
    cases hyhead
  have hline {x : HeldEntry} (hx : x ∈ s.held) (hxline : x.line = line) : x.holder = k := by
    rw [List.inj_on_of_nodup_map hnodup hx hy (hxline.trans hyline.symm)]
    exact hyk
  have hremaining {x : HeldEntry} (hx : x ∈ t.held) : x ∈ s.held ∧ x.state ≠ .restoring := by
    rw [hheld] at hx
    obtain ⟨hxs, hxline⟩ := List.mem_filter.mp hx
    refine ⟨hxs, fun hxr => ?_⟩
    obtain ⟨-, q', phase', hw⟩ := h.held.restoring x hxs hxr
    obtain ⟨hxeq, -⟩ := WorkUnit.restore.inj (Option.some.inj (hwork.symm.trans hw))
    simp [hxeq] at hxline
  refine h.answers hout hwork (by simp [WorkUnit.isRecord]) (by simp [hwork']) hsame
    (h.journal.congr hbase (by rw [hsame]; exact id) hjournal hterms.standing) (by rw [hjournal]) hterms
    (.filter hheld fun x hx hxu => ?_) ⟨fun l => ?_, fun l => ?_, fun l => ?_⟩
    (h.order.moves hjobs hjobs' howner' hqueue (.of_eq hslots) (fun _ => hends) fun l hl => .inl (hterms.closed l hl))
    (h.held.frees hheld hqueue (by simp [hwork]) hwork' (fun e he x hx hxe => ?_) (fun x hx hxr => ?_)
      (fun l hl x hx hxl => absurd hxl (h.held.unheld l (hterms.closed l hl) x hx)) fun l hl x hx hxl => ?_)
  · have hne : x.line ≠ line := fun hxline =>
      h.noneCapturing hj howner hends hx (hline hx hxline) ((unallocated_iff x).mp hxu).1
    simp [hne]
  · refine owes_moves hjobs hjobs' howner' hqueue (.of_eq hslots) fun _ => iff_of_false ?_ (by simp [hnext])
    rcases habort with hn | hn <;> simp [hn]
  · refine owes_moves hjobs hjobs' howner' hqueue (.of_eq hslots) fun _ => iff_of_false ?_ (by simp [hnext])
    rcases habort with hn | hn <;> simp [hn]
  · exact owes_moves hjobs hjobs' howner' hqueue (.of_eq hslots) fun _ => iff_of_true habort (.inl hnext)
  · have hne : x.line ≠ line := fun hxline => h.order.landed k j hj howner hends e he (by rw [hxe, hline hx hxline])
    simp [hne]
  · obtain ⟨-, q', phase', hw⟩ := h.held.restoring x hx hxr
    obtain ⟨hxeq, -⟩ := WorkUnit.restore.inj (Option.some.inj (hwork.symm.trans hw))
    simp [hxeq]
  · obtain ⟨i, hi, hio, hin⟩ := hl
    rw [hjobs'] at hi
    rcases List.mem_cons.mp hi with rfl | hi
    · obtain rfl : k = l := by simpa [howner', howner] using hio
      have hnone : newestHeld k t.held = none := by
        by_contra hsome
        rw [hnext', if_pos (Option.isSome_iff_ne_none.mpr hsome)] at hin
        cases hin
      by_contra hkept
      have hxt : x ∈ t.held := by
        rw [hheld]
        exact List.mem_filter.mpr ⟨hx, by simpa using hkept⟩
      exact h.noneHeld hj howner hends (fun x hx => hremaining hx) hnone x hxt hxl
    · exact absurd hxl (h.held.restored l (.inr ⟨i, by simp [hjobs, hi], hio, hin⟩) x hx)

end

end Sys2Proof.Machine

/-! PROOF. The laws over every reply to the Write Engine: the cases together. -/

namespace Sys2Proof.Machine

theorem SameTerms.updContext (k : Requester) {f : Context → Context} {s t : State}
    (hcontexts : t.contexts = (updContext k f s).contexts)
    (hf : ∀ c, (f c).state = c.state ∧ (f c).openOwed = c.openOwed ∧ (f c).lineLimit = c.lineLimit ∧
      (f c).openWritten = c.openWritten ∧ (f c).epoch = c.epoch) : SameTerms s t := fun l => by
  rw [hcontexts, getElem_updContext]
  by_cases hl : l = k
  · rw [if_pos hl, hl]
    exact hf _
  · rw [if_neg hl]
    exact ⟨rfl, rfl, rfl, rfl, rfl⟩

section
variable {s : State} (h : s.Laws) (hlisted : s.JobsListed) (hunit : s.unitFits) (hnodup : (s.held.map (·.line)).Nodup)
  (hdev : s.device = .run) (hissued : s.engineOut = true)
include h hdev hissued

omit hdev hissued in
/-- A format's descriptor is durable: READY with head and live tail 0 (R20). -/
theorem descriptorWriteDone_laws {j : Job} {rest : List Job} (hwork : s.engine.work = some (.write .descriptorWrite))
    (hjobs : s.jobs = j :: rest) (hnext : j.next = .descriptorWrite) (hformatting : s.journal.state = .formatting) :
    (descriptorWriteDone (releasePort s)).Laws := by
  have hclosed := h.journal.ready (by simp [hformatting])
  have hheld := h.journal.ringHeld (.inr (.inr ((counting_iff s).mpr (.inr hformatting))))
  unfold descriptorWriteDone
  rw [setUnit_lowTestAtReady, nextStep, updHeadJob_lowTestAtReady (by exact hjobs) rfl]
  refine State.Laws.lowTestAtReady ?_
  refine h.headMoves (engineOut_of_free rfl) hjobs (j' := { j with next := .result }) hwork (by simp [WorkUnit.isRecord])
    (by simp) (by simp) rfl rfl (by rw [hnext]; exact not_isRecord_of_format (.inr (.inr rfl))) not_isRecord_result rfl
    (journalLaws_of_allClosed hclosed ?_ (fun _ => hheld) (fun _ => rfl) ?_) rfl ⟨rfl, rfl, rfl, rfl, rfl⟩
  · exact h.journal.ring
  · exact (totalReserved_congr (s := s) rfl).trans (totalReserved_of_allClosed h.reserve hclosed)

include hlisted in
theorem closeContext_laws {j : Job} {rest : List Job} {k : Requester} {step : JobStep} {f : Job → Job} {l : List HeldEntry}
    (hwork : s.engine.work = some (.write step)) (hjobs : s.jobs = j :: rest) (howner : j.owner = .slot k)
    (hnext : j.next.endsEpoch) (hstep : step = .commitMarker ∨ step = .abortedMarker) (hf : (f j).owner = j.owner)
    (hf' : (f j).next = .result) (hheld : l = s.held.filter fun x => !(x.holder == k)) :
    (updHeadJob f (closeContext k { setUnit none (releasePort s) with held := l })).Laws := by
  rw [updHeadJob_closeContext (by exact hjobs) hf]
  refine State.Laws.lowTest ?_ _ _
  exact h.epochEnds ⟨hjobs, howner, hdev, hissued, hwork, rfl, hf, hf', rfl, engineOut_of_free rfl, rfl, rfl, rfl, rfl⟩ hnext
    hstep rfl hheld hlisted rfl

omit h in
theorem openRecordDone_ends {j : Job} {rest : List Job} {k : Requester} (hwork : s.engine.work = some (.write .openRecord))
    (hjobs : s.jobs = j :: rest) (howner : j.owner = .slot k) :
    RecordEnds s (openRecordDone k (releasePort s)) j { j with next := .result } rest k .openRecord where
  jobs := hjobs
  owner := howner
  run := hdev
  issued := hissued
  work := hwork
  jobs' := jobs_nextStep (by exact hjobs) _
  owner' := rfl
  next' := rfl
  work' := by simp [openRecordDone, setUnit]
  out := engineOut_of_free (by simp [releasePort])
  base := by simp [releasePort]
  device := by simp [releasePort]
  queue := by simp [releasePort]
  slots := by simp [releasePort]

include hlisted in
theorem openRecordDone_laws {j : Job} {rest : List Job} {k : Requester} (hwork : s.engine.work = some (.write .openRecord))
    (hjobs : s.jobs = j :: rest) (howner : j.owner = .slot k) (hnext : j.next = .openRecord) :
    (openRecordDone k (releasePort s)).Laws :=
  h.openDurable (openRecordDone_ends hdev hissued hwork hjobs howner) hnext
    (by simp [openRecordDone, setUnit, updContext, releasePort]) hlisted (by simp [releasePort]) (by simp [releasePort])

include hlisted in
/-- A job's WRITE of one record or line is durable. -/
theorem jobWriteDone_laws {step : JobStep} {j : Job} {rest : List Job} {k : Requester}
    (hstep : step ≠ .restore ∧ step ≠ .statusRecord) (hwork : s.engine.work = some (.write step))
    (hjobs : s.jobs = j :: rest) (howner : j.owner = .slot k)
    (hnext : j.next = step ∨ (step = .abortedMarker ∧ j.next = .restore)) :
    (jobWriteDone k (releasePort s) step).Laws := by
  have hjobs' : (releasePort s).jobs = j :: rest := hjobs
  have hj : j ∈ s.jobs := by simp [hjobs]
  have hformatting (hn : j.next.isFormat) : s.journal.state = .formatting := hlisted.formats k (.inr ⟨j, hj, howner, hn⟩)
  cases step with
  | restore => exact absurd rfl hstep.1
  | statusRecord => exact absurd rfl hstep.2
  | openRecord =>
    exact openRecordDone_laws h hlisted hdev hissued hwork hjobs howner (by simpa using hnext)
  | commitMarker =>
    exact closeContext_laws h hlisted hdev hissued hwork hjobs howner (.inl (by simpa using hnext)) (.inl rfl) rfl rfl rfl
  | abortedMarker =>
    have hends : j.next.endsEpoch := by
      rcases hnext with hn | ⟨-, hn⟩
      · exact .inr (.inr hn)
      · exact .inr (.inl hn)
    have hnone := h.held.restored k (.inl ⟨headJobOf_own hjobs howner, hwork⟩)
    have hall : s.held = s.held.filter fun x => !(x.holder == k) :=
      (List.filter_eq_self.mpr fun x hx => by simpa using hnone x hx).symm
    exact closeContext_laws h hlisted hdev hissued hwork hjobs howner hends (.inr rfl) rfl rfl hall
  | descriptorInvalidate =>
    have hn : j.next = .descriptorInvalidate := by simpa using hnext
    refine h.headMoves (j' := { j with next := .formatSlot 0 }) (engineOut_of_free ?_) hjobs hwork (by simp [WorkUnit.isRecord])
      (by simp) (by simp) (jobs_nextStep (by simpa using hjobs') _) rfl (not_isRecord_of_format (.inl hn))
      (not_isRecord_of_format (.inr (.inl ⟨0, rfl⟩))) ?_
      (h.journal.congr ?_ (fun hd => ?_) ?_ (.of_eq ?_)) ?_ ⟨?_, ?_, ?_, ?_, ?_⟩ <;>
      simp_all [jobWriteDone, setUnit, releasePort]
  | formatSlot i =>
    have hn : j.next = .formatSlot i := by simpa using hnext
    have hn' : JobStep.isFormat (if i + 1 < (releasePort s).slotCount then .formatSlot (i + 1) else .descriptorWrite) := by
      split
      · exact .inr (.inl ⟨_, rfl⟩)
      · exact .inr (.inr rfl)
    refine h.headMoves (t := formatLineDone i (releasePort s)) (engineOut_of_free ?_) hjobs hwork (by simp [WorkUnit.isRecord])
      (by simp) (by simp) (jobs_nextStep (by simpa using hjobs') _) rfl (not_isRecord_of_format (.inr (.inl ⟨i, hn⟩)))
      (not_isRecord_of_format hn') ?_
      (h.journal.congr ?_ (fun hd => ?_) ?_ (.of_eq ?_)) ?_ ⟨?_, ?_, ?_, ?_, ?_⟩ <;>
      simp_all [formatLineDone, setUnit, releasePort]
  | descriptorWrite =>
    have hn : j.next = .descriptorWrite := by simpa using hnext
    exact descriptorWriteDone_laws h hwork hjobs hn (hformatting (.inr (.inr hn)))
  | result =>
    refine State.Laws.raiseCause ?_ _
    refine h.headLeaves (engineOut_of_free rfl) hjobs hlisted howner (by simpa using hnext) hwork (congrArg List.tail hjobs)
      rfl ⟨rfl, rfl, rfl, rfl, rfl, rfl⟩ fun l hl => ?_
    have hne : (k : Nat) ≠ l := fun hv => hl (Fin.ext hv.symm)
    simp [updSlot, Vector.getElem_set_ne, hne, dropJob, setUnit, releasePort]

omit hissued hdev in
/-- A reply to a step of the head entry. -/
theorem captureRead_laws (hwork : s.engine.work = some (.entry .oldRead)) (b : CaptureBuffer) :
    (captureRead b (releasePort s)).Laws := by
  refine h.nextEntryStep rfl hwork rfl ⟨rfl, rfl, rfl, rfl, rfl, rfl, rfl⟩ (.of_eq rfl) ?_ (by simp) (by simp)
  refine h.held.works rfl rfl (fun _ => rfl) (fun _ _ => Iff.rfl) (fun _ => id) (fun _ _ _ _ x _ hx => ?_)
    (fun x hx hxs => absurd hxs (h.held.noneRestoring (by simp [hwork]) hx)) (fun _ _ _ hw => by cases hw)
    (fun _ _ hw => by cases hw)
  rw [hwork] at hx
  exact hx

omit hissued hdev in
theorem recordDataDone_laws {q : Seq} (hwork : s.engine.work = some (.entry (.recordData (some q)))) :
    (setUnit (some (.entry (.recordHeader q))) (releasePort s)).Laws := by
  refine h.nextEntryStep rfl hwork rfl ⟨rfl, rfl, rfl, rfl, rfl, rfl, rfl⟩ (.of_eq rfl) ?_ (by simp) (by simp)
  refine h.held.works rfl rfl (fun _ => rfl) (fun _ _ => Iff.rfl) (fun _ => id) (fun _ _ _ _ x _ hx => ?_)
    (fun x hx hxs => absurd hxs (h.held.noneRestoring (by simp [hwork]) hx)) (fun _ _ _ hw => by cases hw)
    (fun _ _ hw => by cases hw)
  rw [hwork] at hx
  exact hx

omit hissued hdev in
include hlisted hnodup in
theorem landHead_laws {e : PostedEntry} {rest : List PostedEntry} (hwork : s.engine.work = some (.entry .dataWrite))
    (hqueue : s.queue.entries = e :: rest) : (landHead e (releasePort s)).Laws := by
  obtain ⟨placed, hplaced, hjobs⟩ := places_landHead (releasePort_jobsListed hlisted) (e := e) (rest := rest) hqueue
  have hplaced' : Places s e placed := by
    cases hplaced with
    | none hclose => exact .none hclose
    | job d hclose hdecision => exact .job d hclose hdecision
  exact h.headLands (engineOut_of_free (by simp [releasePort])) hnodup hwork hqueue hplaced'
    (by rw [queue_landHead]; exact congrArg List.tail hqueue) hjobs (work_landHead _ _)
    ⟨by simp, by simp, by simp, by simp, by simp, by simp⟩

omit hissued hdev in
/-- The reads of a restore step go on to its next phase (R39, R40). -/
theorem restoreRead_laws {line : Addr} {q : Seq} {phase phase' : RestorePhase}
    (hwork : s.engine.work = some (.restore line q phase)) :
    (setUnit (some (.restore line q phase')) (releasePort s)).Laws := by
  refine h.unitMoves rfl hwork (by simp [WorkUnit.isRecord]) rfl (by simp) ⟨rfl, rfl, rfl, rfl, rfl, rfl, rfl, rfl⟩ ?_
  refine h.held.works rfl rfl (fun _ => rfl) (fun _ _ => Iff.rfl) (fun _ => id) (fun _ _ _ _ x _ hx => ?_)
    (fun x hx hxs => ?_) (fun line' q' phase'' hw => ?_) (fun _ _ hw => by cases hw)
  · rw [hwork] at hx
    exact hx
  · obtain ⟨-, q', phase'', hw⟩ := h.held.restoring x hx hxs
    obtain ⟨rfl, -⟩ := WorkUnit.restore.inj (Option.some.inj (hwork.symm.trans hw))
    exact ⟨q, phase', rfl⟩
  · obtain ⟨rfl, -⟩ := WorkUnit.restore.inj (Option.some.inj hw)
    exact h.held.restoreLine _ _ _ hwork

omit hissued hdev in
include hunit hnodup in
theorem restoreWriteDone_laws {line : Addr} {q : Seq} {phase : RestorePhase} {j : Job} {rest : List Job} (good : Bool)
    (hwork : s.engine.work = some (.restore line q phase)) (hjobs : s.jobs = j :: rest) :
    (restoreWriteAnswered j.owner.slotNumber line good .done (releasePort s)).Laws := by
  obtain ⟨hslot, hnext⟩ := (unitFits_restore_iff hwork hjobs).mp hunit
  obtain ⟨k, howner⟩ := owner_of_unitFits hslot
  have hk : j.owner.slotNumber = k := by rw [howner]; rfl
  rw [hk]
  have hjobs' : (releasePort s).jobs = j :: rest := hjobs
  obtain ⟨hwork', hheld⟩ := restoreWriteDone_fields k line good (releasePort s)
  refine h.lineRestored (t := restoreWriteAnswered k line good .done (releasePort s)) (engineOut_of_free (by simp [releasePort])) hnodup hwork hjobs howner hnext
    (jobs_nextStep (by simpa using hjobs') _) rfl ?_ hwork' ?_ hheld ⟨?_, ?_, ?_, ?_, ?_⟩
  · simp [restoreWriteAnswered]
  · refine .updContext k (f := fun c => if good then { c with restored := c.restored + 1 } else { c with failed := c.failed + 1 })
      (by simp [restoreWriteAnswered, updContext, removeHeld, setUnit, releasePort]) fun c => ?_
    split <;> exact ⟨rfl, rfl, rfl, rfl, rfl⟩
  all_goals simp [restoreWriteAnswered]

omit hissued hdev in
theorem statusFirst_laws {first : Option Line} (second : Line) (hwork : s.engine.work = some (.statusFirst first)) :
    (setUnit (some (.statusSecond second)) (releasePort s)).Laws := by
  refine h.unitMoves rfl hwork (by simp [WorkUnit.isRecord]) rfl (by simp) ⟨rfl, rfl, rfl, rfl, rfl, rfl, rfl, rfl⟩ ?_
  refine h.held.works rfl rfl (fun _ => rfl) (fun _ _ => Iff.rfl) (fun _ => id) (fun _ _ _ _ x _ hx => ?_)
    (fun x hx hxs => absurd hxs (h.held.noneRestoring (by simp [hwork]) hx)) (fun _ _ _ hw => by cases hw)
    (fun _ _ hw => by cases hw)
  rw [hwork] at hx
  exact hx

omit hissued hdev in
include hunit in
theorem statusRecordDone_laws {second : Line} {j : Job} {rest : List Job}
    (hwork : s.engine.work = some (.statusSecond second)) (hjobs : s.jobs = j :: rest) :
    (statusRecordDone j (releasePort s)).Laws := by
  have hnext := (unitFits_statusSecond_iff hwork hjobs).mp hunit
  have hjobs' : (releasePort s).jobs = j :: rest := hjobs
  cases howner : j.owner with
  | slot k =>
    have hdone : statusRecordDone j (releasePort s) = nextStep .result (setUnit none (releasePort s)) := by
      simp only [statusRecordDone, howner]
    rw [hdone]
    refine h.headMoves (j' := { j with next := .result }) (engineOut_of_free ?_) hjobs hwork (by simp [WorkUnit.isRecord])
      (by simp) (by simp) (jobs_nextStep (by simpa using hjobs') _) rfl
      (by simp [hnext, JobStep.isRecord, JobStep.endsEpoch]) not_isRecord_result ?_
      (h.journal.congr ?_ (fun hd => ?_) ?_ (.of_eq ?_)) ?_ ⟨?_, ?_, ?_, ?_, ?_⟩ <;>
      simp_all [setUnit, releasePort]
  | statusUnit =>
    refine h.statusEnds (engineOut_of_free (by simp [statusRecordDone, howner]; split <;> simp [releasePort])) hwork
      (fun i hi => ?_) (work_statusRecordDone _ _) ⟨by simp, by simp, by simp, by simp, by simp, by simp, by simp⟩
    have hij : i ≠ j := fun hij => hi (hij ▸ howner)
    have his : i ≠ statusJob := fun his => hi (his ▸ rfl)
    simp only [statusRecordDone, howner]
    split <;> simp [placeJob, dropJob, setUnit, hjobs, hij, his]

include hlisted hunit hnodup in
/-- Every reply to the Write Engine. -/
theorem engineReplies_laws (hcoherent : s.Coherent) {t : State} (ht : EngineReplies (releasePort s) t) : t.Laws := by
  cases ht with
  | ignored hignored =>
    exfalso
    cases hwork : s.engine.work with
    | none => simp [h.unit.freeIssued hdev hwork] at hissued
    | some w =>
      have hstands := hcoherent.tables.backed w hwork
      rcases hignored w hwork hstands with rfl | rfl <;>
        obtain ⟨j, rest, hjobs⟩ := hunit.job hwork (by simp) <;>
        simpa using (unitFits_write_iff hwork hjobs).mp hunit
  | stops =>
    exact h.frame (t := stopDevice (releasePort s)) ((Raised.of_eq (t := releasePort s) rfl rfl).trans (raised_stopDevice _))
      (by simp) (.inl (device_stopDevice _)) (by simp) (by simp) (by simp) (by simp) (by simp) (.of_eq (by simp))
  | oldRead b e rest hwork => exact captureRead_laws h hwork b
  | oldReadBad kind b e rest hwork => exact (captureRead_laws h hwork b).raiseError kind e.line
  | recordData q e rest hwork => exact recordDataDone_laws h hwork
  | recordHeader q e rest hwork hqueue =>
    exact h.recordDurable (t := setUnit _ _) (engineOut_of_free rfl) hnodup hwork hqueue rfl ⟨rfl, rfl, rfl, rfl, rfl, rfl, rfl⟩ rfl
  | lands e rest hwork hqueue => exact landHead_laws h hlisted hnodup hwork hqueue
  | landsUnbacked e rest hwork hqueue => exact (landHead_laws h hlisted hnodup hwork hqueue).raiseError _ _
  | jobWrite step j rest hstep hwork hjobs =>
    obtain ⟨hslot, -, -, hnext⟩ := (unitFits_write_iff hwork hjobs).mp hunit
    obtain ⟨k, howner⟩ := owner_of_unitFits hslot
    have hk : j.owner.slotNumber = k := by rw [howner]; rfl
    rw [hk]
    exact jobWriteDone_laws h hlisted hdev hissued hstep hwork hjobs howner hnext
  | restoreRead line q phase phase' bad j rest hwork => exact (restoreRead_laws h hwork).countIf _ _
  | restoreWrite line q phase good j rest hwork hjobs => exact restoreWriteDone_laws h hunit hnodup good hwork hjobs
  | statusFirst first second hwork => exact statusFirst_laws h second hwork
  | statusSecond second j rest hwork hjobs => exact statusRecordDone_laws h hunit hwork hjobs

end

end Sys2Proof.Machine

/-! PROOF. The laws over an accepted write that closes no command (R56, R60, R61, R97). -/

namespace Sys2Proof.Machine

/-- A place in a list with one more at its end: the last, or a place in the list before. -/
theorem split_concat {α : Type} {l before after : List α} {x e : α} (h : l ++ [e] = before ++ x :: after) :
    (before = l ∧ x = e ∧ after = []) ∨ ∃ after', after = after' ++ [e] ∧ l = before ++ x :: after' := by
  rcases List.eq_nil_or_concat after with rfl | ⟨after', b, rfl⟩
  · obtain ⟨rfl, hx⟩ := List.append_inj' h rfl
    exact .inl ⟨rfl, (List.singleton_inj.mp hx).symm, rfl⟩
  · rw [List.concat_eq_append, ← List.cons_append, ← List.append_assoc] at h
    obtain ⟨rfl, hb⟩ := List.append_inj' h rfl
    exact .inr ⟨after', by rw [List.concat_eq_append, List.singleton_inj.mp hb], rfl⟩

section
variable {s t : State} {e : PostedEntry}

theorem closeQueued_appends (hqueue : t.queue.entries = s.queue.entries ++ [e]) (k : Requester) :
    t.closeQueued k ↔ s.closeQueued k ∨ (e.commandClose = true ∧ e.requester = k) := by
  unfold State.closeQueued
  rw [hqueue]
  simp [or_and_right, exists_or]

/-- An entry that is no command close changes nothing of what the slots owe. -/
theorem owes_appends (hqueue : t.queue.entries = s.queue.entries ++ [e]) (hclose : e.commandClose = false)
    (hslots : SameSlots s t) (hjobs : SameSlotJobs s t) : SameOwes s t := by
  refine .of_describes fun opcode step _ k => ?_
  have hclosed : t.closeQueued k ↔ s.closeQueued k := by simp [closeQueued_appends hqueue, hclose]
  unfold State.owes State.takenInSlot
  rw [hclosed, (hslots k).2]
  refine or_congr Iff.rfl ⟨?_, ?_⟩ <;> rintro ⟨j, hj, howner, hnext⟩
  · exact ⟨j, (hjobs j (by simp [howner])).mp hj, howner, hnext⟩
  · exact ⟨j, (hjobs j (by simp [howner])).mpr hj, howner, hnext⟩

theorem State.Laws.opened_owesNothing (h : s.Laws) {k : Fin 4} (hopen : s.contexts[k].state = .opened) :
    ¬ s.owesCommit k ∧ ¬ s.owesAbort k := by
  rw [← h.command.closing, ← h.command.aborting, hopen]
  simp

/-- An entry is appended: it carries no context, or an OPEN one. -/
theorem State.Laws.orderAppends (h : s.Laws) (hqueue : t.queue.entries = s.queue.entries ++ [e])
    (hcontext : ∀ k, e.context = some k → s.contexts[k].state = .opened)
    (htaken : ∀ x ∈ s.queue.entries, x.commandClose = true → ∀ opcode, t.takenInSlot x.requester opcode →
      s.takenInSlot x.requester opcode)
    (hjobs : SameSlotJobs s t) (hclosed : ∀ k : Fin 4, t.contexts[k].state = .closed → s.contexts[k].state = .closed) :
    t.OrderLaws := by
  have hmem {x : PostedEntry} (hx : x ∈ t.queue.entries) : x ∈ s.queue.entries ∨ x = e := by
    rw [hqueue] at hx
    simpa using hx
  refine ⟨fun before x after hx hclose htakenx y hy => ?_, fun k j hj howner hnext x hx => ?_, fun k hk x hx => ?_⟩
  · rw [hqueue] at hx
    rcases split_concat hx with ⟨-, -, rfl⟩ | ⟨after', rfl, hs⟩
    · cases hy
    · have hxs : x ∈ s.queue.entries := by simp [hs]
      have htakens : s.takenInSlot x.requester 2 ∨ s.takenInSlot x.requester 3 :=
        htakenx.imp (htaken x hxs hclose 2) (htaken x hxs hclose 3)
      rcases List.mem_append.mp hy with hy | hy
      · exact h.order.endsLast before x after' hs hclose htakens y hy
      · rw [List.mem_singleton.mp hy]
        intro hek
        obtain ⟨hnotCommit, hnotAbort⟩ := h.opened_owesNothing (hcontext _ hek)
        have hqueued : s.closeQueued x.requester := ⟨x, hxs, hclose, rfl⟩
        rcases htakens with ht | ht
        · exact hnotCommit (.inl ⟨hqueued, ht⟩)
        · exact hnotAbort (.inl ⟨hqueued, ht⟩)
  · have hj' := (hjobs j (by simp [howner])).mp hj
    rcases hmem hx with hx | rfl
    · exact h.order.landed k j hj' howner hnext x hx
    · intro hek
      obtain ⟨hnotCommit, hnotAbort⟩ := h.opened_owesNothing (hcontext k hek)
      rcases hnext with hn | hn
      · exact hnotCommit (.inr ⟨j, hj', howner, hn⟩)
      · exact hnotAbort (.inr ⟨j, hj', howner, hn⟩)
  · rcases hmem hx with hx | rfl
    · exact h.order.carried k (hclosed k hk) x hx
    · intro hek
      have hopen := hcontext k hek
      rw [hclosed k hk] at hopen
      cases hopen

/-- An entry that is no capture. -/
theorem State.HeldLaws.appends (h : s.HeldLaws) (hqueue : t.queue.entries = s.queue.entries ++ [e])
    (hcls : e.cls ≠ .capture) (hheld : t.held = s.held) (hwork : t.engine.work = s.engine.work)
    (hhead : ∀ k, t.headJobOf k = s.headJobOf k) (hjobs : SameSlotJobs s t)
    (hclosed : ∀ k : Fin 4, t.contexts[k].state = .closed → s.contexts[k].state = .closed) : t.HeldLaws := by
  have hother := h.congr (t := { t with queue := s.queue }) hheld rfl hwork hhead hjobs hclosed
  refine { hother with captures := fun before x after hx hxcls => ?_, capturing := fun y hy hys => ?_, captureOnce := ?_ }
  · rw [hqueue] at hx
    rcases split_concat hx with ⟨-, rfl, -⟩ | ⟨after', -, hs⟩
    · exact absurd hxcls hcls
    · exact hother.captures before x after' hs hxcls
  · obtain ⟨x, hx, hxrest⟩ := hother.capturing y hy hys
    exact ⟨x, by rw [hqueue]; exact List.mem_append_left _ hx, hxrest⟩
  · rw [hqueue, List.filter_append, List.filter_cons_of_neg (by simp [hcls])]
    simpa using h.captureOnce

/-- A capture is accepted: its line enters the table CAPTURING, without a record (R60). -/
theorem State.Laws.heldCaptures (h : s.Laws) (hunit : s.unitFits) {k : Requester} {line : Addr}
    (hqueue : t.queue.entries = s.queue.entries ++ [e]) (hcls : e.cls = .capture) (hcontext : e.context = some k)
    (hline : e.line = line) (hopen : s.contexts[k].state = .opened) (hnew : line ∉ s.held.map (·.line))
    (hheld : t.held = s.held ++ [⟨line, k, .capturing, none⟩]) (hwork : t.engine.work = s.engine.work)
    (hhead : ∀ l, t.headJobOf l = s.headJobOf l) (hjobs : SameSlotJobs s t) (hcontexts : t.contexts = s.contexts) :
    t.HeldLaws := by
  obtain ⟨-, hnotAbort⟩ := h.opened_owesNothing hopen
  have hmem {x : HeldEntry} (hx : x ∈ t.held) : x ∈ s.held ∨ x = ⟨line, k, .capturing, none⟩ := by
    rw [hheld] at hx
    simpa using hx
  have hold {x : HeldEntry} (hx : x ∈ s.held) : x ∈ t.held := by rw [hheld]; exact List.mem_append_left _ hx
  have hnoMarker : ¬ ((s.headJobOf k = true ∧ s.engine.work = some (.write .abortedMarker)) ∨
      ∃ j ∈ s.jobs, j.owner = .slot k ∧ j.next = .abortedMarker) := by
    rintro (⟨hk, hw⟩ | ⟨j, hj, howner, hnext⟩)
    · obtain ⟨j, rest, hjs, howner⟩ := (headJobOf_iff s k).mp hk
      obtain ⟨-, -, -, hnext⟩ := (unitFits_write_iff hw hjs).mp hunit
      exact hnotAbort (.inr ⟨j, by simp [hjs], howner, hnext.symm.imp And.right id⟩)
    · exact hnotAbort (.inr ⟨j, hj, howner, .inr hnext⟩)
  refine ⟨fun l hl x hx => ?_, fun before x after hx hxcls => ?_, fun x hx hxs => ?_, ?_, fun x hx hxs => ?_, fun x hx hxs => ?_,
    fun line' q phase hw => ?_, fun l hl x hx => ?_⟩
  · rw [hcontexts] at hl
    rcases hmem hx with hx | rfl
    · exact h.held.unheld l hl x hx
    · rintro rfl
      rw [hopen] at hl
      cases hl
  · rw [hqueue] at hx
    rcases split_concat hx with ⟨rfl, rfl, -⟩ | ⟨after', -, hs⟩
    · refine ⟨k, hcontext, ⟨line, k, .capturing, none⟩, by rw [hheld]; simp, hline.symm, rfl, ?_⟩
      refine (agrees_of_notEntry (fun step => ?_) _).mpr rfl
      split
      · rename_i hempty
        rw [hwork]
        intro hstep
        obtain ⟨y, rest, hy, -⟩ := h.unit.begun step hstep
        simp [hempty] at hy
      · simp
    · obtain ⟨l, hl, y, hy, hyrest⟩ := h.held.captures before x after' hs hxcls
      rw [← hwork] at hyrest
      exact ⟨l, hl, y, hold hy, hyrest⟩
  · rw [hqueue]
    rcases hmem hx with hx | rfl
    · obtain ⟨y, hy, hyrest⟩ := h.held.capturing x hx hxs
      exact ⟨y, List.mem_append_left _ hy, hyrest⟩
    · exact ⟨e, by simp, hcls, hline, hcontext⟩
  · rw [hqueue, List.filter_append, List.filter_cons_of_pos (by simp [hcls]), List.filter_nil, List.map_append, List.nodup_append]
    refine ⟨h.held.captureOnce, by simp, fun a ha b hb => ?_⟩
    rw [List.map_cons, List.map_nil, List.mem_singleton] at hb
    obtain ⟨x, hx, rfl⟩ := List.mem_map.mp ha
    obtain ⟨hxq, hxcls⟩ := List.mem_filter.mp hx
    obtain ⟨before, after, hs⟩ := List.append_of_mem hxq
    obtain ⟨l, -, y, hy, hyline, -⟩ := h.held.captures before x after hs (by simpa using hxcls)
    rw [hb, hline, ← hyline]
    exact fun heq => hnew (heq ▸ List.mem_map_of_mem hy)
  · rcases hmem hx with hx | rfl
    · exact h.held.recorded x hx hxs
    · exact absurd rfl hxs
  · rcases hmem hx with hx | rfl
    · rw [hhead, hwork]
      exact h.held.restoring x hx hxs
    · cases hxs
  · rw [hwork] at hw
    obtain ⟨x, hx, hxline, hxhead⟩ := h.held.restoreLine line' q phase hw
    exact ⟨x, hold hx, hxline, by rw [hhead]; exact hxhead⟩
  · have hl' : (s.headJobOf l = true ∧ s.engine.work = some (.write .abortedMarker)) ∨
        ∃ j ∈ s.jobs, j.owner = .slot l ∧ j.next = .abortedMarker := by
      rw [hhead, hwork] at hl
      refine hl.imp_right ?_
      rintro ⟨j, hj, howner, hnext⟩
      exact ⟨j, (hjobs j (by simp [howner])).mp hj, howner, hnext⟩
    rcases hmem hx with hx | rfl
    · exact h.held.restored l hl' x hx
    · rintro rfl
      exact hnoMarker hl'

/-- The entry in progress stays the head, and its context's OPEN record durable. -/
theorem State.UnitLaws.appends (h : s.UnitLaws) (hqueue : t.queue.entries = s.queue.entries ++ [e])
    (hwork : t.engine.work = s.engine.work) (hdev : t.device = s.device) (hout : t.engineOut = s.engineOut)
    (howed : ∀ k : Fin 4, (∃ x ∈ s.queue.entries, x.context = some k) → s.contexts[k].openOwed = false →
      t.contexts[k].openOwed = false) : t.UnitLaws := by
  refine ⟨fun step hstep => ?_, ?_, ?_⟩
  · obtain ⟨x, rest, hx, hcls, hbegun⟩ := h.begun step (hwork ▸ hstep)
    exact ⟨x, rest ++ [e], by rw [hqueue, hx]; rfl, hcls, fun k hk => howed k ⟨x, by simp [hx], hk⟩ (hbegun k hk)⟩
  · rw [hdev, hwork, hout]
    exact h.recordIssued
  · rw [hdev, hwork, hout]
    exact h.freeIssued

/-! ## Writes that close no command -/

/-- What an accepted write leaves, its own effects aside. -/
structure Posts (s t : State) (e : PostedEntry) : Prop where
  base : t.cwb = s.cwb
  device : t.device = s.device
  work : t.engine.work = s.engine.work
  out : t.engineOut = s.engineOut
  queue : t.queue.entries = s.queue.entries ++ [e]
  raised : Raised s t

theorem Posts.issued (h : Posts s t e) : SameIssued s t := .of_eq h.out h.raised.headJobOf h.work

/-- An entry that takes nothing into the table and closes no command. -/
theorem State.Laws.posts (h : s.Laws) (hposts : Posts s t e) (hcls : e.cls ≠ .capture) (hclose : e.commandClose = false)
    (hcontext : ∀ k, e.context = some k → s.contexts[k].state = .opened) (hjournal : t.journal = s.journal)
    (hcontexts : t.contexts = s.contexts) (hheld : t.held = s.held) (hslots : SameSlots s t) : t.Laws := by
  have hclosed : ∀ k : Fin 4, t.contexts[k].state = .closed → s.contexts[k].state = .closed := by
    rw [hcontexts]; exact fun _ => id
  have hjobs := hposts.raised.sameSlotJobs
  refine ⟨h.journal.congr hposts.base (by rw [hposts.device]; exact id) hjournal (.of_eq hcontexts),
    h.reserve.congr (by rw [hposts.device]; exact id) (by rw [hjournal]) (.of_eq hcontexts) (.of_eq hheld) fun _ => hposts.issued,
    h.command.congr (owes_appends hposts.queue hclose hslots hjobs) (by rw [hcontexts]; exact fun _ => ⟨rfl, Iff.rfl, Iff.rfl⟩),
    h.orderAppends hposts.queue hcontext (fun x _ _ opcode hx => ?_) hjobs hclosed,
    h.held.appends hposts.queue hcls hheld hposts.work hposts.raised.headJobOf hjobs hclosed,
    h.unit.appends hposts.queue hposts.work hposts.device hposts.out (by rw [hcontexts]; exact fun _ _ => id)⟩
  unfold State.takenInSlot at hx ⊢
  rwa [(hslots x.requester).2] at hx

theorem reserved_claim (k l : Fin 4) (n : Nat) (s : State) :
    (claim k n s).journal.reserved[l] = if l = k then s.journal.reserved[k] + n else s.journal.reserved[l] := by
  rw [claim_journal]
  by_cases hl : l = k
  · subst hl
    simp
  · have hne : (k : Nat) ≠ l := fun hv => hl (Fin.ext hv.symm)
    simp [Vector.getElem_set_ne, hne, hl]

/-- A capture claims a slot for its record and takes its line into the table (R60). -/
theorem State.Laws.captures (h : s.Laws) (hunit : s.unitFits) {k : Requester} {line : Addr} (hposts : Posts s t e)
    (hcls : e.cls = .capture) (hclose : e.commandClose = false) (hcontext : e.context = some k) (hline : e.line = line)
    (hopen : s.contexts[k].state = .opened) (hnew : line ∉ s.held.map (·.line))
    (hlimit : s.heldCount k < s.contexts[k].lineLimit) (hclaim : s.canClaim 1 = true)
    (hjournal : t.journal = (claim k 1 s).journal) (hcontexts : t.contexts = s.contexts)
    (hheld : t.held = s.held ++ [⟨line, k, .capturing, none⟩]) (hslots : t.slots = s.slots) : t.Laws := by
  have hclosed : ∀ k : Fin 4, t.contexts[k].state = .closed → s.contexts[k].state = .closed := by
    rw [hcontexts]; exact fun _ => id
  have hjobs := hposts.raised.sameSlotJobs
  have hcount (l : Fin 4) : t.heldCount l = s.heldCount l + if l = k then 1 else 0 := by
    rw [State.heldCount, hheld, List.countP_append, ← State.heldCount]
    simp [eq_comm (a := k)]
  have hunallocated (l : Fin 4) : (t.held.filter fun x => x.holder == l && x.unallocated).length =
      (s.held.filter fun x => x.holder == l && x.unallocated).length + if l = k then 1 else 0 := by
    rw [unallocated_length, unallocated_length, hheld, List.countP_append]
    simp [HeldEntry.unallocated, eq_comm (a := k)]
  have hreserved (l : Fin 4) : t.journal.reserved[l] = s.journal.reserved[l] + if l = k then 1 else 0 := by
    have hl := reserved_claim k l 1 s
    rw [← hjournal] at hl
    rw [hl]
    split
    · rename_i hlk
      rw [hlk]
    · rfl
  refine ⟨h.journal.claims hclaim hposts.base hjournal (by rw [hcontexts]; exact fun _ => ⟨rfl, fun _ => rfl⟩),
    ⟨fun l hl => ?_, fun hd l hl => ?_, fun l hl => ?_, fun l hl => ?_, by rw [hcontexts]; exact h.reserve.written⟩,
    h.command.congr (owes_appends hposts.queue hclose (.of_eq hslots) hjobs)
      (by rw [hcontexts]; exact fun _ => ⟨rfl, Iff.rfl, Iff.rfl⟩),
    h.orderAppends hposts.queue (fun l hl => by rw [hcontext] at hl; cases hl; exact hopen) (fun x _ _ opcode hx => ?_) hjobs
      hclosed,
    h.heldCaptures hunit hposts.queue hcls hcontext hline hopen hnew hheld hposts.work hposts.raised.headJobOf hjobs hcontexts,
    h.unit.appends hposts.queue hposts.work hposts.device hposts.out (by rw [hcontexts]; exact fun _ _ => id)⟩
  · rw [hcontexts] at hl
    have hlk : l ≠ k := by
      rintro rfl
      rw [hopen] at hl
      cases hl
    rw [hreserved, if_neg hlk]
    exact h.reserve.unreserved l hl
  · rw [hcontexts] at hl ⊢
    have hbalance := h.reserve.balance (hposts.device ▸ hd) l hl
    rw [hreserved, hunallocated, (hposts.issued l).1]
    omega
  · rw [hcontexts] at hl ⊢
    have hwithin := h.reserve.limit l hl
    rw [hcount]
    by_cases hlk : l = k
    · subst hlk
      rw [if_pos rfl]
      exact hlimit
    · rw [if_neg hlk]
      exact hwithin
  · rw [hcontexts] at hl ⊢
    obtain ⟨hopened, hw⟩ := h.reserve.opened l hl
    exact ⟨hopened, fun hd => (hw (hposts.device ▸ hd)).trans (hposts.issued l).2.symm⟩
  · unfold State.takenInSlot at hx ⊢
    rwa [hslots] at hx

end

end Sys2Proof.Machine

/-! PROOF. The laws over the word that closes a command (R104 to R109, R113). -/

namespace Sys2Proof.Machine

theorem taken_iff (d : Decision) (opcode : BitVec 4) :
    (∃ tag, d = ⟨⟨opcode, tag⟩, .taken⟩) ↔ d.verdict = .taken ∧ d.word.opcode = opcode := by
  constructor
  · rintro ⟨tag, rfl⟩
    exact ⟨rfl, rfl⟩
  · obtain ⟨⟨op, tag⟩, verdict⟩ := d
    rintro ⟨rfl, rfl⟩
    exact ⟨tag, rfl⟩

section
variable {s t : State} {e : PostedEntry} {d : Decision}

/-- A command close is accepted: its slot, which was idle, is EXECUTING with the decision. -/
structure Closes (s t : State) (e : PostedEntry) (d : Decision) : Prop extends Posts s t e where
  close : e.commandClose = true
  bare : e.context = none ∧ e.cls ≠ .capture
  idle : s.slots[e.requester].phase ≠ .executing
  own : t.slots[e.requester].decision = some d
  others : ∀ l : Fin 4, l ≠ e.requester → t.slots[l].decision = s.slots[l].decision
  held : t.held = s.held

/-- An idle slot owes nothing. -/
theorem State.JobsListed.idle_owes (h : s.JobsListed) {k : Requester} (hidle : s.slots[k].phase ≠ .executing)
    (opcode : BitVec 4) (step : JobStep → Prop) : ¬ s.owes k opcode step := by
  obtain ⟨hnotQueued, hnoJob⟩ := h.idleOwesNothing hidle
  rintro (⟨hclose, -⟩ | ⟨j, hj, howner, -⟩)
  · exact hnotQueued hclose
  · exact hnoJob j hj howner

theorem owes_closes (h : s.JobsListed) (hcloses : Closes s t e d) (opcode : BitVec 4) (step : JobStep → Prop) :
    (t.owes e.requester opcode step ↔ ∃ tag, d = ⟨⟨opcode, tag⟩, .taken⟩) ∧
      ∀ l : Requester, l ≠ e.requester → (t.owes l opcode step ↔ s.owes l opcode step) := by
  have hjobs := hcloses.raised.sameSlotJobs
  have hsame (j : Job) {l : Requester} (howner : j.owner = .slot l) := hjobs j (by simp [howner])
  obtain ⟨-, hnoJob⟩ := h.idleOwesNothing hcloses.idle
  refine ⟨⟨?_, fun htaken => ?_⟩, fun l hl => ?_⟩
  · rintro (⟨-, tag, htaken⟩ | ⟨j, hj, howner, -⟩)
    · exact ⟨tag, Option.some.inj (hcloses.own.symm.trans htaken)⟩
    · exact absurd howner (hnoJob j ((hsame j howner).mp hj))
  · obtain ⟨tag, rfl⟩ := htaken
    exact .inl ⟨(closeQueued_appends hcloses.queue _).mpr (.inr ⟨hcloses.close, rfl⟩), tag, hcloses.own⟩
  · have hclosed : t.closeQueued l ↔ s.closeQueued l := by
      rw [closeQueued_appends hcloses.queue]
      exact or_iff_left fun hel => hl hel.2.symm
    unfold State.owes State.takenInSlot
    rw [hclosed, hcloses.others l hl]
    refine or_congr Iff.rfl ⟨?_, ?_⟩ <;> rintro ⟨j, hj, howner, hnext⟩
    · exact ⟨j, (hsame j howner).mp hj, howner, hnext⟩
    · exact ⟨j, (hsame j howner).mpr hj, howner, hnext⟩

/-- What an idle slot's context is: CLOSED or OPEN, with its OPEN record durable. -/
theorem State.Laws.idleContext (h : s.Laws) (hlisted : s.JobsListed) {k : Requester}
    (hidle : s.slots[k].phase ≠ .executing) : s.contexts[k].openOwed = false ∧ s.contexts[k].state ≠ .closing ∧
      s.contexts[k].state ≠ .aborting ∧ s.headJobOf k = false := by
  have hnothing := hlisted.idle_owes hidle
  refine ⟨Bool.eq_false_iff.mpr fun howed => hnothing _ _ ((h.command.opening k).mp howed),
    fun hc => hnothing _ _ ((h.command.closing k).mp hc), fun ha => hnothing _ _ ((h.command.aborting k).mp ha),
    Bool.eq_false_iff.mpr fun hhead => ?_⟩
  obtain ⟨j, rest, hjobs, howner⟩ := (headJobOf_iff s k).mp hhead
  exact (hlisted.idleOwesNothing hidle).2 j (by simp [hjobs]) howner

/-- A command close: what its effect has to make true of the slot's context. -/
theorem State.Laws.closes (h : s.Laws) (hlisted : s.JobsListed) (hcloses : Closes s t e d) (hjournal : t.JournalLaws)
    (hreserve : t.ReserveLaws)
    (hothers : ∀ l : Fin 4, l ≠ e.requester → t.contexts[l] = s.contexts[l])
    (hopening : t.contexts[e.requester].openOwed = true ↔ d.verdict = .taken ∧ d.word.opcode = 1)
    (hclosing : t.contexts[e.requester].state = .closing ↔ d.verdict = .taken ∧ d.word.opcode = 2)
    (haborting : t.contexts[e.requester].state = .aborting ↔ d.verdict = .taken ∧ d.word.opcode = 3)
    (hclosed : t.contexts[e.requester].state = .closed → s.contexts[e.requester].state = .closed)
    (hbegun : s.contexts[e.requester].state ≠ .closed → t.contexts[e.requester].openOwed = false) : t.Laws := by
  have hjobs := hcloses.raised.sameSlotJobs
  have hclosed' (k : Fin 4) (hk : t.contexts[k].state = .closed) : s.contexts[k].state = .closed := by
    by_cases hke : k = e.requester
    · rw [hke] at hk ⊢
      exact hclosed hk
    · rwa [hothers k hke] at hk
  refine ⟨hjournal, hreserve, ⟨fun k => ?_, fun k => ?_, fun k => ?_⟩,
    h.orderAppends hcloses.queue (by simp [hcloses.bare.1]) (fun x hx hxclose opcode htaken => ?_) hjobs hclosed',
    h.held.appends hcloses.queue hcloses.bare.2 hcloses.held hcloses.work hcloses.raised.headJobOf hjobs hclosed',
    h.unit.appends hcloses.queue hcloses.work hcloses.device hcloses.out fun k hk howed => ?_⟩
  · obtain ⟨hown, hother⟩ := owes_closes hlisted hcloses 1 (· = .openRecord)
    by_cases hke : k = e.requester
    · rw [hke]
      exact hopening.trans ((taken_iff d 1).symm.trans hown.symm)
    · rw [hothers k hke]
      exact (h.command.opening k).trans (hother k hke).symm
  · obtain ⟨hown, hother⟩ := owes_closes hlisted hcloses 2 (· = .commitMarker)
    by_cases hke : k = e.requester
    · rw [hke]
      exact hclosing.trans ((taken_iff d 2).symm.trans hown.symm)
    · rw [hothers k hke]
      exact (h.command.closing k).trans (hother k hke).symm
  · obtain ⟨hown, hother⟩ := owes_closes hlisted hcloses 3 fun n => n = .restore ∨ n = .abortedMarker
    by_cases hke : k = e.requester
    · rw [hke]
      exact haborting.trans ((taken_iff d 3).symm.trans hown.symm)
    · rw [hothers k hke]
      exact (h.command.aborting k).trans (hother k hke).symm
  · have hne : x.requester ≠ e.requester := fun hxe =>
      (hlisted.idleOwesNothing hcloses.idle).1 ⟨x, hx, hxclose, hxe⟩
    unfold State.takenInSlot at htaken ⊢
    rwa [hcloses.others _ hne] at htaken
  · by_cases hke : k = e.requester
    · obtain ⟨x, hx, hxk⟩ := hk
      rw [hke] at hxk ⊢
      exact hbegun fun hc => h.order.carried _ hc x hx hxk
    · rw [hothers k hke]
      exact howed

/-- A command that is refused, or that touches no context and no journal. -/
theorem State.Laws.closesOther (h : s.Laws) (hlisted : s.JobsListed) (hcloses : Closes s t e d)
    (hd : ¬ (d.verdict = .taken ∧ (d.word.opcode = 1 ∨ d.word.opcode = 2 ∨ d.word.opcode = 3)))
    (hjournal : t.JournalLaws) (hreserved : t.journal.reserved = s.journal.reserved) (hcontexts : t.contexts = s.contexts) :
    t.Laws := by
  obtain ⟨hnotOwed, hnotClosing, hnotAborting, -⟩ := h.idleContext hlisted hcloses.idle
  refine h.closes hlisted hcloses hjournal
    (h.reserve.congr (by rw [hcloses.device]; exact id) hreserved (.of_eq hcontexts) (.of_eq hcloses.held) fun _ => hcloses.issued)
    (fun _ _ => by rw [hcontexts]) ?_ ?_ ?_ (by rw [hcontexts]; exact id) (by rw [hcontexts]; exact fun _ => hnotOwed)
  · rw [hcontexts]
    exact iff_of_false (by rw [hnotOwed]; exact Bool.false_ne_true) fun hd' => hd ⟨hd'.1, .inl hd'.2⟩
  · rw [hcontexts]
    exact iff_of_false hnotClosing fun hd' => hd ⟨hd'.1, .inr (.inl hd'.2)⟩
  · rw [hcontexts]
    exact iff_of_false hnotAborting fun hd' => hd ⟨hd'.1, .inr (.inr hd'.2)⟩

/-- A taken COMMIT or ABORT: the OPEN context comes to its end (R28, R30). -/
theorem State.Laws.closesEnd (h : s.Laws) (hlisted : s.JobsListed) (hcloses : Closes s t e d) {f : Context → Context}
    (hopen : s.contexts[e.requester].state = .opened) (hd : d.verdict = .taken)
    (hopcode : d.word.opcode = 2 ∨ d.word.opcode = 3)
    (hf : ∀ c, (f c).state = (if d.word.opcode = 2 then .closing else .aborting) ∧ (f c).openOwed = c.openOwed ∧
      (f c).openWritten = c.openWritten ∧ (f c).epoch = c.epoch ∧ (f c).lineLimit = c.lineLimit)
    (hjournal : t.journal = s.journal) (hcontexts : t.contexts = (updContext e.requester f s).contexts) : t.Laws := by
  obtain ⟨hnotOwed, -, -, -⟩ := h.idleContext hlisted hcloses.idle
  obtain ⟨hfstate, hfowed, hfwritten, hfepoch, hflimit⟩ := hf s.contexts[e.requester]
  have hcontext (l : Fin 4) : t.contexts[l] = if l = e.requester then f s.contexts[e.requester] else s.contexts[l] := by
    rw [hcontexts, getElem_updContext]
  have hother (l : Fin 4) (hl : l ≠ e.requester) : t.contexts[l] = s.contexts[l] := by rw [hcontext, if_neg hl]
  have hown : t.contexts[e.requester] = f s.contexts[e.requester] := by rw [hcontext, if_pos rfl]
  have hnotClosed : (f s.contexts[e.requester]).state ≠ .closed := by
    rw [hfstate]
    split <;> simp
  have hsame (l : Fin 4) : (t.contexts[l].state = .closed ↔ s.contexts[l].state = .closed) ∧
      t.contexts[l].openWritten = s.contexts[l].openWritten ∧ t.contexts[l].epoch = s.contexts[l].epoch := by
    by_cases hl : l = e.requester
    · rw [hl, hown, hopen]
      exact ⟨iff_of_false hnotClosed (by simp), hfwritten, hfepoch⟩
    · rw [hother l hl]
      exact ⟨Iff.rfl, rfl, rfl⟩
  have hrest (l : Fin 4) : t.contexts[l].openOwed = s.contexts[l].openOwed ∧ t.contexts[l].lineLimit = s.contexts[l].lineLimit := by
    by_cases hl : l = e.requester
    · rw [hl, hown]
      exact ⟨hfowed, hflimit⟩
    · rw [hother l hl]
      exact ⟨rfl, rfl⟩
  have hreserve : t.ReserveLaws := by
    refine ⟨fun l hl => ?_, fun hdev l hl => ?_, fun l hl => ?_, fun l hl => ?_, fun l hl hlo => ?_⟩
    · rw [hjournal]
      exact h.reserve.unreserved l ((hsame l).1.mp hl)
    · rw [hjournal, (hsame l).2.1, (hcloses.issued l).1, hcloses.held]
      exact h.reserve.balance (hcloses.device ▸ hdev) l (mt (hsame l).1.mpr hl)
    · rw [(hrest l).2, State.heldCount, hcloses.held]
      exact h.reserve.limit l (mt (hsame l).1.mpr hl)
    · rw [(hrest l).1] at hl
      have hle : l ≠ e.requester := by
        rintro rfl
        rw [hnotOwed] at hl
        cases hl
      obtain ⟨hopened, hw⟩ := h.reserve.opened l hl
      rw [hother l hle]
      exact ⟨hopened, fun hdev => (hw (hcloses.device ▸ hdev)).trans (hcloses.issued l).2.symm⟩
    · rw [(hsame l).2.1]
      exact h.reserve.written l (mt (hsame l).1.mpr hl) ((hrest l).1 ▸ hlo)
  refine h.closes hlisted hcloses (h.journal.congr hcloses.base (by rw [hcloses.device]; exact id) hjournal hsame)
    hreserve hother ?_ ?_ ?_ (hsame _).1.mp (fun _ => by rw [(hrest _).1]; exact hnotOwed)
  · rw [(hrest _).1, hnotOwed]
    refine iff_of_false Bool.false_ne_true ?_
    rintro ⟨-, hone⟩
    rcases hopcode with hop | hop <;> rw [hop] at hone <;> cases hone
  · rw [hown, hfstate]
    rcases hopcode with hop | hop <;> simp [hop, hd]
  · rw [hown, hfstate]
    rcases hopcode with hop | hop <;> simp [hop, hd]

/-- A taken OPEN: the context is OPEN with 2 slots reserved (R24, R108). -/
theorem State.Laws.closesOpen (h : s.Laws) (hlisted : s.JobsListed) (hcloses : Closes s t e d) {lineLimit : Nat}
    (hclosed : s.contexts[e.requester].state = .closed) (hclaim : s.canClaim 2 = true) (hd : d.verdict = .taken)
    (hopcode : d.word.opcode = 1) (hjournal : t.journal = (claim e.requester 2 s).journal)
    (hcontexts : t.contexts = (updContext e.requester (fun _ => ⟨.opened, none, false, true, lineLimit, 0, 0⟩) s).contexts) :
    t.Laws := by
  obtain ⟨-, -, -, hnotHead⟩ := h.idleContext hlisted hcloses.idle
  have hcontext (l : Fin 4) : t.contexts[l] =
      if l = e.requester then ⟨.opened, none, false, true, lineLimit, 0, 0⟩ else s.contexts[l] := by
    rw [hcontexts, getElem_updContext]
  have hother (l : Fin 4) (hl : l ≠ e.requester) : t.contexts[l] = s.contexts[l] := by rw [hcontext, if_neg hl]
  have hown : t.contexts[e.requester] = ⟨.opened, none, false, true, lineLimit, 0, 0⟩ := by rw [hcontext, if_pos rfl]
  have hnotIssued := notIssued_of_notHead ((hcloses.raised.headJobOf e.requester).trans hnotHead)
  have hnoneHeld : ∀ x ∈ t.held, x.holder ≠ e.requester := by
    rw [hcloses.held]
    exact h.held.unheld _ hclosed
  have hreserved (l : Fin 4) := reserved_claim e.requester l 2 s
  rw [← hjournal] at hreserved
  have hlive (l : Fin 4) : t.contexts[l].live = s.contexts[l].live ∧
      (s.contexts[l].live = true → t.contexts[l].epoch = s.contexts[l].epoch) := by
    by_cases hl : l = e.requester
    · have hs : s.contexts[e.requester].live = false :=
        Bool.eq_false_iff.mpr fun hlive => ((live_iff _).mp hlive).1 hclosed
      rw [hl, hown, hs]
      exact ⟨rfl, fun hf => by cases hf⟩
    · rw [hother l hl]
      exact ⟨rfl, fun _ => rfl⟩
  have hreserve : t.ReserveLaws := by
    refine ⟨fun l hl => ?_, fun hdev l hl => ?_, fun l hl => ?_, fun l hl => ?_, fun l hl hlo => ?_⟩ <;>
      by_cases hle : l = e.requester
    · rw [hle, hown] at hl
      cases hl
    · rw [hreserved, if_neg hle]
      rw [hother l hle] at hl
      exact h.reserve.unreserved l hl
    · have hempty : (t.held.filter fun x => x.holder == e.requester && x.unallocated) = [] :=
        List.filter_eq_nil_iff.mpr fun x hx => by simp [hnoneHeld x hx]
      rw [hle, hreserved, if_pos rfl, h.reserve.unreserved _ hclosed, hnotIssued.1, hown, hempty]
      rfl
    · rw [hother l hle] at hl ⊢
      rw [hreserved, if_neg hle, (hcloses.issued l).1, hcloses.held]
      exact h.reserve.balance (hcloses.device ▸ hdev) l hl
    · have hzero : t.heldCount l = 0 := by
        rw [State.heldCount, List.countP_eq_zero, hle]
        exact fun x hx => by simpa using hnoneHeld x hx
      rw [hzero]
      exact Nat.zero_le _
    · rw [hother l hle] at hl ⊢
      rw [State.heldCount, hcloses.held]
      exact h.reserve.limit l hl
    · rw [hle, hown, hnotIssued.2]
      exact ⟨rfl, fun _ => rfl⟩
    · rw [hother l hle] at hl ⊢
      obtain ⟨hopened, hw⟩ := h.reserve.opened l hl
      exact ⟨hopened, fun hdev => (hw (hcloses.device ▸ hdev)).trans (hcloses.issued l).2.symm⟩
    · rw [hle, hown] at hlo
      cases hlo
    · rw [hother l hle] at hl hlo ⊢
      exact h.reserve.written l hl hlo
  refine h.closes hlisted hcloses (h.journal.claims hclaim hcloses.base hjournal hlive) hreserve hother ?_ ?_ ?_
    (fun _ => hclosed) (absurd hclosed ·)
  · rw [hown]
    exact iff_of_true rfl ⟨hd, hopcode⟩
  · rw [hown, hopcode]
    simp
  · rw [hown, hopcode]
    simp

/-- A taken REINIT: every context is CLOSED, and the staged geometry is in force, FORMATTING (R18, R113). -/
theorem State.Laws.closesReinit (h : s.Laws) (hlisted : s.JobsListed) (hcloses : Closes s t e d)
    (hopcode : d.word.opcode = 7) (hclosed : ∀ k : Fin 4, s.contexts[k].state = .closed)
    (hvalid : s.stagedGeometry.placed s.windowBase = true) (hnot : s.journal.state ≠ .recovering)
    (hjournal : t.journal = { s.journal with state := .formatting, geometry := some s.stagedGeometry })
    (hcontexts : t.contexts = s.contexts) : t.Laws := by
  have hwindow : t.windowBase = s.windowBase := by simp only [State.windowBase, hcloses.base]
  have hnotLive (k : Fin 4) : s.contexts[k].live = false :=
    Bool.eq_false_iff.mpr fun hl => ((live_iff _).mp hl).1 (hclosed k)
  have hends := h.journal.tailAtHead hnot hnotLive
  refine h.closesOther hlisted hcloses (by simp [hopcode]) ?_ (by rw [hjournal]) hcontexts
  refine journalLaws_of_allClosed (by rw [hcontexts]; exact hclosed) (fun g hg => ?_) (fun _ => by rw [hjournal]; rfl)
    (fun _ => by rw [hjournal]; exact hends) ?_
  · rw [hjournal] at hg
    rw [hwindow, ← Option.some.inj hg]
    exact hvalid
  · rw [totalReserved_congr (s := s) (by rw [hjournal])]
    exact totalReserved_of_allClosed h.reserve hclosed

end

end Sys2Proof.Machine

/-! PROOF. The laws over every write and read at the U-port (R56 to R61, R97). -/

namespace Sys2Proof.Machine

section
variable {s : State}

theorem contexts_acceptWrite (w : WriteRequest) (a : Admitted) (s : State) :
    (acceptWrite w a s).contexts = (makeEffects w a s).contexts := by
  simp [acceptWrite]

theorem posts_acceptWrite (w : WriteRequest) (a : Admitted) (s : State) : Posts s (acceptWrite w a s) (s.entryOf w a) where
  base := by simp
  device := by simp
  work := by simp
  out := by simp [State.engineOut]
  queue := entries_acceptWrite w a s
  raised := raised_acceptWrite w a s

/-- A window word that closes no command leaves the contexts and the journal. -/
theorem windowTaken_quiet {e : WindowEffect} (h : e.commandClose = false) (s : State) :
    (windowTaken e s).contexts = s.contexts ∧ (windowTaken e s).journal = s.journal := by
  cases e with
  | close k | sequenceError k => cases h
  | setting c v | acknowledge v | stageBase j v | install j r | word0 k v | word1 k v => simp [windowTaken]

theorem openVerdict_taken {k : Requester} {a : Word} (h : s.openVerdict k a = .taken) :
    s.contexts[k].state = .closed ∧ s.canClaim 2 = true := by
  unfold State.openVerdict at h
  split at h
  · cases h
  · rename_i hclosed
    split at h
    · cases h
    · split at h
      · cases h
      · split at h
        · cases h
        · rename_i hclaim
          exact ⟨not_not.mp hclosed, by simpa using hclaim⟩

theorem endVerdict_taken {k : Requester} (h : s.endVerdict k = .taken) : s.contexts[k].state = .opened := by
  unfold State.endVerdict at h
  split at h
  · assumption
  · cases h

theorem allClosed_iff (s : State) : s.allClosed = true ↔ ∀ k : Fin 4, s.contexts[k].state = .closed := by
  unfold State.allClosed
  rw [List.all_eq_true]
  constructor
  · exact fun h k => by simpa using h s.contexts[k] (by simp)
  · intro h c hc
    obtain ⟨n, hn, rfl⟩ := List.getElem_of_mem hc
    simpa using h ⟨n, by simpa using hn⟩

/-- The effect of a decision's command, its slot aside. -/
def State.decided (s : State) (k : Requester) : State :=
  if (s.decisionOf k).verdict = .taken then
    commandTaken k (s.decisionOf k).word.opcode (s.slots[k].argA.getD 0) s else s

theorem closed_acceptWrite {w : WriteRequest} {k : Requester} (s : State) :
    (acceptWrite w (.window (.close k)) s).contexts = (s.decided k).contexts ∧
      (acceptWrite w (.window (.close k)) s).journal = (s.decided k).journal ∧
        (acceptWrite w (.window (.close k)) s).held = s.held := by
  refine ⟨?_, ?_, ?_⟩
  · rw [contexts_acceptWrite]
    simp [makeEffects, windowTaken, takeCommand_eq, State.decided]
  · rw [journal_acceptWrite]
    simp [makeEffects, windowTaken, takeCommand_eq, State.decided]
  · simp [acceptWrite, makeEffects]

theorem verdict_decisionOf (s : State) (k : Requester) :
    (s.decisionOf k).verdict = s.verdict k (s.decisionOf k).word.opcode (s.slots[k].argA.getD 0) := rfl

theorem decided_of_notTaken {k : Requester} (h : (s.decisionOf k).verdict ≠ .taken) : s.decided k = s := if_neg h

theorem decided_of_taken {k : Requester} (h : (s.decisionOf k).verdict = .taken) :
    s.decided k = commandTaken k (s.decisionOf k).word.opcode (s.slots[k].argA.getD 0) s := if_pos h

theorem contexts_openTaken (k : Requester) (a : Word) (s : State) : (commandTaken k 1 a s).contexts =
    (updContext k (fun _ => ⟨.opened, none, false, true, lineLimitOf a, 0, 0⟩) s).contexts := by
  simp [commandTaken, openTaken]

theorem journal_openTaken (k : Requester) (a : Word) (s : State) :
    (commandTaken k 1 a s).journal = (claim k 2 s).journal := by
  simp [commandTaken, openTaken, claim_journal]

theorem contexts_commitTaken (k : Requester) {a : Word} (s : State) : (commandTaken k 2 a s).contexts =
    (updContext k (fun c => { c with state := .closing }) s).contexts := rfl

theorem abortTaken_keeps (k : Requester) (a : Word) (s : State) :
    (commandTaken k 3 a s).contexts =
        (updContext k (fun c => { c with state := .aborting, restored := 0, failed := 0 }) s).contexts ∧
      (commandTaken k 3 a s).journal = s.journal := by
  simp [commandTaken, abortTaken]

section
variable (h : s.Laws) (hlisted : s.JobsListed)
include h hlisted

/-- A word that closes a command in order: the command is judged, and taken or refused (R104). -/
theorem closeCommand_laws (hstart : s.StartupCoherent) (hdev : s.device = .run) {w : WriteRequest}
    (hidle : s.slots[w.requester].phase ≠ .executing) : (acceptWrite w (.window (.close w.requester)) s).Laws := by
  obtain ⟨hcontexts, hjournal, hheld⟩ := closed_acceptWrite (w := w) (k := w.requester) s
  have hcloses : Closes s (acceptWrite w (.window (.close w.requester)) s) (s.entryOf w (.window (.close w.requester)))
      (s.decisionOf w.requester) :=
    { posts_acceptWrite w _ s with
      close := rfl
      bare := ⟨rfl, by simp [State.entryOf]⟩
      idle := hidle
      own := by rw [slots_acceptWrite]; exact (takeCommand_own w.requester s).2
      others := fun l hl => by rw [slots_acceptWrite]; exact (takeCommand_other hl s).2
      held := hheld }
  generalize acceptWrite w (.window (.close w.requester)) s = t at *
  have hplain (hd : ¬ ((s.decisionOf w.requester).verdict = .taken ∧ ((s.decisionOf w.requester).word.opcode = 1 ∨
      (s.decisionOf w.requester).word.opcode = 2 ∨ (s.decisionOf w.requester).word.opcode = 3)))
      (hsame : s.decided w.requester = s) : t.Laws := by
    rw [hsame] at hcontexts hjournal
    exact h.closesOther hlisted hcloses hd
      (h.journal.congr hcloses.base (by rw [hcloses.device]; exact id) hjournal (.of_eq hcontexts)) (by rw [hjournal]) hcontexts
  by_cases htaken : (s.decisionOf w.requester).verdict = .taken
  swap
  · exact hplain (fun hd => htaken hd.1) (decided_of_notTaken htaken)
  have hverdict := (verdict_decisionOf s w.requester).symm.trans htaken
  rw [decided_of_taken htaken] at hcontexts hjournal
  by_cases h1 : (s.decisionOf w.requester).word.opcode = 1
  · rw [h1] at hcontexts hjournal hverdict
    obtain ⟨hclosed, hclaim⟩ := openVerdict_taken hverdict
    have hopened := hcontexts.trans (contexts_openTaken w.requester _ s)
    exact h.closesOpen hlisted hcloses (by exact hclosed) hclaim htaken h1
      (hjournal.trans (journal_openTaken w.requester _ s)) (by exact hopened)
  by_cases h2 : (s.decisionOf w.requester).word.opcode = 2
  · rw [h2] at hcontexts hjournal hverdict
    have hended := hcontexts.trans (contexts_commitTaken w.requester s)
    exact h.closesEnd hlisted hcloses (f := fun c => { c with state := .closing }) (by exact endVerdict_taken hverdict)
      htaken (.inl h2) (fun c => ⟨by rw [if_pos h2], rfl, rfl, rfl, rfl⟩) hjournal (by exact hended)
  by_cases h3 : (s.decisionOf w.requester).word.opcode = 3
  · rw [h3] at hcontexts hjournal hverdict
    obtain ⟨hsame, hkept⟩ := abortTaken_keeps w.requester (s.slots[w.requester].argA.getD 0) s
    have hended := hcontexts.trans hsame
    exact h.closesEnd hlisted hcloses (f := fun c => { c with state := .aborting, restored := 0, failed := 0 })
      (by exact endVerdict_taken hverdict) htaken (.inr h3) (fun c => ⟨by rw [if_neg h2], rfl, rfl, rfl, rfl⟩)
      (hjournal.trans hkept) (by exact hended)
  by_cases h7 : (s.decisionOf w.requester).word.opcode = 7
  · rw [h7] at hcontexts hjournal hverdict
    obtain ⟨hclosed, -, hvalid⟩ := reinitVerdict_taken hverdict
    have hplaced : s.stagedGeometry.placed s.windowBase = true := ((Bool.and_eq_true _ _).mp hvalid).1
    exact h.closesReinit hlisted hcloses h7 ((allClosed_iff s).mp hclosed) hplaced (hstart.journal.2 hdev) hjournal hcontexts
  · refine hplain (fun hd => hd.2.elim h1 (·.elim h2 h3)) ?_
    rw [decided_of_taken htaken, commandTaken, if_neg h1, if_neg h2, if_neg h3, if_neg h7]

/-- A closing word out of order: the command is refused (R105). -/
theorem sequenceError_laws {w : WriteRequest} (hidle : s.slots[w.requester].phase ≠ .executing) :
    (acceptWrite w (.window (.sequenceError w.requester)) s).Laws := by
  have hcontexts : (acceptWrite w (.window (.sequenceError w.requester)) s).contexts = s.contexts := by
    simp [contexts_acceptWrite, makeEffects, windowTaken]
  have hjournal : (acceptWrite w (.window (.sequenceError w.requester)) s).journal = s.journal := by
    simp [journal_acceptWrite, makeEffects, windowTaken]
  refine h.closesOther hlisted (d := ⟨s.slots[w.requester].stagedWord, .refused .sequence⟩)
    { posts_acceptWrite w _ s with
      close := rfl
      bare := ⟨rfl, by simp [State.entryOf]⟩
      idle := hidle
      own := by rw [slots_acceptWrite]; exact (closeSlot_own w.requester _ s).2
      others := fun l hl => by rw [slots_acceptWrite]; exact (closeSlot_other hl _ s).2
      held := by simp [acceptWrite, makeEffects] }
    (by simp) (h.journal.congr (by simp) (by simp) hjournal (.of_eq hcontexts)) (by rw [hjournal]) hcontexts

theorem acceptWrite_laws (hstart : s.StartupCoherent) (hunit : s.unitFits) {w : WriteRequest} {a : Admitted}
    (hjudge : s.judge w = .accept a) : (acceptWrite w a s).Laws := by
  obtain ⟨hdev, -, haccepts⟩ := accepts_of_judge hjudge
  have hposts := posts_acceptWrite w a s
  cases haccepts with
  | plain =>
    exact h.posts hposts (by simp [State.entryOf]) rfl (by simp [State.entryOf]) (by simp [journal_acceptWrite, makeEffects])
      (by simp [contexts_acceptWrite, makeEffects]) (by simp [acceptWrite, makeEffects])
      (.of_eq (by simp [slots_acceptWrite, makeEffects]))
  | own hopen =>
    refine h.posts hposts (by simp [State.entryOf]) rfl (fun k hk => ?_) (by simp [journal_acceptWrite, makeEffects])
      (by simp [contexts_acceptWrite, makeEffects]) (by simp [acceptWrite, makeEffects])
      (.of_eq (by simp [slots_acceptWrite, makeEffects]))
    obtain rfl : w.requester = k := Option.some.inj hk
    exact hopen
  | capture hopen hnew hroom hlimit hclaim =>
    rw [lookupHeld_eq_none_iff] at hnew
    exact h.captures (line := lineOf w.address) hunit hposts rfl rfl rfl rfl hopen hnew hlimit hclaim
      (by simp [journal_acceptWrite, makeEffects]) (by simp [contexts_acceptWrite, makeEffects])
      (by simp [acceptWrite, makeEffects, insertHeld]) (by simp [slots_acceptWrite, makeEffects])
  | window e hslot =>
    cases hclose : e.commandClose with
    | false =>
      obtain ⟨hcontexts, hjournal⟩ := windowTaken_quiet hclose s
      exact h.posts hposts (by simp [State.entryOf]) hclose (by simp [State.entryOf])
        ((journal_acceptWrite w _ s).trans hjournal) ((contexts_acceptWrite w _ s).trans hcontexts)
        (by simp [acceptWrite, makeEffects]) (sameSlots_acceptWrite hclose)
    | true =>
      cases e with
      | close k =>
        obtain ⟨rfl, hidle⟩ := hslot k (.inl rfl)
        exact closeCommand_laws h hlisted hstart hdev hidle
      | sequenceError k =>
        obtain ⟨rfl, hidle⟩ := hslot k (.inr rfl)
        exact sequenceError_laws h hlisted hidle
      | setting c v | acknowledge v | stageBase j v | install j r | word0 k v | word1 k v => cases hclose

theorem judgeWrite_laws (hstart : s.StartupCoherent) (hunit : s.unitFits) (w : WriteRequest) : (judgeWrite w s).Laws := by
  have hraised := raised_judgeWrite w s
  cases hjudge : s.judge w with
  | accept a =>
    simp only [judgeWrite, hjudge]
    exact acceptWrite_laws h hlisted hstart hunit hjudge
  | retry | fault f =>
    simp only [judgeWrite, hjudge] at hraised ⊢
    exact h.frame hraised (by simp) (.inr ⟨by simp, by simp [State.engineOut]⟩) (by simp) (by simp) (by simp) (by simp)
      (by simp) (.of_eq (by simp))

omit hlisted in
theorem judgeRead_laws (r : ReadRequest) : (judgeRead r s).Laws :=
  h.frame (raised_judgeRead r s) (by simp) (.inr ⟨by simp, by simp [State.engineOut]⟩) (by simp) (by simp) (by simp) (by simp)
    (by simp) (.of_eq (by simp))

end

end

end Sys2Proof.Machine

/-! PROOF. The laws over every reply to the Start-up Controller (R157 to R168). -/

namespace Sys2Proof.Machine

/-! ## The ring over a move of start-up -/

/-- What a move of start-up leaves of the journal: the ring stands where it is placed, and outside RECOVERING the tail is
at the head. -/
structure RingStarts (s t : State) : Prop where
  reserved : t.journal.reserved = s.journal.reserved
  placed : ∀ g, t.journal.geometry = some g → g.placed s.windowBase = true
  held : t.device = .scan ∨ t.device = .playback ∨ t.counting = true → t.journal.geometry.isSome = true
  ends : t.journal.state ≠ .recovering → t.journal.tail = t.journal.head

theorem counting_of_recovering {s : State} (h : s.journal.state = .recovering) : s.counting = false := by
  simp [State.counting, h]

theorem counting_of_absent {s : State} {reason : AbsentReason} (h : s.journal.state = .absent reason) :
    s.counting = false := by
  simp [State.counting, h]

section
variable {s t : State} (h : s.JournalLaws) (hrecovering : s.journal.state = .recovering)
include h

include hrecovering in
/-- A step within the device state, or the stop. -/
theorem RingStarts.stays (hjournal : t.journal = s.journal)
    (hdev : t.device = .scan ∨ t.device = .playback → s.device = .scan ∨ s.device = .playback) : RingStarts s t where
  reserved := by rw [hjournal]
  placed g hg := h.ring g (hjournal ▸ hg)
  held hd := by
    rw [hjournal]
    have hcounting : t.counting = false := counting_of_recovering (by rw [hjournal]; exact hrecovering)
    rcases hd with hd | hd | hd
    · exact h.ringHeld ((hdev (.inl hd)).imp_right .inl)
    · exact h.ringHeld ((hdev (.inr hd)).imp_right .inl)
    · simp [hcounting] at hd
  ends hne := absurd (by rw [hjournal]; exact hrecovering) hne

/-- The journal is ABSENT, and RUN is entered (R159, R160, R164). -/
theorem RingStarts.toAbsent {reason : AbsentReason} {geometry : Option Geometry} (hdev : t.device = .run)
    (hgeometry : ∀ g, geometry = some g → s.journal.geometry = some g)
    (hjournal : t.journal = { s.journal with state := .absent reason, geometry := geometry, head := 0, tail := 0 }) :
    RingStarts s t where
  reserved := by rw [hjournal]
  placed g hg := h.ring g (hgeometry g (by rw [hjournal] at hg; exact hg))
  held hd := by
    have hcounting : t.counting = false := counting_of_absent (by rw [hjournal])
    simp [hdev, hcounting] at hd
  ends _ := by rw [hjournal]

/-- The journal goes on with a ring found in LOAD, its tail at its head when it is READY (R165, R167). -/
theorem RingStarts.goesOn (hringed : s.device = .scan ∨ s.device = .playback)
    (hreserved : t.journal.reserved = s.journal.reserved) (hgeometry : t.journal.geometry = s.journal.geometry)
    (hends : t.journal.state ≠ .recovering → t.journal.tail = t.journal.head) : RingStarts s t where
  reserved := hreserved
  placed g hg := h.ring g (hgeometry ▸ hg)
  held _ := by
    rw [hgeometry]
    exact h.ringHeld (hringed.imp_right .inl)
  ends := hends

end

@[simp] theorem journal_becomeReady (s : State) :
    (becomeReady s).journal = { s.journal with state := .ready, tail := s.journal.head } := by
  simp only [becomeReady, lowTestAtReady_frame]

@[simp] theorem reserved_raiseHead (s : State) : (raiseHead s).journal.reserved = s.journal.reserved := by
  unfold raiseHead
  split <;> rfl

theorem takeHead_keepsRing (m : Option Seq) (s : State) : (takeHead m s).journal.geometry = s.journal.geometry ∧
    (takeHead m s).journal.reserved = s.journal.reserved := by
  cases m with
  | none => exact ⟨rfl, rfl⟩
  | some q => exact ⟨geometry_raiseHead _, reserved_raiseHead _⟩

theorem placed_of_decodeDescriptor {window : Nat} {line : Line} {g : Geometry} (hdec : decodeDescriptor window line = some g) :
    g.placed window = true := by
  rw [decodeDescriptor_eq, Option.ite_none_right_eq_some] at hdec
  obtain ⟨⟨-, -, hplaced⟩, hg⟩ := hdec
  exact Option.some.inj hg ▸ hplaced

theorem device_enterRunUnplayed (s : State) : (enterRunUnplayed s).device = .run := device_enterRun _

/-! ## LOAD -/

section
variable {s : State} (h : s.JournalLaws) (hrecovering : s.journal.state = .recovering)
include h

theorem descriptorInvalid_ring {u : State} (hjournal : u.journal = s.journal) : RingStarts s (descriptorInvalid u) :=
  .toAbsent h (reason := .descriptorInvalid) (geometry := none) (device_enterRunUnplayed _) (fun g hg => by cases hg)
    (by simp only [descriptorInvalid, enterRunUnplayed_frame, enterAbsent, hjournal])

include hrecovering in
theorem descriptorAnswered_ring (r : Reply) : RingStarts s (descriptorAnswered r s) := by
  cases hline : r.soundLine with
  | none =>
    rw [descriptorAnswered_of_unreadable hline]
    exact descriptorInvalid_ring h (by simp)
  | some line =>
    cases hdec : decodeDescriptor s.windowBase line with
    | none =>
      rw [descriptorAnswered_of_invalid hline hdec]
      exact descriptorInvalid_ring h rfl
    | some g =>
      rw [descriptorAnswered_of_valid hline hdec]
      exact {
        reserved := rfl
        placed := fun g' hg => (Option.some.inj hg) ▸ placed_of_decodeDescriptor hdec
        held := fun _ => rfl
        ends := fun hne => absurd hrecovering hne }

/-! ## SCAN -/

theorem scanFails_ring {u : State} (hjournal : u.journal = s.journal) (addr : Addr) : RingStarts s (scanFails addr u) :=
  .toAbsent h (reason := .scanFailed) (geometry := s.journal.geometry) (device_enterRunUnplayed _) (fun _ hg => hg)
    (by simp only [scanFails, enterRunUnplayed_frame, raiseError_frame, enterAbsent, hjournal])

include hrecovering in
theorem scanEnds_ring (hscan : s.device = .scan) {u : State} (hjournal : u.journal = s.journal) :
    RingStarts s (scanEnds u) := by
  have hfoundJournal : u.scanFound.journal = s.journal := hjournal
  have htaken (m : Option Seq) : (takeHead m u.scanFound).journal.reserved = s.journal.reserved ∧
      (takeHead m u.scanFound).journal.geometry = s.journal.geometry := by
    obtain ⟨hgeometry, hreserved⟩ := takeHead_keepsRing m u.scanFound
    exact ⟨hreserved.trans (by rw [hfoundJournal]), hgeometry.trans (by rw [hfoundJournal])⟩
  cases hfound : unfinishedOf (foundRun u.startup.summary u.slotCount) with
  | nil =>
    rw [scanEnds_of_finished hfound]
    exact .goesOn h (.inl hscan) (by simpa using (htaken _).1) (by simpa using (htaken _).2) (by simp)
  | cons e rest =>
    cases hm : highestSeq u.startup.summary with
    | none => simp [foundRun_of_none hm, unfinishedOf] at hfound
    | some q =>
      rw [scanEnds_of_unfinished hm hfound]
      split
      · refine .goesOn h (.inl hscan) (htaken _).1 (htaken _).2 fun hne => absurd ?_ hne
        simpa [hfoundJournal] using hrecovering
      · exact scanFails_ring h hfoundJournal _

include hrecovering in
theorem scanAnswered_ring (hscan : s.device = .scan) (r : Reply) : RingStarts s (scanAnswered r s) := by
  cases hline : r.soundLine with
  | none =>
    rw [scanAnswered_of_unreadable hline]
    exact scanFails_ring h rfl _
  | some line =>
    by_cases hmore : s.startup.nextSlot + 1 < s.slotCount
    · rw [scanAnswered_of_more hline hmore]
      exact .stays h hrecovering rfl (fun _ => .inl hscan)
    · rw [scanAnswered_of_last hline hmore]
      exact scanEnds_ring h hrecovering hscan rfl

/-! ## PLAYBACK -/

include hrecovering in
theorem markerAnswered_ring (hplayback : s.device = .playback) (i : Nat) (r : Reply) : RingStarts s (markerAnswered i r s) := by
  cases r with
  | done =>
    by_cases hmore : i + 1 < s.startup.unfinished.length
    · rw [show markerAnswered i .done s = markerDone i s from rfl, markerDone_of_more hmore]
      exact .stays h hrecovering rfl (fun _ => .inr hplayback)
    · rw [show markerAnswered i .done s = markerDone i s from rfl, markerDone_of_last hmore]
      exact .goesOn h (.inr hplayback) (by simp) (by simp) (by simp)
  | data _ _ | fail | unbacked =>
    exact .stays h hrecovering (t := stopDevice s) (by simp) (fun _ => .inr hplayback)

include hrecovering in
/-- Every reply to the Start-up Controller, by its step. -/
theorem startupAnswered_ring (hstarting : s.device.starting) (hstep : s.stepAllowed) (r : Reply) :
    RingStarts s (startupAnswered r s) := by
  unfold startupAnswered
  rcases hstarting with hload | hscan | hplayback
  · rcases (stepAllowed_load_iff hload).mp hstep with hs | ⟨second, hs⟩ | hs <;> rw [hs]
    · exact .stays h hrecovering (by simp) (by simp [hload])
    · exact .stays h hrecovering (by simp) (by simp [hload])
    · exact descriptorAnswered_ring h hrecovering r
  · obtain ⟨hs, -⟩ := (stepAllowed_scan_iff hscan).mp hstep
    rw [hs]
    exact scanAnswered_ring h hrecovering hscan r
  · rcases (stepAllowed_playback_iff hplayback).mp hstep with ⟨hs | ⟨header, hs⟩ | ⟨line, image, poison, good, hs⟩, -⟩ | ⟨i, hs, -⟩ <;>
      rw [hs]
    · exact .stays h hrecovering (by simp) (fun _ => .inr hplayback)
    · exact .stays h hrecovering (by simp) (fun _ => .inr hplayback)
    · exact .stays h hrecovering (by simp) (fun _ => .inr hplayback)
    · exact markerAnswered_ring h hrecovering hplayback i r

end

/-! ## The laws -/

/-- Before RUN every context is CLOSED (R170). -/
theorem State.Laws.allClosed {s : State} (h : s.Laws) (hstart : s.StartupCoherent) (hstarting : s.device.starting) (k : Fin 4) :
    s.contexts[k].state = .closed :=
  h.journal.ready (by simp [hstart.recovering hstarting]) k

theorem startupReply_laws {s : State} (h : s.Laws) (hstart : s.StartupCoherent) (hstarting : s.device.starting) (r : Reply) :
    (startupAnswered r (releasePort s)).Laws := by
  have hclosed := h.allClosed hstart hstarting
  have hunused := hstart.unused (.inr hstarting)
  have hreleased : (releasePort s).JournalLaws := h.journal.congr rfl id rfl (.of_eq rfl)
  have hring := startupAnswered_ring hreleased (hstart.recovering hstarting) hstarting
    (stepAllowed_congr (by exact rfl) rfl rfl hstart.step) r
  have hcontexts : (startupAnswered r (releasePort s)).contexts = s.contexts := by simp [releasePort]
  have htotal : (startupAnswered r (releasePort s)).totalReserved = 0 :=
    (totalReserved_congr (s := s) hring.reserved).trans (totalReserved_of_allClosed h.reserve hclosed)
  have hplaced : ∀ g, (startupAnswered r (releasePort s)).journal.geometry = some g →
      g.placed (startupAnswered r (releasePort s)).windowBase = true := by
    rw [show (startupAnswered r (releasePort s)).windowBase = (releasePort s).windowBase by simp [State.windowBase]]
    exact hring.placed
  exact h.starts hclosed
    (journalLaws_of_allClosed (by rw [hcontexts]; exact hclosed) hplaced hring.held hring.ends htotal) hring.reserved
    hcontexts (by simp [releasePort]) (by simp [releasePort]) hunused.work (by simpa using hunused.work)
    (.of_eq (by simp [releasePort])) ((Raised.of_eq rfl rfl).trans (raised_startupAnswered r (releasePort s)))
    (engineOut_of_free (by simp [releasePort]))

end Sys2Proof.Machine

/-! PROOF. The room that an allocation finds at the head, over the choice, the grant and the events (R13, log 6). -/

namespace Sys2Proof.Machine

/-- No unit in progress and no job allocates a record. -/
def State.AllocatesNothing (s : State) : Prop :=
  (∀ w, s.engine.work = some w → w.allocates = false) ∧ ∀ j ∈ s.jobs, ¬ j.next.isRecord

/-- Within an event that began short of the last sequence: the head is short of it still, or no record is allocated before
the event's end. -/
def State.HeadRoom (s : State) : Prop :=
  s.journal.head ≠ lastSequence ∨ s.dport.outstanding ≠ none ∨ s.device ≠ .run ∨ s.AllocatesNothing

theorem not_isRecord_of_statusUnit {j : Job} (hfits : j.fits) (howner : j.owner = .statusUnit) : ¬ j.next.isRecord := by
  simp [next_of_statusUnit hfits howner, JobStep.isRecord, JobStep.endsEpoch]

theorem allocates_firstStep (e : PostedEntry) : (WorkUnit.entry e.firstStep).allocates = false := by
  unfold PostedEntry.firstStep
  split <;> rfl

theorem allocates_jobUnit {s : State} {j : Job} (hfits : j.fits) (hnext : ¬ j.next.isRecord) :
    (s.jobUnit j).allocates = false := by
  rcases jobUnit_cases s hfits with ⟨k, line, q, -, -, -, hunit⟩ | ⟨k, -, hrestore, -, -⟩ | ⟨-, hunit⟩ | ⟨k, -, -, -, hunit⟩
  · rw [hunit]
    rfl
  · exact absurd (.inr (.inr (.inl hrestore))) hnext
  · rw [hunit]
    rfl
  · rw [hunit]
    cases hn : j.next with
    | openRecord | commitMarker | abortedMarker => simp [hn, JobStep.isRecord, JobStep.endsEpoch] at hnext
    | restore | descriptorInvalidate | formatSlot i | descriptorWrite | statusRecord | result => rfl

theorem chooseUnit_allocatesNothing {s : State} (h : s.AllocatesNothing) (hfits : ∀ j ∈ s.jobs, j.fits) :
    (chooseUnit s).AllocatesNothing := by
  have hchooses := chooses s
  generalize chooseUnit s = t at hchooses
  cases hchooses with
  | stays => exact h
  | entry e rest => exact ⟨fun w hw => Option.some.inj hw ▸ allocates_firstStep e, h.2⟩
  | job j rest _ _ hjobs =>
    have hj : j ∈ s.jobs := by simp [hjobs]
    exact ⟨fun w hw => Option.some.inj hw ▸ allocates_jobUnit (hfits j hj) (h.2 j hj), h.2⟩

theorem chooseUnit_headRoom {s : State} (h : s.HeadRoom) (hfits : ∀ j ∈ s.jobs, j.fits) : (chooseUnit s).HeadRoom := by
  rcases h with hhead | hout | hdev | hnothing
  · exact .inl (by simpa using hhead)
  · exact .inr (.inl (by simpa using hout))
  · exact .inr (.inr (.inl (by simpa using hdev)))
  · exact .inr (.inr (.inr (chooseUnit_allocatesNothing hnothing hfits)))

/-- In RUN, with the D-port free, the unit chosen finds the room its allocation needs. -/
theorem State.HeadRoom.toAllocate {s : State} (h : s.HeadRoom) (hdev : s.device = .run) (hfree : s.dport.outstanding = none) :
    s.RoomToAllocate := by
  intro w hw hallocates
  rcases h with hhead | hout | hnotRun | ⟨hnone, -⟩
  · exact hhead
  · exact absurd hfree hout
  · exact absurd hdev hnotRun
  · simp [hnone w hw] at hallocates

/-- A grant that issues leaves a request outstanding; one that does not leaves the unit and the jobs. -/
theorem grant_headRoom {s : State} (h : s.HeadRoom) : (grant s).HeadRoom := by
  cases hfree : s.dport.outstanding with
  | some o => rwa [grant_of_out hfree]
  | none =>
    have hgrants := grants hfree
    generalize grant s = t at hgrants
    cases hgrants with
    | stays => exact h
    | unheld rest => exact h
    | startup | engine | straight | deferred | patrol => exact .inr (.inl (by simp [issueRequest]))

/-- Nothing of the D-port, the device and the Write Engine moves, the head stays, and jobs are only raised. -/
theorem State.HeadRoom.raised {s t : State} (h : s.HeadRoom) (hraised : Raised s t) (hfits : ∀ j ∈ t.jobs, j.fits)
    (hhead : t.journal.head = s.journal.head) (hout : t.dport.outstanding = s.dport.outstanding)
    (hdev : t.device = s.device) (hwork : t.engine.work = s.engine.work) : t.HeadRoom := by
  unfold State.HeadRoom State.AllocatesNothing at *
  rw [hhead, hout, hdev, hwork]
  refine h.imp_right (.imp_right (.imp_right fun ⟨hnone, hjobs⟩ => ⟨hnone, fun j hj => ?_⟩))
  by_cases howner : j.owner = .statusUnit
  · exact not_isRecord_of_statusUnit (hfits j hj) howner
  · exact hjobs j ((hraised.sameSlotJobs j howner).mp hj)

/-- With every context CLOSED no job has a record to write. -/
theorem State.Laws.noRecordJob {s : State} (h : s.Laws) (hclosed : ∀ k : Fin 4, s.contexts[k].state = .closed)
    (hfits : ∀ j ∈ s.jobs, j.fits) {j : Job} (hj : j ∈ s.jobs) : ¬ j.next.isRecord := by
  cases howner : j.owner with
  | statusUnit => exact not_isRecord_of_statusUnit (hfits j hj) howner
  | slot k =>
    have hcontext : s.contexts[k].state = .closed := hclosed k
    rintro (hopen | hcommit | habort)
    · have hopened := (h.reserve.opened k ((h.command.opening k).mpr (.inr ⟨j, hj, howner, hopen⟩))).1
      rw [hcontext] at hopened
      cases hopened
    · have hclosing := (h.command.closing k).mpr (.inr ⟨j, hj, howner, hcommit⟩)
      rw [hcontext] at hclosing
      cases hclosing
    · have haborting := (h.command.aborting k).mpr (.inr ⟨j, hj, howner, habort⟩)
      rw [hcontext] at haborting
      cases haborting

/-! ## The replies -/

/-- A reply to the Write Engine leaves the head, or takes it to 0 at the end of a format (R20). -/
theorem head_of_engineReplies {s t : State} (h : EngineReplies s t) :
    t.journal.head = s.journal.head ∨ t.journal.head = 0 := by
  cases h with
  | jobWrite step j rest =>
    cases step with
    | descriptorWrite => exact .inr (by simp [jobWriteDone, descriptorWriteDone])
    | commitMarker => exact .inl (by simp [jobWriteDone, commitMarkerDone, closeContext, journal_recomputeTail])
    | abortedMarker => exact .inl (by simp [jobWriteDone, abortedMarkerDone, closeContext, journal_recomputeTail])
    | openRecord | restore | descriptorInvalidate | formatSlot i | statusRecord | result => exact .inl (by simp [jobWriteDone])
  | _ => exact .inl (by simp [captureRead])

/-! ## A write -/

@[simp] theorem head_claim (k : Requester) (n : Nat) (s : State) : (claim k n s).journal.head = s.journal.head := by
  rw [claim_journal]

theorem head_commandTaken (k : Requester) (opcode : BitVec 4) (a : Word) (s : State) :
    (commandTaken k opcode a s).journal.head = s.journal.head := by
  unfold commandTaken
  (repeat' split)
  · simp [openTaken]
  · rfl
  · simp
  · rfl
  · rfl

theorem head_windowTaken (e : WindowEffect) (s : State) : (windowTaken e s).journal.head = s.journal.head := by
  cases e with
  | close k =>
    simp only [windowTaken, takeCommand, closeSlot_frame]
    split
    · exact head_commandTaken k _ _ s
    · rfl
  | setting c v | acknowledge v | stageBase j v | install j r | word0 k v | word1 k v | sequenceError k => simp [windowTaken]

/-- A write allocates nothing. -/
theorem head_judgeWrite (w : WriteRequest) (s : State) : (judgeWrite w s).journal.head = s.journal.head := by
  unfold judgeWrite
  split
  · simp
  · simp
  · rename_i a _
    rw [journal_acceptWrite]
    cases a with
    | bare context => rfl
    | capture => simp [makeEffects]
    | window e => exact head_windowTaken e s

end Sys2Proof.Machine

/-! PROOF. Every event keeps `State.Accounted`: O49. -/

namespace Sys2Proof.Machine

/-- What the second half of O49 keeps within an event. -/
structure State.SpaceKept (s : State) : Prop where
  coherent : s.Coherent
  start : s.StartupCoherent
  listed : s.JobsListed
  unit : s.unitFits
  laws : s.Laws
  room : s.HeadRoom

/-- What it asks of the state before an event. -/
def State.SpaceBefore (s : State) : Prop := s.SpaceKept ∧ s.journal.head ≠ lastSequence

/-! ## The choice and the grant -/

theorem chooseUnit_startupCoherent {s : State} (h : s.StartupCoherent) : (chooseUnit s).StartupCoherent := by
  by_cases hdev : s.device = .run
  · exact startupCoherent_of_run (by simpa using hdev) (by simpa using h.idle hdev)
      (fun o ho => h.client_ne_startup hdev (by simpa using ho)) (by simpa using h.journal.2 hdev)
  · rwa [chooseUnit_of_notRun hdev]

theorem settle_laws {s : State} (h : s.SpaceKept) : (settle s).Laws :=
  grant_laws (chooseUnit_laws h.laws h.listed.fits) (chooseUnit_startupCoherent h.start) (by simpa using h.coherent.heldOnce)
    (chooseUnit_unitFits h.unit h.listed.fits) (chooseUnit_headRoom h.room h.listed.fits).toAllocate

theorem settle_spaceKept {s : State} (h : s.SpaceKept) : (settle s).SpaceKept := by
  obtain ⟨hstart, hlisted, hunit⟩ := settle_jobsKept h.start h.listed h.unit
  exact ⟨settle_coherent h.coherent, hstart, hlisted, hunit, settle_laws h, grant_headRoom (chooseUnit_headRoom h.room h.listed.fits)⟩

/-! ## Reset and the entry into LOAD -/

theorem afterReset_laws (cwb : BitVec 16) (s : State) : (afterReset cwb s).Laws :=
  (accounted_iff _).mp { reset_accounted with ring := fun g hg => by cases hg }

theorem enterLoad_laws {s : State} (h : s.Laws) (hstart : s.StartupCoherent) (hdev : s.device = .start) :
    (enterLoad s).Laws :=
  have hunused := hstart.unused (.inl hdev)
  have hclosed := h.journal.ready (by simp [hstart.journal.1 (.inl hdev)])
  h.starts hclosed (h.journal.congr rfl (by simp) rfl (.of_eq rfl)) rfl rfl rfl rfl hunused.work hunused.work (.of_eq rfl)
    (.of_eq rfl rfl) (engineOut_of_free (hstart.quiet (.inl hdev)))

theorem afterReset_spaceKept (cwb : BitVec 16) (s : State) : (afterReset cwb s).SpaceKept := by
  obtain ⟨hlisted, hunit⟩ := afterReset_jobsListed cwb s
  exact ⟨afterReset_coherent cwb s, afterReset_startupCoherent cwb s, hlisted, hunit, afterReset_laws cwb s,
    .inr (.inr (.inl (fun hrun => by cases hrun)))⟩

theorem enterLoad_spaceKept {s : State} (h : s.SpaceKept) (hdev : s.device = .start) : (enterLoad s).SpaceKept where
  coherent := enterLoad_coherent h.coherent
  start := enterLoad_startupCoherent h.start hdev
  listed := h.listed.congr rfl rfl rfl rfl rfl
  unit := h.unit.congr rfl rfl
  laws := enterLoad_laws h.laws h.start hdev
  room := .inr (.inr (.inl (fun hrun => by cases hrun)))

/-! ## A reply -/

section
variable {s : State} (h : s.SpaceBefore) {o : Outstanding} (ho : s.dport.outstanding = some o)
include h ho

theorem handToClient_start (r : Reply) : (handToClient o.client r (releasePort s)).StartupCoherent := by
  obtain ⟨hkept, -⟩ := h
  rcases s.device.cases_starting with hdev | hdev | hdev | hdev
  · simp [hkept.start.quiet (.inl hdev)] at ho
  · exact (handToClient_startupCoherent_of_starting hkept.start hdev ho r).2
  · exact handToClient_startupCoherent_of_run hkept.start hdev ho r
  · simp [hkept.start.quiet (.inr hdev)] at ho

theorem device_of_outstanding : s.device.starting ∨ s.device = .run := by
  obtain ⟨hkept, -⟩ := h
  rcases s.device.cases_starting with hdev | hdev | hdev | hdev
  · simp [hkept.start.quiet (.inl hdev)] at ho
  · exact .inl hdev
  · exact .inr hdev
  · simp [hkept.start.quiet (.inr hdev)] at ho

/-- A reply to a reader or to the Patrol Unit leaves all that the laws read. -/
theorem otherReply_laws (hengine : o.client ≠ .writeEngine) (hstartup : o.client ≠ .startup) (r : Reply) :
    (handToClient o.client r (releasePort s)).Laws ∧
      (handToClient o.client r (releasePort s)).journal.head = s.journal.head := by
  obtain ⟨hkept, -⟩ := h
  have hraised : Raised s (handToClient o.client r (releasePort s)) :=
    (Raised.of_eq (t := releasePort s) rfl rfl).trans (raised_handToClient hengine r _)
  have hout : (handToClient o.client r (releasePort s)).engineOut = s.engineOut := by
    rw [engineOut_of_free ((handToClient_port _ _ _).1.trans rfl), engineOut_of_client ho]
    exact (beq_eq_false_iff_ne.mpr hengine).symm
  have hdev : (handToClient o.client r (releasePort s)).device = .stopped ∨
      (handToClient o.client r (releasePort s)).device = s.device ∧
        (handToClient o.client r (releasePort s)).engineOut = s.engineOut := by
    rcases handToClient_stops hstartup r (releasePort s) with hsame | hstops
    · exact .inr ⟨hsame, hout⟩
    · exact .inl (by rw [hstops]; exact device_stopDevice _)
  have hframe : (handToClient o.client r (releasePort s)).journal = s.journal ∧
      (handToClient o.client r (releasePort s)).contexts = s.contexts ∧
      (handToClient o.client r (releasePort s)).held = s.held ∧ (handToClient o.client r (releasePort s)).queue = s.queue ∧
      (handToClient o.client r (releasePort s)).engine.work = s.engine.work ∧
      (handToClient o.client r (releasePort s)).slots = s.slots := by
    cases hc : o.client with
    | writeEngine => exact absurd hc hengine
    | startup => exact absurd hc hstartup
    | straightRead | deferredRead key | patrol => simp [handToClient, releasePort]
  obtain ⟨hjournal, hcontexts, hheld, hqueue, hwork, hslots⟩ := hframe
  exact ⟨hkept.laws.frame hraised (by simp [releasePort]) hdev hjournal hcontexts hheld (by rw [hqueue]) hwork (.of_eq hslots),
    by rw [hjournal]⟩

theorem handToClient_laws (r : Reply) : (handToClient o.client r (releasePort s)).Laws := by
  have hkept := h.1
  rcases device_of_outstanding h ho with hstarting | hdev
  · rw [hkept.start.client_startup hstarting ho]
    exact startupReply_laws hkept.laws hkept.start hstarting r
  · by_cases hengine : o.client = .writeEngine
    · have hissued : s.engineOut = true := by rw [engineOut_of_client ho, hengine]; rfl
      rw [hengine]
      exact engineReplies_laws hkept.laws hkept.listed hkept.unit hkept.coherent.heldOnce hdev hissued hkept.coherent
        (engineReplies r _)
    · exact (otherReply_laws h ho hengine (hkept.start.client_ne_startup hdev ho) r).1

theorem handToClient_headRoom (r : Reply) : (handToClient o.client r (releasePort s)).HeadRoom := by
  obtain ⟨hkept, hlast⟩ := h
  have hlaws := handToClient_laws ⟨hkept, hlast⟩ ho r
  obtain ⟨hlisted, -⟩ := handToClient_jobsCoherent hkept.start hkept.listed hkept.unit ho r
  rcases device_of_outstanding ⟨hkept, hlast⟩ ho with hstarting | hdev
  · have hclosed := hkept.laws.allClosed hkept.start hstarting
    have hunused := hkept.start.unused (.inr hstarting)
    rw [hkept.start.client_startup hstarting ho] at hlaws hlisted ⊢
    refine .inr (.inr (.inr ⟨fun w hw => ?_, fun j hj => hlaws.noRecordJob ?_ hlisted.fits hj⟩))
    · simp [handToClient, hunused.work] at hw
    · simpa [handToClient] using hclosed
  · by_cases hengine : o.client = .writeEngine
    · rw [hengine]
      rcases head_of_engineReplies (engineReplies r (releasePort s)) with hhead | hhead
      · exact .inl (by rw [show handToClient .writeEngine r (releasePort s) = engineAnswered r (releasePort s) from rfl, hhead]; exact hlast)
      · exact .inl (by rw [show handToClient .writeEngine r (releasePort s) = engineAnswered r (releasePort s) from rfl, hhead]; decide)
    · exact .inl (by
        rw [(otherReply_laws ⟨hkept, hlast⟩ ho hengine (hkept.start.client_ne_startup hdev ho) r).2]
        exact hlast)

theorem handToClient_spaceKept (r : Reply) : (handToClient o.client r (releasePort s)).SpaceKept := by
  have hkept := h.1
  obtain ⟨hlisted, hunit⟩ := handToClient_jobsCoherent hkept.start hkept.listed hkept.unit ho r
  exact ⟨handToClient_coherent hkept.coherent ho r, handToClient_start h ho r, hlisted, hunit, handToClient_laws h ho r,
    handToClient_headRoom h ho r⟩

end

/-! ## Timers and requests -/

theorem discardExpires_spaceKept {s : State} (h : s.SpaceKept) (key : ReadRequest) : (discardExpires key s).SpaceKept := by
  obtain ⟨hstart, hlisted, hunit⟩ := jobsKept_events.discards key s ⟨h.start, h.listed, h.unit⟩
  have hraised : Raised s (discardExpires key s) := .inl ⟨by simp, dirty_discardExpires key s⟩
  exact ⟨discardExpires_coherent h.coherent key, hstart, hlisted, hunit,
    h.laws.frame hraised (by simp) (.inr ⟨by simp, by simp [State.engineOut]⟩) (by simp) (by simp) (by simp) (by simp) (by simp)
      (.of_eq (by simp)),
    h.room.raised hraised hlisted.fits (by simp) (by simp) (by simp) (by simp)⟩

theorem patrolExpires_spaceKept {s : State} (h : s.SpaceKept) : (patrolExpires s).SpaceKept := by
  have hraised : Raised s (patrolExpires s) := .of_eq (by simp) (by simp)
  have hlisted : (patrolExpires s).JobsListed := h.listed.congr (by simp) (by simp) (by simp) (by simp) (by simp)
  exact ⟨patrolExpires_coherent h.coherent, patrolExpires_startupCoherent h.start, hlisted,
    h.unit.congr (by simp) (by simp),
    h.laws.frame hraised (by simp) (.inr ⟨by simp, by simp [State.engineOut]⟩) (by simp) (by simp) (by simp) (by simp) (by simp)
      (.of_eq (by simp)),
    h.room.raised hraised hlisted.fits (by simp) (by simp) (by simp) (by simp)⟩

/-- A change of the U-port's answers or of what waits at it. -/
theorem uport_spaceKept {s t : State} (h : s.SpaceKept) (hcoherent : t.Coherent) (hstart : t.StartupCoherent)
    (ht : t = { s with uport := t.uport }) : t.SpaceKept := by
  have hjobs : t.jobs = s.jobs := by rw [ht]
  have hraised : Raised s t := .of_eq hjobs (by rw [ht])
  have hlisted : t.JobsListed :=
    h.listed.congr hjobs (by rw [ht]) (by rw [ht]) (by rw [ht]) (by rw [ht])
  exact ⟨hcoherent, hstart, hlisted, h.unit.congr (by rw [ht]) hjobs,
    h.laws.frame hraised (by rw [ht]) (.inr ⟨by rw [ht], by rw [ht]; rfl⟩) (by rw [ht]) (by rw [ht]) (by rw [ht])
      (by rw [ht]) (by rw [ht]) (.of_eq (by rw [ht])),
    h.room.raised hraised hlisted.fits (by rw [ht]) (by rw [ht]) (by rw [ht]) (by rw [ht])⟩

section
variable {s : State} (h : s.SpaceKept)
include h

theorem giveAnswer_spaceKept (k : Requester) (a : Answer) : (giveAnswer k a s).SpaceKept :=
  uport_spaceKept h { h.coherent with } (giveAnswer_startupCoherent h.start k a) rfl

theorem judgeWrite_spaceKept (hdev : s.device = .run) (w : WriteRequest) : (judgeWrite w s).SpaceKept := by
  have hlisted := judgeWrite_jobsListed h.listed w
  have hraised := raised_judgeWrite w s
  exact ⟨judgeWrite_coherent h.coherent w, judgeWrite_startupCoherent h.start hdev w, hlisted,
    unitFits_of_prefix h.unit (by simp) hraised.jobs_isPrefix, judgeWrite_laws h.laws h.listed h.start h.unit w,
    h.room.raised hraised hlisted.fits (head_judgeWrite w s) (by simp) (by simp) (by simp)⟩

theorem judgeRead_spaceKept (hdev : s.device = .run) (hfree : s.uport.inProgress = none) (r : ReadRequest) :
    (judgeRead r s).SpaceKept := by
  have hraised := raised_judgeRead r s
  have hlisted : (judgeRead r s).JobsListed := h.listed.raised hraised (by simp) (.of_eq (by simp)) (by simp)
  exact ⟨judgeRead_coherent h.coherent hfree r, judgeRead_startupCoherent h.start hdev r, hlisted,
    unitFits_of_prefix h.unit (by simp) hraised.jobs_isPrefix, judgeRead_laws h.laws r,
    h.room.raised hraised hlisted.fits (by simp) (by simp) (by simp) (by simp)⟩

theorem takeRequest_spaceKept (hfree : s.uport.inProgress = none) (q : UportRequest) : (takeRequest q s).SpaceKept := by
  have hanswered (a : Answer) : (settle (giveAnswer q.requester a s)).SpaceKept :=
    settle_spaceKept (giveAnswer_spaceKept h q.requester a)
  rcases s.device.cases_starting with hdev | hdev | hdev | hdev
  · rw [takeRequest_of_starting (.inl hdev)]
    exact hanswered _
  · rw [takeRequest_of_starting (.inr hdev)]
    exact hanswered _
  · cases q with
    | write w => exact settle_spaceKept (judgeWrite_spaceKept h hdev w)
    | read r => exact settle_spaceKept (judgeRead_spaceKept h hdev hfree r)
  · rw [takeRequest_of_stopped hdev]
    exact hanswered _

end

/-! ## Every event -/

theorem spaceKept_events : EventsLead State.SpaceBefore State.SpaceKept where
  start _ h := h.1
  resets cwb s _ := afterReset_spaceKept cwb s
  resetLoads cwb s _ := settle_spaceKept (enterLoad_spaceKept (afterReset_spaceKept cwb s) rfl)
  loads _ h hdev := settle_spaceKept (enterLoad_spaceKept h.1 hdev)
  replies _ r _ h ho _ := settle_spaceKept (handToClient_spaceKept h ho r)
  discards key _ h := discardExpires_spaceKept h.1 key
  patrols _ h := settle_spaceKept (patrolExpires_spaceKept h.1)
  requests q _ h hfree := takeRequest_spaceKept h hfree q
  waits l _ h := uport_spaceKept h (waiting_coherent h.coherent l) { h.start with } rfl

theorem pending_spaceBefore {s : State} (rest : List Instr) (h : s.SpaceBefore) :
    State.SpaceBefore { s with pending := rest } :=
  ⟨⟨pending_coherent h.1.coherent rest, { h.1.start with }, h.1.listed.congr rfl rfl rfl rfl rfl, h.1.unit.congr rfl rfl,
    h.1.laws.frame (.of_eq rfl rfl) rfl (.inr ⟨rfl, rfl⟩) rfl rfl rfl rfl rfl (.of_eq rfl), h.1.room⟩, h.2⟩

/-- Settles O49: the operations of the journal keep the space law, and every step keeps `State.Accounted`. -/
theorem eventsKeepTheSpaceLaw : Obligations.EventsKeepTheSpaceLaw := by
  refine ⟨operations_keepSpace, fun s t hcoherent hstart hjobs haccounted hlast hstep => (accounted_iff t).mpr ?_⟩
  obtain ⟨hlisted, hunit⟩ := (jobsCoherent_iff s).mp hjobs
  have hbefore : s.SpaceBefore :=
    ⟨⟨hcoherent, hstart, hlisted, hunit, (accounted_iff s).mp haccounted, .inl hlast⟩, hlast⟩
  exact (step_leads spaceKept_events (fun _ => pending_spaceBefore) hbefore hstep).laws

end Sys2Proof.Machine
